-- ==== Sys2Proof/Word.lean ====
section
/-! DEFINITION. The byte of the station lines, and the plain index types and banks of the part: two decks,
four lanes, four barriers, six ports, sixteen channels and twelve conditioned inputs (R52, R107, R125, R149, R197). -/

namespace Sys2Proof

/-- One character of a station line (R198: eight data bits). -/
abbrev Byte := BitVec 8

/-- A yard-clock date (R36). -/
structure Date where
  year : Nat
  month : Nat
  day : Nat
  deriving DecidableEq, Repr, Inhabited

/-- A yard-clock date and time, to the second (R36). -/
structure DateTime where
  date : Date
  hour : Nat
  minute : Nat
  second : Nat
  deriving DecidableEq, Repr, Inhabited

/-- The two weighbridge decks. -/
inductive Deck where
  | a
  | b
  deriving DecidableEq, Repr, Inhabited

/-- Lanes L0 to L3. -/
abbrev Lane := Fin 4
/-- Station ports P0 to P5. -/
abbrev Port := Fin 6
/-- Frequency channels 0 to 15. -/
abbrev Channel := Fin 16
/-- The three lamps of one signal head, 0 standing for LAMPn_1. -/
abbrev Lamp := Fin 3

/-- The four barriers, in the order R149 and R163 name them. -/
inductive Barrier where
  | aEntry
  | aExit
  | bEntry
  | bExit
  deriving DecidableEq, Repr, Inhabited

/-- The twelve conditioned inputs of R125. -/
inductive Input where
  | stop (l : Lane)
  | boom (b : Barrier)
  | beam1 (d : Deck)
  | beam2 (d : Deck)
  deriving DecidableEq, Repr

/-- The deck that is not `d`. -/
def Deck.other : Deck → Deck
  | .a => .b
  | .b => .a

/-- The deck a barrier stands at. -/
def Barrier.deck : Barrier → Deck
  | .aEntry => .a
  | .aExit => .a
  | .bEntry => .b
  | .bExit => .b

/-- Whether a barrier is an entry barrier. -/
def Barrier.isEntry : Barrier → Bool
  | .aEntry => true
  | .aExit => false
  | .bEntry => true
  | .bExit => false

/-- The entry barrier of a deck. -/
def Deck.entry : Deck → Barrier
  | .a => .aEntry
  | .b => .bEntry

/-- The exit barrier of a deck. -/
def Deck.exit : Deck → Barrier
  | .a => .aExit
  | .b => .bExit

/-- One value for each deck. -/
structure PerDeck (α : Type) where
  a : α
  b : α
  deriving DecidableEq, Repr

/-- The value of deck `d`. -/
def PerDeck.get {α : Type} (p : PerDeck α) : Deck → α
  | .a => p.a
  | .b => p.b

/-- Rewrites the value of deck `d` by `f`. -/
def PerDeck.mod {α : Type} (p : PerDeck α) (d : Deck) (f : α → α) : PerDeck α :=
  match d with
  | .a => { p with a := f p.a }
  | .b => { p with b := f p.b }

/-- One value for each barrier. -/
structure PerBarrier (α : Type) where
  aEntry : α
  aExit : α
  bEntry : α
  bExit : α
  deriving DecidableEq, Repr

/-- The value of barrier `b`. -/
def PerBarrier.get {α : Type} (p : PerBarrier α) : Barrier → α
  | .aEntry => p.aEntry
  | .aExit => p.aExit
  | .bEntry => p.bEntry
  | .bExit => p.bExit

/-- Rewrites the value of barrier `b` by `f`. -/
def PerBarrier.mod {α : Type} (p : PerBarrier α) (b : Barrier) (f : α → α) : PerBarrier α :=
  match b with
  | .aEntry => { p with aEntry := f p.aEntry }
  | .aExit => { p with aExit := f p.aExit }
  | .bEntry => { p with bEntry := f p.bEntry }
  | .bExit => { p with bExit := f p.bExit }

/-- One value for each lane (or any bank of `n` numbered things). -/
abbrev Bank (n : Nat) (α : Type) := Vector α n

/-- Rewrites entry `i` of a bank by `f`. -/
def Bank.mod {n : Nat} {α : Type} (v : Bank n α) (i : Fin n) (f : α → α) : Bank n α :=
  v.set i.val (f (v.get i)) i.isLt

/-- One value for each conditioned input. -/
structure PerInput (α : Type) where
  stop : Bank 4 α
  boom : PerBarrier α
  beam1 : PerDeck α
  beam2 : PerDeck α
  deriving DecidableEq, Repr

/-- The value of input `i`. -/
def PerInput.get {α : Type} (p : PerInput α) : Input → α
  | .stop l => p.stop.get l
  | .boom b => p.boom.get b
  | .beam1 d => p.beam1.get d
  | .beam2 d => p.beam2.get d

/-- Rewrites the value of input `i` by `f`. -/
def PerInput.mod {α : Type} (p : PerInput α) (i : Input) (f : α → α) : PerInput α :=
  match i with
  | .stop l => { p with stop := Bank.mod p.stop l f }
  | .boom b => { p with boom := p.boom.mod b f }
  | .beam1 d => { p with beam1 := p.beam1.mod d f }
  | .beam2 d => { p with beam2 := p.beam2.mod d f }

/-- All decks, in order. -/
def Deck.all : List Deck := [.a, .b]
/-- All barriers, in the order of R149. -/
def Barrier.all : List Barrier := [.aEntry, .aExit, .bEntry, .bExit]
/-- All lanes, in order. -/
def Lane.all : List Lane := [0, 1, 2, 3]
/-- All lamps of a head, in order. -/
def Lamp.all : List Lamp := [0, 1, 2]
/-- All channels, in number order. -/
def Channel.all : List Channel := [0, 1, 2, 3, 4, 5, 6, 7, 8, 9, 10, 11, 12, 13, 14, 15]
/-- All ports, in order. -/
def Port.all : List Port := [0, 1, 2, 3, 4, 5]
/-- All conditioned inputs, in the order of R125. -/
def Input.all : List Input :=
  [.stop 0, .stop 1, .stop 2, .stop 3, .boom .aEntry, .boom .aExit, .boom .bEntry, .boom .bExit,
    .beam1 .a, .beam2 .a, .beam1 .b, .beam2 .b]

end Sys2Proof
end

