-- ==== Sys2Proof/Config.lean ====
section
/-! DEFINITION. The constants the spec fixes for the part, each with its rule, and the free values. -/

namespace Sys2Proof.Config

/-- R1: the yard table holds at most 96 entries. -/
def tableMax : Nat := 96
/-- R7: a transaction holds at most 5 material lines. -/
def linesMax : Nat := 5
/-- R2, R197: transaction numbers, notice numbers and saturating counters end at 65,535. -/
def u16Max : Nat := 65535
/-- R2: account codes run 0 to 999,999. -/
def accountMax : Nat := 999999
/-- Conventions: material codes run 1 to 9,999. -/
def materialMax : Nat := 9999
/-- R27: the tare store holds at most 256 records. -/
def tareMax : Nat := 256
/-- R27: a tare weighs at most 100,000 kg. -/
def tareWeightMax : Int := 100000
/-- R27: a validity is at most 730 days. -/
def validityMax : Nat := 730
/-- R39: ticket numbers end at 99,999,999. -/
def ticketMax : Nat := 99999999
/-- R40: the ticket log holds at most 512 records. -/
def logMax : Nat := 512
/-- R48: the log is near full from 480 uncollected records on. -/
def nearFull : Nat := 480
/-- R51: the yard millisecond count holds at this value. -/
def msMax : Nat := 281474976710655
/-- R55: a running count saturates at 262,143. -/
def countMax : Nat := 262143
/-- R66: a factor K_i is at most 16,777,215. -/
def factorMax : Nat := 16777215
/-- R56: window numbers run to 4,294,967,295 and wrap to 0. -/
def windowNumbers : Nat := 4294967296
/-- R67: Max2 is at most 100,000 kg. -/
def capacityMax : Nat := 100000
/-- R92, R192: ten invalid windows in a row. -/
def invalidRunMax : Nat := 10
/-- R96: ten seconds continuously unpositioned. -/
def leaveDeckMax : Nat := 10000
/-- R192: a collection takes sixteen windows. -/
def collectionWindows : Nat := 16
/-- R151: a limit reading is taken after 20 consecutive ticks. -/
def limitTicks : Nat := 20
/-- R185: a calibration switch reading is taken after 50 consecutive ticks. -/
def calSwitchTicks : Nat := 50
/-- R175: good backup ticks to qualify the reference. -/
def qualificationTicks : Nat := 1000
/-- R176: the start timer. -/
def startTicks : Nat := 2000
/-- R178: ticks above the restore threshold to end SUPPLY_LOW. -/
def restoreTicks : Nat := 2000
/-- R175: the edges of a good tick, least and most. -/
def goodEdgesMin : Nat := 4014
def goodEdgesMax : Nat := 4178
/-- R36: ticks to a second. -/
def ticksPerSecond : Nat := 1000
/-- R197, R207: a notice queue holds at most 32 notices. -/
def queueMax : Nat := 32
/-- R200: at most 4 answers of steps 1 to 4 wait. -/
def earlyAnswersMax : Nat := 4
/-- R199: the gap timer ends a frame at 20. -/
def gapMax : Nat := 20
/-- R213: the marker byte. -/
def marker : Byte := 0xA5#8
/-- R213: a body is 2 to 240 bytes. -/
def bodyMin : Nat := 2
def bodyMax : Nat := 240
/-- R214: an answer payload is cut into parts of 235 bytes. -/
def partBytes : Nat := 235
/-- R213: a named choice in place of a number is carried as FFFFFFFFh. -/
def namedChoice : Nat := 4294967295
/-- R209: QUIET counts to 65,535 hundreds of milliseconds. -/
def quietMax : Nat := 65535

/-- FREE VALUE. The issue time of a ticket issued while the yard clock is UNSET. The spec gives it none, and no run
reaches it: closure needs the clock set (R12), and the log is empty whenever the clock is UNSET (R49). -/
opaque unsetTime : DateTime

/-- FREE VALUE. The number of a ticket issued while the ticket counter is UNSET. The spec gives it none, and no run
reaches it: closure needs the counter set (R12), and the log is empty whenever the counter is UNSET (R49). -/
opaque unsetTicket : Nat

/-- FREE VALUE. The four bytes that stand for a value in grams outside the range of s32. R215 gives gram values as
s32, which holds every weight of a deck but not every weight sum of a SPAN collection (R191, R196); no rule says what
is then carried (log 33). -/
opaque wideGrams : Int → BitVec 32

end Sys2Proof.Config
end

