-- ==== Sys2Proof/Syntax.lean ====
section
/-! DEFINITION. The commands of the part, one constructor for each row of the opcode table: first the 69
station requests in the order of R205 (with their arguments as R213 carries them), then the block events. -/

namespace Sys2Proof

/-- The sender of a request: the port it came in on and the tag its frame carried (R200, R213). -/
structure Sender where
  port : Port
  tag : Byte
  deriving DecidableEq, Repr

/-- The two edges a conditioner delivers (R126), also the two edges of a converter line (R55). -/
inductive Edge where
  | rising
  | falling
  deriving DecidableEq, Repr

/-- The kind of a filed deck request (R109). -/
inductive FilingKind where
  | admission
  | recall
  deriving DecidableEq, Repr

/-- The causes with which a lane reports a withdrawal (R8). -/
inductive WithdrawCause where
  | absence
  | proceedTimeout
  | supply
  | lapsed
  | cancel
  deriving DecidableEq, Repr

/-- The class of a weighing, a tare or a ticket. -/
inductive WeighClass where
  | approved
  | indicative
  deriving DecidableEq, Repr

/-- The reasons of a capture failure, in the order of R101. -/
inductive FailReason where
  | unstable
  | clock
  | leftDeck
  | channelFault
  | overload
  | underload
  | supply
  | tailgate
  | aborted
  deriving DecidableEq, Repr

/-- The mark a yard tick carries (R50) and a window takes from its ticks (R59). -/
inductive TickMark where
  | reference
  | backup
  deriving DecidableEq, Repr

/-- The status of a window record, in the order of R58. -/
inductive WindowStatus where
  | valid
  | channelInvalid
  | noChannels
  | short
  deriving DecidableEq, Repr

/-- The causes for which a channel is judged invalid, in the order of R57. -/
inductive CountCause where
  | saturated
  | low
  | high
  deriving DecidableEq, Repr

/-- One channel entry of a window record (R58): the count, and the cause that makes it invalid, if any. -/
structure WindowEntry where
  channel : Channel
  count : Nat
  cause : Option CountCause
  deriving DecidableEq, Repr

/-- A window record (R58). `marked` is the engine's window mark at the close (R86) and `serial` the model's own
running number of the window's opening, by which a collection knows the windows opened after its request (R191). -/
structure WindowRecord where
  deck : Deck
  number : Nat
  closing : Nat
  length : Nat
  timing : TickMark
  status : WindowStatus
  channels : List WindowEntry
  marked : Bool
  serial : Nat
  deriving DecidableEq, Repr

/-- A capture completion, with what R100 has it carry. -/
structure CaptureResult where
  deck : Deck
  number : Nat
  lane : Lane
  weight : Int
  division : Nat
  cls : WeighClass
  window : Nat
  deriving DecidableEq, Repr

/-- The conditions from outside the engine that R97 delivers to it (SUPPLY_LOW has its own command). -/
inductive ExternalEnd where
  | tailgate
  | engineOff
  | deckLeft
  deriving DecidableEq, Repr

/-- The barrier states, in the order of R149. -/
inductive BarrierState where
  | down
  | raising
  | up
  | lowering
  | stopped
  | fault
  deriving DecidableEq, Repr

/-- The supply states (R169). -/
inductive SupplyState where
  | normal
  | supplyLow
  deriving DecidableEq, Repr

/-- The yard modes (R169). -/
inductive YardMode where
  | open
  | closing
  | closed
  deriving DecidableEq, Repr

/-- The readers of a yard mode change, in the order of R170; the frequency capture unit is one reader, for both decks. -/
inductive ModeReader where
  | records
  | captureUnit
  | engine (d : Deck)
  | arbiter (d : Deck)
  | entryBarrier (d : Deck)
  | lane (l : Lane)
  deriving DecidableEq, Repr

/-- A delivery of a change of the yard mode (R170): who takes it, and the mode it enters. -/
structure ModeDelivery where
  reader : ModeReader
  mode : YardMode
  deriving DecidableEq, Repr

/-- The readers of a supply state change (R177). -/
inductive SupplyReader where
  | engine (d : Deck)
  | arbiter (d : Deck)
  | barrier (b : Barrier)
  deriving DecidableEq, Repr

/-- The readers of a barrier state change (R166). -/
inductive BarrierReader where
  | arbiter
  | lane (l : Lane)
  | supervisor
  deriving DecidableEq, Repr

/-- The two limit switches of a barrier (R151). -/
inductive LimitSwitch where
  | upper
  | lower
  deriving DecidableEq, Repr

/-- The blocks that post notices (R207 keeps the order of one block's notices at each port). -/
inductive Block where
  | records
  | captureUnit
  | engine (d : Deck)
  | arbiter (d : Deck)
  | lane (l : Lane)
  | barrier (b : Barrier)
  | supervisor
  deriving DecidableEq, Repr

/-- VMAIN_IN against the warning and restore thresholds at a tick (R177, R178). -/
inductive SupplyLevel where
  | belowWarning
  | between
  | aboveRestore
  deriving DecidableEq, Repr

/-- The field lines as one yard tick finds them: the twelve conditioned inputs and the limit lines (`true` is the
high level), the calibration switch line, the main supply, and the edges counted on REFCLK_IN during the tick (R175). -/
structure Lines where
  inputs : PerInput Bool
  upper : PerBarrier Bool
  lower : PerBarrier Bool
  calSwitch : Bool
  supply : SupplyLevel
  refEdges : Nat
  deriving DecidableEq, Repr

/-- How the main domain comes to start (R179, R181): whether the main supply had fallen below the stop level,
whether the backup supply held the backup domain's contents while the main supply was absent, and the lines as the
first tick finds them (R151, R185). -/
structure Start where
  fellBelowStop : Bool
  backupHeld : Bool
  first : Lines
  deriving DecidableEq, Repr

/-- The commands, one constructor for each row of the opcode table. A request's arguments are raw, as R213 carries
them: numbers, enumeration bytes and texts may lie outside their legal sets, and the owning rule judges them. -/
inductive Instr where
  -- The Yard Table and the Life of a Transaction
  | identify (q : Sender) (lane : Nat) (plate : List Byte) (tag : Option Nat) (mode account material intent priority : Nat)
  | listYard (q : Sender)
  | readTransaction (q : Sender) (number : Nat)
  | findPlate (q : Sender) (plate : List Byte)
  | hold (q : Sender) (number reason : Nat)
  | releaseHold (q : Sender) (number : Nat)
  | amend (q : Sender) (number : Nat) (account : Option Nat) (line : Option (Nat × Nat))
  | cancelTransaction (q : Sender) (number : Nat)
  | quarantine (q : Sender) (number : Nat)
  | close (q : Sender) (number : Nat)
  | forceExit (q : Sender) (number : Nat)
  -- Stored Tares and the Ticket Log
  | storeTare (q : Sender) (plate : List Byte) (tag : Option Nat) (weight : Int) (cls validity account : Nat)
  | deleteTare (q : Sender) (plate : List Byte)
  | readTare (q : Sender) (plate : List Byte)
  | listTares (q : Sender) (start : Nat)
  | setTareValidity (q : Sender) (lane days : Nat)
  | setClock (q : Sender) (year month day hour minute second : Nat)
  | setTicketBase (q : Sender) (n : Nat)
  | voidTicket (q : Sender) (number reason : Nat)
  | readClock (q : Sender)
  | collectNext (q : Sender)
  | readTicket (q : Sender) (number : Nat)
  | confirmCollected (q : Sender) (n : Nat)
  -- Frequency Capture and the Time Base
  | setChannelMap (q : Sender) (channel map polarity : Nat)
  | setChannelLimits (q : Sender) (channel low high : Nat)
  | clearFaults (q : Sender) (channel scope : Nat)
  | readChannels (q : Sender) (deck : Nat)
  -- Weight Arithmetic
  | setOccupancy (q : Sender) (deck threshold : Nat)
  | readDeck (q : Sender) (deck : Nat)
  -- The Capture Operation, Zero and Stability
  | setCaptureOptions (q : Sender) (deck attempt n accept : Nat)
  | capture (q : Sender) (deck : Nat)
  | abortCapture (q : Sender) (deck : Nat)
  | zeroDeck (q : Sender) (deck : Nat)
  | readCapture (q : Sender) (deck : Nat)
  -- Deck Arbitration
  | setProceedTime (q : Sender) (deck seconds : Nat)
  | clearTailgate (q : Sender) (deck : Nat)
  | setDeckService (q : Sender) (deck setting : Nat)
  | readDeckState (q : Sender) (deck : Nat)
  -- Lanes, Loops and Signal Heads
  | setConditioner (q : Sender) (input polarity debounce : Nat)
  | setLaneTimers (q : Sender) (lane absence stuck : Nat)
  | setLaneFeed (q : Sender) (lane feed : Nat)
  | setLaneMode (q : Sender) (lane mode : Nat)
  | setLamp (q : Sender) (lane lamp source blink stretch : Nat)
  | setSignalHead (q : Sender) (lane period : Nat)
  | setLampInvert (q : Sender) (flag : Nat)
  | readInputs (q : Sender)
  | readLane (q : Sender) (lane : Nat)
  -- Barriers, Permissives and Keepalive Lines
  | setBarrier (q : Sender) (barrier failAction motionLimit closeDelay halfPeriod : Nat)
  | barrierReset (q : Sender) (barrier : Nat)
  | barrierCommand (q : Sender) (barrier action : Nat)
  | readBarriers (q : Sender)
  -- Yard Modes and Supervision
  | setYardMode (q : Sender) (mode : Nat)
  | yardReset (q : Sender)
  | setAlarmMask (q : Sender) (sources setting : Nat)
  | readSupervisor (q : Sender)
  -- Calibration
  | setMetrology (q : Sender) (deck mode max1 max2 e1 e2 window f s : Nat)
  | setChannelFactor (q : Sender) (channel k : Nat)
  | setChannelZero (q : Sender) (channel z : Nat)
  | calZeroDeck (q : Sender) (deck : Nat)
  | calSpanDeck (q : Sender) (deck : Nat) (load : Int)
  | abortCalibration (q : Sender) (deck : Nat)
  | readCalibration (q : Sender) (deck : Nat)
  -- Station Ports, Requests and Notices
  | setPortRole (q : Sender) (port role : Nat)
  | bindKiosk (q : Sender) (port lane : Nat)
  | setPortRate (q : Sender) (port rate : Nat)
  | readPorts (q : Sender)
  | setNoticeFloor (q : Sender) (floor : Nat)
  | quiet (q : Sender) (n : Nat)
  | readStatus (q : Sender)
  -- Events at the yard records
  | withdrawalReport (number : Nat) (cause : WithdrawCause)
  | entryPassageReport (d : Deck) (number : Nat)
  | recordsCaptureCompletion (r : CaptureResult)
  | recordsCaptureFailure (d : Deck) (number : Nat) (reason : FailReason)
  | exitPassageReport (d : Deck) (number : Nat)
  | yardClockSecond
  -- Events at the frequency capture unit and the weigh engines
  | windowClose (d : Deck)
  | engineWindow (w : WindowRecord)
  | captureStart (d : Deck)
  | recordsAbort (d : Deck) (number : Nat)
  | captureExternalEnd (d : Deck) (cause : ExternalEnd)
  | attemptTimerExpiry (d : Deck)
  | leaveDeckTimerExpiry (d : Deck)
  | positioningEdge (d : Deck) (i : Input) (e : Edge)
  -- Events at the deck arbiters
  | filing (d : Deck) (l : Lane) (number : Nat) (kind : FilingKind) (priority : Nat)
  | withdrawal (d : Deck) (l : Lane)
  | choice (d : Deck)
  | acceptance (d : Deck) (l : Lane) (number : Nat)
  | decline (d : Deck) (l : Lane) (number : Nat)
  | proceedTimeout (d : Deck)
  | entryLoopEdgeAtArbiter (d : Deck) (e : Edge)
  | exitLoopEdgeAtArbiter (d : Deck) (e : Edge)
  | exitReleaseAtArbiter (d : Deck) (number : Option Nat)
  | captureCompletionAtArbiter (r : CaptureResult)
  | captureFailureAtArbiter (d : Deck) (number : Nat) (reason : FailReason)
  | forceExitNoticeAtArbiter (d : Deck) (number : Nat)
  | barrierStateTaken (reader : BarrierReader) (b : Barrier) (st : BarrierState)
  | deckEmpty (d : Deck)
  -- Events at the conditioners and the lanes
  | conditionerEdge (i : Input)
  | stopLoopEdge (l : Lane) (e : Edge)
  | stuckTimerExpiry (l : Lane)
  | filingOrder (l : Lane) (number : Nat) (kind : FilingKind) (priority : Nat)
  | absenceTimerExpiry (l : Lane)
  | cancelOrder (l : Lane) (number : Nat)
  | offerAtLane (l : Lane) (d : Deck) (number : Nat)
  | grantWithdrawnAtLane (l : Lane) (d : Deck) (number : Nat) (cause : WithdrawCause)
  | entryPassageAtLane (l : Lane) (d : Deck) (number : Nat)
  | stretchTimerExpiry (l : Lane) (lamp : Lamp)
  -- Events at the barrier controllers
  | limitEvent (b : Barrier) (which : LimitSwitch)
  | permissiveRise (b : Barrier)
  | permissiveFall (b : Barrier)
  | barrierLoopEdge (b : Barrier) (e : Edge)
  | closeDelayExpiry (b : Barrier)
  | motionTimeout (b : Barrier)
  | keepaliveToggle (b : Barrier)
  -- Events at the supervisor
  | yardModeTaken (taken : ModeDelivery)
  | drain
  | yardResetEffect (start : Start)
  | watchExpiry (lines : Lines)
  | qualification
  | startTimerExpiry
  | supplyLow
  | supplyRestored
  | supplyStateTaken (reader : SupplyReader) (st : SupplyState)
  | mainDomainStop
  | mainReset (start : Start)
  | calSwitch
  -- Events at the station ports
  | frameComplete (p : Port)
  | gapTimerExpiry (p : Port)
  | frameSent (p : Port)
  | noticeAdmission (p : Port) (block : Block)
  | quietTimerExpiry (p : Port)
  -- The tick, the converters and the receivers
  | yardTick (lines : Lines)
  | converterEdge (ch : Channel) (e : Edge)
  | characterReceived (p : Port) (c : Byte) (error : Bool)
  deriving DecidableEq, Repr

end Sys2Proof
end

