-- ==== Sys2Proof/Decode.lean ====
section
/-! DEFINITION. Reading a request from a received frame: the request kinds of R213 and the form of each payload
(R200 step 4, R213, R215). The opcode table gives no row any bits, so no word of the table spells a command. -/

namespace Sys2Proof

/-- The types of request arguments on the line (R213, R215). -/
inductive ArgType where
  | num        -- a number, 32 bits unsigned
  | weight     -- a weight, 32 bits signed
  | enum       -- an enumeration or a flag set, one byte
  | text       -- a text of 0 to 12 characters
  | optNum     -- an optional number
  | optPair    -- an optional pair of numbers
  deriving DecidableEq, Repr

/-- An argument as read. -/
inductive Arg where
  | num (n : Nat)
  | weight (i : Int)
  | enum (n : Nat)
  | text (t : List Byte)
  | optNum (o : Option Nat)
  | optPair (o : Option (Nat × Nat))
  deriving DecidableEq, Repr

/-- An unsigned integer, most significant byte first (R215). -/
def beNat : List Byte → Nat
  | [] => 0
  | b :: bs => b.toNat * 256 ^ bs.length + beNat bs

/-- Takes a 32-bit number from the front of a payload. -/
def takeU32 : List Byte → Option (Nat × List Byte)
  | a :: b :: c :: d :: rest => some (beNat [a, b, c, d], rest)
  | _ => none

/-- Two's complement of 32 bits (R215). -/
def signed32 (n : Nat) : Int := if n < 2147483648 then (n : Int) else (n : Int) - 4294967296

/-- Reads one argument: a payload that ends before it, a presence byte other than 00h or 01h and a text length
above 12 are refused (R213). -/
def readArg : ArgType → List Byte → Option (Arg × List Byte)
  | .num, bs => (takeU32 bs).map fun r => (.num r.1, r.2)
  | .weight, bs => (takeU32 bs).map fun r => (.weight (signed32 r.1), r.2)
  | .enum, b :: bs => some (.enum b.toNat, bs)
  | .enum, [] => none
  | .text, n :: bs =>
      if 12 < n.toNat ∨ bs.length < n.toNat then none else some (.text (bs.take n.toNat), bs.drop n.toNat)
  | .text, [] => none
  | .optNum, p :: bs =>
      if p.toNat = 0 then some (.optNum none, bs)
      else if p.toNat = 1 then (takeU32 bs).map fun r => (.optNum (some r.1), r.2)
      else none
  | .optNum, [] => none
  | .optPair, p :: bs =>
      if p.toNat = 0 then some (.optPair none, bs)
      else if p.toNat = 1 then
        (takeU32 bs).bind fun r => (takeU32 r.2).map fun r' => (.optPair (some (r.1, r'.1)), r'.2)
      else none
  | .optPair, [] => none

/-- Reads all the arguments of a payload, which may not run past the last one (R213). -/
def readArgs : List ArgType → List Byte → Option (List Arg)
  | [], [] => some []
  | [], _ :: _ => none
  | t :: ts, bs => (readArg t bs).bind fun r => (readArgs ts r.2).map fun as => r.1 :: as

/-- The four bytes of a number, most significant first (R215). -/
def be32 (n : Nat) : List Byte :=
  [BitVec.ofNat 8 (n / 16777216), BitVec.ofNat 8 (n / 65536), BitVec.ofNat 8 (n / 256), BitVec.ofNat 8 n]

/-- The bytes that carry one argument (R213, R215). -/
def writeArg : Arg → List Byte
  | .num n => be32 n
  | .weight i => be32 (i % 4294967296).toNat
  | .enum n => [BitVec.ofNat 8 n]
  | .text t => BitVec.ofNat 8 t.length :: t
  | .optNum none => [0#8]
  | .optNum (some n) => 1#8 :: be32 n
  | .optPair none => [0#8]
  | .optPair (some p) => 1#8 :: (be32 p.1 ++ be32 p.2)

/-- The payload of an argument list, as a station lays it out (R213). -/
def writeArgs (as : List Arg) : List Byte := as.flatMap writeArg

/-- Whether an argument is of a type and fits the field that carries it. -/
def Arg.fits : ArgType → Arg → Bool
  | .num, .num n => n < 4294967296
  | .weight, .weight i => -2147483648 ≤ i && i < 2147483648
  | .enum, .enum n => n < 256
  | .text, .text t => t.length ≤ 12
  | .optNum, .optNum o => o.all (fun n => n < 4294967296)
  | .optPair, .optPair o => o.all (fun p => p.1 < 4294967296 && p.2 < 4294967296)
  | _, _ => false

/-- An argument list fits a list of types, one by one. -/
def argsFit : List ArgType → List Arg → Bool
  | [], [] => true
  | t :: ts, a :: as => a.fits t && argsFit ts as
  | _, _ => false

/-- The request kinds end at 45h (R213). -/
def lastRequestCode : Nat := 0x45

/-- The arguments of each request kind, in the order of its heading form (R213); kinds are numbered by R205. The threshold
of SET_OCCUPANCY is read as unsigned, as T_occ is in the deck readout (R68, R216; DESIGN CHOICE, log 15). -/
def requestArgs (code : Nat) : List ArgType :=
  match code with
  | 0x01 => [.num, .text, .optNum, .enum, .num, .num, .enum, .num]
  | 0x02 => []
  | 0x03 => [.num]
  | 0x04 => [.text]
  | 0x05 => [.num, .num]
  | 0x06 => [.num]
  | 0x07 => [.num, .optNum, .optPair]
  | 0x08 => [.num]
  | 0x09 => [.num]
  | 0x0A => [.num]
  | 0x0B => [.num]
  | 0x0C => [.text, .optNum, .weight, .enum, .num, .num]
  | 0x0D => [.text]
  | 0x0E => [.text]
  | 0x0F => [.num]
  | 0x10 => [.num, .num]
  | 0x11 => [.enum, .enum, .enum, .enum, .enum, .enum]
  | 0x12 => [.num]
  | 0x13 => [.num, .num]
  | 0x14 => []
  | 0x15 => []
  | 0x16 => [.num]
  | 0x17 => [.num]
  | 0x18 => [.num, .enum, .enum]
  | 0x19 => [.num, .num, .num]
  | 0x1A => [.num, .enum]
  | 0x1B => [.num]
  | 0x1C => [.num, .num]
  | 0x1D => [.num]
  | 0x1E => [.num, .num, .num, .enum]
  | 0x1F => [.num]
  | 0x20 => [.num]
  | 0x21 => [.num]
  | 0x22 => [.num]
  | 0x23 => [.num, .num]
  | 0x24 => [.num]
  | 0x25 => [.num, .enum]
  | 0x26 => [.num]
  | 0x27 => [.enum, .enum, .num]
  | 0x28 => [.num, .num, .num]
  | 0x29 => [.num, .enum]
  | 0x2A => [.num, .enum]
  | 0x2B => [.num, .num, .enum, .enum, .num]
  | 0x2C => [.num, .num]
  | 0x2D => [.enum]
  | 0x2E => []
  | 0x2F => [.num]
  | 0x30 => [.enum, .enum, .num, .num, .num]
  | 0x31 => [.enum]
  | 0x32 => [.enum, .enum]
  | 0x33 => []
  | 0x34 => [.enum]
  | 0x35 => []
  | 0x36 => [.enum, .enum]
  | 0x37 => []
  | 0x38 => [.num, .enum, .num, .num, .num, .num, .num, .num, .num]
  | 0x39 => [.num, .num]
  | 0x3A => [.num, .num]
  | 0x3B => [.num]
  | 0x3C => [.num, .weight]
  | 0x3D => [.num]
  | 0x3E => [.num]
  | 0x3F => [.num, .enum]
  | 0x40 => [.num, .num]
  | 0x41 => [.num, .num]
  | 0x42 => []
  | 0x43 => [.num]
  | 0x44 => [.num]
  | 0x45 => []
  | _ => []

/-- The request a kind byte and its arguments spell. -/
def buildRequest (q : Sender) (code : Nat) (args : List Arg) : Option Instr :=
  match code with
  | 0x01 =>
    match args with
    | [.num l, .text p, .optNum t, .enum m, .num a, .num x, .enum i, .num r] => some (.identify q l p t m a x i r)
    | _ => none
  | 0x02 => some (.listYard q)
  | 0x03 => match args with | [.num n] => some (.readTransaction q n) | _ => none
  | 0x04 => match args with | [.text p] => some (.findPlate q p) | _ => none
  | 0x05 => match args with | [.num n, .num r] => some (.hold q n r) | _ => none
  | 0x06 => match args with | [.num n] => some (.releaseHold q n) | _ => none
  | 0x07 => match args with | [.num n, .optNum a, .optPair l] => some (.amend q n a l) | _ => none
  | 0x08 => match args with | [.num n] => some (.cancelTransaction q n) | _ => none
  | 0x09 => match args with | [.num n] => some (.quarantine q n) | _ => none
  | 0x0A => match args with | [.num n] => some (.close q n) | _ => none
  | 0x0B => match args with | [.num n] => some (.forceExit q n) | _ => none
  | 0x0C =>
    match args with
    | [.text p, .optNum t, .weight w, .enum c, .num v, .num a] => some (.storeTare q p t w c v a)
    | _ => none
  | 0x0D => match args with | [.text p] => some (.deleteTare q p) | _ => none
  | 0x0E => match args with | [.text p] => some (.readTare q p) | _ => none
  | 0x0F => match args with | [.num n] => some (.listTares q n) | _ => none
  | 0x10 => match args with | [.num l, .num d] => some (.setTareValidity q l d) | _ => none
  | 0x11 =>
    match args with
    | [.enum y, .enum mo, .enum d, .enum h, .enum mi, .enum s] => some (.setClock q (2000 + y) mo d h mi s)
    | _ => none
  | 0x12 => match args with | [.num n] => some (.setTicketBase q n) | _ => none
  | 0x13 => match args with | [.num n, .num r] => some (.voidTicket q n r) | _ => none
  | 0x14 => some (.readClock q)
  | 0x15 => some (.collectNext q)
  | 0x16 => match args with | [.num n] => some (.readTicket q n) | _ => none
  | 0x17 => match args with | [.num n] => some (.confirmCollected q n) | _ => none
  | 0x18 => match args with | [.num c, .enum m, .enum p] => some (.setChannelMap q c m p) | _ => none
  | 0x19 => match args with | [.num c, .num l, .num h] => some (.setChannelLimits q c l h) | _ => none
  | 0x1A => match args with | [.num c, .enum s] => some (.clearFaults q c s) | _ => none
  | 0x1B => match args with | [.num d] => some (.readChannels q d) | _ => none
  | 0x1C => match args with | [.num d, .num t] => some (.setOccupancy q d t) | _ => none
  | 0x1D => match args with | [.num d] => some (.readDeck q d) | _ => none
  | 0x1E => match args with | [.num d, .num a, .num n, .enum x] => some (.setCaptureOptions q d a n x) | _ => none
  | 0x1F => match args with | [.num d] => some (.capture q d) | _ => none
  | 0x20 => match args with | [.num d] => some (.abortCapture q d) | _ => none
  | 0x21 => match args with | [.num d] => some (.zeroDeck q d) | _ => none
  | 0x22 => match args with | [.num d] => some (.readCapture q d) | _ => none
  | 0x23 => match args with | [.num d, .num s] => some (.setProceedTime q d s) | _ => none
  | 0x24 => match args with | [.num d] => some (.clearTailgate q d) | _ => none
  | 0x25 => match args with | [.num d, .enum s] => some (.setDeckService q d s) | _ => none
  | 0x26 => match args with | [.num d] => some (.readDeckState q d) | _ => none
  | 0x27 => match args with | [.enum i, .enum p, .num d] => some (.setConditioner q i p d) | _ => none
  | 0x28 => match args with | [.num l, .num a, .num s] => some (.setLaneTimers q l a s) | _ => none
  | 0x29 => match args with | [.num l, .enum f] => some (.setLaneFeed q l f) | _ => none
  | 0x2A => match args with | [.num l, .enum m] => some (.setLaneMode q l m) | _ => none
  | 0x2B =>
    match args with
    | [.num l, .num p, .enum s, .enum b, .num t] => some (.setLamp q l p s b t)
    | _ => none
  | 0x2C => match args with | [.num l, .num p] => some (.setSignalHead q l p) | _ => none
  | 0x2D => match args with | [.enum f] => some (.setLampInvert q f) | _ => none
  | 0x2E => some (.readInputs q)
  | 0x2F => match args with | [.num l] => some (.readLane q l) | _ => none
  | 0x30 =>
    match args with
    | [.enum b, .enum f, .num m, .num c, .num h] => some (.setBarrier q b f m c h)
    | _ => none
  | 0x31 => match args with | [.enum b] => some (.barrierReset q b) | _ => none
  | 0x32 => match args with | [.enum b, .enum a] => some (.barrierCommand q b a) | _ => none
  | 0x33 => some (.readBarriers q)
  | 0x34 => match args with | [.enum m] => some (.setYardMode q m) | _ => none
  | 0x35 => some (.yardReset q)
  | 0x36 => match args with | [.enum s, .enum m] => some (.setAlarmMask q s m) | _ => none
  | 0x37 => some (.readSupervisor q)
  | 0x38 =>
    match args with
    | [.num d, .enum m, .num a, .num b, .num e1, .num e2, .num w, .num f, .num s] =>
        some (.setMetrology q d m a b e1 e2 w f s)
    | _ => none
  | 0x39 => match args with | [.num c, .num k] => some (.setChannelFactor q c k) | _ => none
  | 0x3A => match args with | [.num c, .num z] => some (.setChannelZero q c z) | _ => none
  | 0x3B => match args with | [.num d] => some (.calZeroDeck q d) | _ => none
  | 0x3C => match args with | [.num d, .weight l] => some (.calSpanDeck q d l) | _ => none
  | 0x3D => match args with | [.num d] => some (.abortCalibration q d) | _ => none
  | 0x3E => match args with | [.num d] => some (.readCalibration q d) | _ => none
  | 0x3F => match args with | [.num p, .enum r] => some (.setPortRole q p r) | _ => none
  | 0x40 => match args with | [.num p, .num l] => some (.bindKiosk q p l) | _ => none
  | 0x41 => match args with | [.num p, .num r] => some (.setPortRate q p r) | _ => none
  | 0x42 => some (.readPorts q)
  | 0x43 => match args with | [.num f] => some (.setNoticeFloor q f) | _ => none
  | 0x44 => match args with | [.num n] => some (.quiet q n) | _ => none
  | 0x45 => some (.readStatus q)
  | _ => none

/-- The request a frame body spells, from its kind byte and payload; none where the payload's form does not fit
the kind (R200 step 4). -/
def decodeRequest (q : Sender) (code : Nat) (payload : List Byte) : Option Instr :=
  (readArgs (requestArgs code) payload).bind (buildRequest q code)

/-- A request's kind byte and arguments, as its station sends them (R205, R213); none for an event. -/
def Instr.spelling : Instr → Option (Sender × Nat × List Arg)
  | .identify q l p t m a x i r =>
      some (q, 0x01, [.num l, .text p, .optNum t, .enum m, .num a, .num x, .enum i, .num r])
  | .listYard q => some (q, 0x02, [])
  | .readTransaction q n => some (q, 0x03, [.num n])
  | .findPlate q p => some (q, 0x04, [.text p])
  | .hold q n r => some (q, 0x05, [.num n, .num r])
  | .releaseHold q n => some (q, 0x06, [.num n])
  | .amend q n a l => some (q, 0x07, [.num n, .optNum a, .optPair l])
  | .cancelTransaction q n => some (q, 0x08, [.num n])
  | .quarantine q n => some (q, 0x09, [.num n])
  | .close q n => some (q, 0x0A, [.num n])
  | .forceExit q n => some (q, 0x0B, [.num n])
  | .storeTare q p t w c v a => some (q, 0x0C, [.text p, .optNum t, .weight w, .enum c, .num v, .num a])
  | .deleteTare q p => some (q, 0x0D, [.text p])
  | .readTare q p => some (q, 0x0E, [.text p])
  | .listTares q n => some (q, 0x0F, [.num n])
  | .setTareValidity q l d => some (q, 0x10, [.num l, .num d])
  | .setClock q y mo d h mi s =>
      some (q, 0x11, [.enum (y - 2000), .enum mo, .enum d, .enum h, .enum mi, .enum s])
  | .setTicketBase q n => some (q, 0x12, [.num n])
  | .voidTicket q n r => some (q, 0x13, [.num n, .num r])
  | .readClock q => some (q, 0x14, [])
  | .collectNext q => some (q, 0x15, [])
  | .readTicket q n => some (q, 0x16, [.num n])
  | .confirmCollected q n => some (q, 0x17, [.num n])
  | .setChannelMap q c m p => some (q, 0x18, [.num c, .enum m, .enum p])
  | .setChannelLimits q c l h => some (q, 0x19, [.num c, .num l, .num h])
  | .clearFaults q c s => some (q, 0x1A, [.num c, .enum s])
  | .readChannels q d => some (q, 0x1B, [.num d])
  | .setOccupancy q d t => some (q, 0x1C, [.num d, .num t])
  | .readDeck q d => some (q, 0x1D, [.num d])
  | .setCaptureOptions q d a n x => some (q, 0x1E, [.num d, .num a, .num n, .enum x])
  | .capture q d => some (q, 0x1F, [.num d])
  | .abortCapture q d => some (q, 0x20, [.num d])
  | .zeroDeck q d => some (q, 0x21, [.num d])
  | .readCapture q d => some (q, 0x22, [.num d])
  | .setProceedTime q d s => some (q, 0x23, [.num d, .num s])
  | .clearTailgate q d => some (q, 0x24, [.num d])
  | .setDeckService q d s => some (q, 0x25, [.num d, .enum s])
  | .readDeckState q d => some (q, 0x26, [.num d])
  | .setConditioner q i p d => some (q, 0x27, [.enum i, .enum p, .num d])
  | .setLaneTimers q l a s => some (q, 0x28, [.num l, .num a, .num s])
  | .setLaneFeed q l f => some (q, 0x29, [.num l, .enum f])
  | .setLaneMode q l m => some (q, 0x2A, [.num l, .enum m])
  | .setLamp q l p s b t => some (q, 0x2B, [.num l, .num p, .enum s, .enum b, .num t])
  | .setSignalHead q l p => some (q, 0x2C, [.num l, .num p])
  | .setLampInvert q f => some (q, 0x2D, [.enum f])
  | .readInputs q => some (q, 0x2E, [])
  | .readLane q l => some (q, 0x2F, [.num l])
  | .setBarrier q b f m c h => some (q, 0x30, [.enum b, .enum f, .num m, .num c, .num h])
  | .barrierReset q b => some (q, 0x31, [.enum b])
  | .barrierCommand q b a => some (q, 0x32, [.enum b, .enum a])
  | .readBarriers q => some (q, 0x33, [])
  | .setYardMode q m => some (q, 0x34, [.enum m])
  | .yardReset q => some (q, 0x35, [])
  | .setAlarmMask q s m => some (q, 0x36, [.enum s, .enum m])
  | .readSupervisor q => some (q, 0x37, [])
  | .setMetrology q d m a b e1 e2 w f s =>
      some (q, 0x38, [.num d, .enum m, .num a, .num b, .num e1, .num e2, .num w, .num f, .num s])
  | .setChannelFactor q c k => some (q, 0x39, [.num c, .num k])
  | .setChannelZero q c z => some (q, 0x3A, [.num c, .num z])
  | .calZeroDeck q d => some (q, 0x3B, [.num d])
  | .calSpanDeck q d l => some (q, 0x3C, [.num d, .weight l])
  | .abortCalibration q d => some (q, 0x3D, [.num d])
  | .readCalibration q d => some (q, 0x3E, [.num d])
  | .setPortRole q p r => some (q, 0x3F, [.num p, .enum r])
  | .bindKiosk q p l => some (q, 0x40, [.num p, .num l])
  | .setPortRate q p r => some (q, 0x41, [.num p, .num r])
  | .readPorts q => some (q, 0x42, [])
  | .setNoticeFloor q f => some (q, 0x43, [.num f])
  | .quiet q n => some (q, 0x44, [.num n])
  | .readStatus q => some (q, 0x45, [])
  | _ => none

/-- The kind byte of a request (R213), 0 for an event. -/
def Instr.requestCode (i : Instr) : Nat := (i.spelling.map fun x => x.2.1).getD 0

/-- The command a word of the opcode table spells: the table gives no row any bits, so none. -/
def decodeTableWord (_nbits _w : Nat) : Option Instr := none

end Sys2Proof
end

