-- ==== Sys2Proof/Machine/State.lean ====
section
/-! DEFINITION. The state of the part: the backup domain (R181), the main domain, and the queue of waiting commands.
A field's default value in a main-domain structure is its value after every main reset, as its rule states it. -/

namespace Sys2Proof.Machine

/-! ### The yard records: table, tares, clock, counter and log -/

/-- Plate text without trailing spaces (R215). -/
abbrev Plate := List Byte

/-- How a transaction is weighed (R2). -/
inductive Mode where
  | twoPass
  | storedTare
  | tareOnly
  deriving DecidableEq, Repr

/-- The states of a transaction, in the order of R2. -/
inductive EntryState where
  | admitted
  | onDeck
  | inYard
  | recalled
  | quarantine
  deriving DecidableEq, Repr

/-- A hold: the reason and the port that set it (R17). -/
structure Hold where
  reason : Nat
  port : Port
  deriving DecidableEq, Repr

/-- The reasons of a blocked closure, in the order R12 tests them. -/
inductive BlockReason where
  | held
  | ticketUnset
  | clockUnset
  | logFull
  deriving DecidableEq, Repr

/-- The pending request of an entry (R2). -/
structure LaneRequest where
  lane : Lane
  priority : Nat
  deriving DecidableEq, Repr

/-- The intent of a recall (R2, R7). -/
inductive Intent where
  | final
  | split (material : Nat)
  deriving DecidableEq, Repr

/-- The state an entry was recalled from (R7). -/
inductive Origin where
  | inYard
  | quarantine
  deriving DecidableEq, Repr

/-- The recall intent with its origin (R2). -/
structure Recall where
  intent : Intent
  origin : Origin
  deriving DecidableEq, Repr

/-- The purpose of a pass (R9). -/
inductive Purpose where
  | first
  | split (material : Nat)
  | final
  | gross
  | tare
  deriving DecidableEq, Repr

/-- The status of a pass (R2). -/
inductive PassStatus where
  | awaiting
  | failed (reason : FailReason)
  | done
  deriving DecidableEq, Repr

/-- A pass over a deck (R2). -/
structure Pass where
  purpose : Purpose
  deck : Deck
  status : PassStatus
  deriving DecidableEq, Repr

/-- The departure of an entry, present from the exit release to the exit passage (R2). -/
inductive Departure where
  | toYard
  | toQuarantine
  | closed (ticket : Nat)
  | discharged
  deriving DecidableEq, Repr

/-- One weighing (R2); the time is absent when the clock was UNSET (R10). -/
structure Weighing where
  weight : Int
  cls : WeighClass
  division : Nat
  deck : Deck
  time : Option DateTime
  deriving DecidableEq, Repr

/-- A tare snapshot (R33). -/
structure Snapshot where
  weight : Int
  cls : WeighClass
  stored : Date
  deriving DecidableEq, Repr

/-- A transaction entry (R2). -/
structure Entry where
  number : Nat
  plate : Plate
  tag : Option Nat
  account : Nat
  mode : Mode
  state : EntryState
  hold : Option Hold
  interrupted : Bool
  closurePending : Bool
  cancelling : Bool
  blocked : Option BlockReason
  request : Option LaneRequest
  recallIntent : Option Recall
  pass : Option Pass
  departure : Option Departure
  weighings : List Weighing
  lines : List Nat
  snapshot : Option Snapshot
  admitted : DateTime
  deriving DecidableEq, Repr

/-- A tare record (R27). -/
structure Tare where
  plate : Plate
  tag : Option Nat
  weight : Int
  cls : WeighClass
  stored : Date
  validity : Nat
  account : Nat
  deriving DecidableEq, Repr

/-- The standing of a tare record, in the order of R28. -/
inductive Standing where
  | valid
  | expired
  | notYetValid
  | unknown
  deriving DecidableEq, Repr

/-- The direction of a closed transaction (R15). -/
inductive Direction where
  | inboundDelivery
  | outboundCollection
  deriving DecidableEq, Repr

/-- What a WEIGHT ticket holds besides the common fields, and what a VOID ticket holds (R41). A WEIGHT ticket
with no snapshot has tare source WEIGHED. -/
inductive TicketBody where
  | weight (weighings : List Weighing) (lines : List (Nat × Int)) (net : Int) (tare : Option Snapshot)
  | void (voided reason : Nat)
  deriving DecidableEq, Repr

/-- A ticket record (R41). -/
structure Ticket where
  number : Nat
  cls : WeighClass
  seqStart : Bool
  voided : Bool
  collected : Bool
  transaction : Nat
  plate : Plate
  account : Nat
  mode : Mode
  direction : Direction
  issued : DateTime
  body : TicketBody
  deriving DecidableEq, Repr

/-- The yard records block (R1, R3, R27, R36, R39, R40). `subBackup` remembers, for the second being counted,
whether any of its ticks was BACKUP (R36). -/
structure Records where
  entries : List Entry := []
  lastNumber : Nat := 0
  tares : List Tare := []
  clock : Option DateTime := none
  subSecond : Nat := 0
  subBackup : Bool := false
  clockMark : Bool := false
  counter : Option Nat := none
  seqStart : Bool := false
  log : List Ticket := []
  deriving DecidableEq, Repr

/-! ### Configuration in the backup domain; the defaults are the values after a backup loss -/

/-- A channel's configuration (R52) and calibration pair (R66). Map `none` is UNUSED. -/
structure ChannelCfg where
  map : Option Deck := none
  polarity : Edge := .rising
  low : Nat := 0
  high : Nat := 262143
  zero : Nat := 0
  factor : Nat := 0
  deriving DecidableEq, Repr

/-- The interval modes (R67). -/
inductive IntervalMode where
  | dual
  | single
  deriving DecidableEq, Repr

/-- A deck's metrology set, with the values of R189 after a backup loss. -/
structure Metrology where
  mode : IntervalMode := .single
  max1 : Nat := 60000
  max2 : Nat := 60000
  e1 : Nat := 20
  e2 : Nat := 20
  window : Nat := 200
  f : Nat := 4
  s : Nat := 4
  deriving DecidableEq, Repr

/-- A deck's settings: metrology set and mark (R187, R189), Zd (R103), occupancy threshold with `none` for DEFAULT
(R68), capture parameters (R85) and proceed time (R108). -/
structure DeckCfg where
  metrology : Metrology := {}
  mark : Bool := false
  zd : Int := 0
  threshold : Option Nat := none
  attempt : Nat := 8
  downshift : Nat := 2
  accept : Bool := false
  proceed : Nat := 30
  deriving DecidableEq, Repr

/-- A conditioner's configuration (R125). -/
structure ConditionerCfg where
  inverted : Bool := false
  debounce : Nat
  deriving DecidableEq, Repr

/-- The deck or decks a lane feeds (R139). -/
inductive Feed where
  | a
  | b
  | both
  deriving DecidableEq, Repr

/-- The lamp sources, in the order of R143. -/
inductive LampSource where
  | stop
  | go
  | waiting
  | present
  | fault
  | deckBusy
  | yardClosed
  | on
  | off
  deriving DecidableEq, Repr

/-- A lamp's settings (R143). -/
structure LampCfg where
  source : LampSource
  blink : Bool := false
  stretch : Nat := 0
  deriving DecidableEq, Repr

/-- A lane's settings (R35, R129, R143). -/
structure LaneCfg where
  feed : Feed
  absence : Nat := 5
  stuck : Nat := 180
  tareValidity : Nat := 365
  lamps : Bank 3 LampCfg := #v[{ source := .stop }, { source := .waiting, blink := true }, { source := .go }]
  blinkPeriod : Nat := 1000
  deriving DecidableEq, Repr

/-- The fail actions (R149). -/
inductive FailAction where
  | lower
  | hold
  deriving DecidableEq, Repr

/-- A barrier's settings (R150): seconds, seconds and milliseconds. -/
structure BarrierCfg where
  failAction : FailAction := .lower
  motionLimit : Nat := 8
  closeDelay : Nat := 2
  halfPeriod : Nat := 250
  deriving DecidableEq, Repr

/-- The roles of a port, in the order of R197. -/
inductive Role where
  | none
  | kiosk
  | office
  | console
  deriving DecidableEq, Repr

/-- A port's settings (R197). -/
structure PortCfg where
  role : Role := .none
  binding : Option Lane := none
  rate : Nat := 19200
  deriving DecidableEq, Repr

/-- One flag for each alarm source, in the order of R182. -/
structure SourceSet where
  barrierFault : Bool := false
  channelFault : Bool := false
  clockSubstitute : Bool := false
  supplyLow : Bool := false
  zeroLimit : Bool := false
  logNearFull : Bool := false
  tailgate : Bool := false
  closurePending : Bool := false
  deriving DecidableEq, Repr

/-- The backup domain (R181). The defaults are its values after a backup loss. `mask` holds the MASKED sources. -/
structure Backup where
  records : Records := {}
  channels : Bank 16 ChannelCfg := Vector.replicate 16 {}
  decks : PerDeck DeckCfg := ⟨{}, {}⟩
  calCounter : Nat := 0
  inputs : PerInput ConditionerCfg :=
    { stop := Vector.replicate 4 { debounce := 200 }
      boom := ⟨{ debounce := 50 }, { debounce := 50 }, { debounce := 50 }, { debounce := 50 }⟩
      beam1 := ⟨{ debounce := 30 }, { debounce := 30 }⟩
      beam2 := ⟨{ debounce := 30 }, { debounce := 30 }⟩ }
  lanes : Bank 4 LaneCfg := #v[{ feed := .a }, { feed := .a }, { feed := .b }, { feed := .b }]
  lampInvert : Bool := false
  barriers : PerBarrier BarrierCfg := ⟨{}, {}, {}, {}⟩
  ports : Bank 6 PortCfg := #v[{ role := .console }, {}, {}, {}, {}, {}]
  mode : YardMode := .closed
  mask : SourceSet := {}
  deriving DecidableEq, Repr

/-- FREE VALUE. The check value over the contents of the backup domain (R181). No rule gives its width or its function,
so nothing is known of it (log 29). -/
opaque checkValue : Backup → Nat

/-! ### The frequency capture unit -/

/-- A set of causes in a fault latch (R52). -/
structure CauseSet where
  saturated : Bool := false
  low : Bool := false
  high : Bool := false
  deriving DecidableEq, Repr

/-- The count of a channel's last judged window, with the cause that made it invalid (R52). -/
structure LastCount where
  count : Nat
  cause : Option CountCause
  deriving DecidableEq, Repr

/-- A channel's working state (R52); `saturated` is the mark of R55 for the open window. -/
structure ChannelWork where
  running : Option Nat := none
  saturated : Bool := false
  last : Option LastCount := none
  latch : CauseSet := {}
  faults : Nat := 0
  deriving DecidableEq, Repr

/-- An open window: the boundary it opened at, and whether a tick of it was BACKUP (R56, R59). -/
structure OpenWindow where
  opened : Nat
  backup : Bool := false
  deriving DecidableEq, Repr

/-- What READ_CHANNELS shows of a deck's last closed window (R63). -/
structure ClosedWindow where
  number : Nat
  timing : TickMark
  status : WindowStatus
  deriving DecidableEq, Repr

/-- A deck's windows (R56): whether it runs windows, the open one, the window number, the last closed one, the
model's own count of openings, and whether the next opening is the first since the main reset (R86). -/
structure WindowWork where
  runs : Bool := false
  current : Option OpenWindow := none
  number : Nat := 0
  last : Option ClosedWindow := none
  serial : Nat := 0
  first : Bool := true
  deriving DecidableEq, Repr

/-! ### The weigh engines -/

/-- The occupancy reading, in the order of R66. -/
inductive Occupancy where
  | unknown
  | empty
  | loaded
  deriving DecidableEq, Repr

/-- The engine states, in the order of R66. -/
inductive EngineState where
  | off
  | warmup
  | empty
  | loaded
  | capturing
  deriving DecidableEq, Repr

/-- The range conditions, in the order of R79. -/
inductive RangeCond where
  | inRange
  | overload
  | underload
  deriving DecidableEq, Repr

/-- An entry of the stability history (R66). -/
structure StabEntry where
  gf : Int
  e : Nat
  timing : TickMark
  deriving DecidableEq, Repr

/-- A deck reading (R79); its deck is the engine's own. -/
structure Reading where
  number : Nat
  closing : Nat
  timing : TickMark
  status : WindowStatus
  graw : Option Int := none
  gz : Option Int := none
  gf : Option Int := none
  e : Option Nat := none
  gd : Option Int := none
  range : Option RangeCond := none
  spread : Option Int := none
  stable : Option Bool := none
  occupancy : Occupancy := .unknown
  state : EngineState := .warmup
  deriving DecidableEq, Repr

/-- The phase of a capture (R87). -/
inductive Phase where
  | normal
  | relaxed
  deriving DecidableEq, Repr

/-- The capture record (R87). Origin `none` is AUTOMATIC. -/
structure Capture where
  number : Nat
  origin : Option Port
  lane : Lane
  attempt : Nat
  downshift : Nat
  accept : Bool
  phase : Phase
  failed : Nat
  timer : Nat
  paused : Bool
  leave : Option Nat
  invalidRun : Nat
  deriving DecidableEq, Repr

/-- The kind of a calibration collection (R191). -/
inductive CollectionKind where
  | zero
  | span (load : Int)
  deriving DecidableEq, Repr

/-- The collection record (R191); `after` is the serial of the last window opened before the request. -/
structure Collection where
  kind : CollectionKind
  origin : Port
  windows : Nat
  invalidRun : Nat
  sums : List (Channel × Nat)
  weightSum : Int
  after : Nat
  deriving DecidableEq, Repr

/-- A weigh engine's main-domain state (R66, R86, R87, R99, R106, R191). -/
structure Engine where
  filter : List Int := []
  stab : List StabEntry := []
  occupancy : Occupancy := .unknown
  state : EngineState := .off
  latest : Option Reading := none
  positioned : Bool := false
  windowMark : Bool := true
  capture : Option Capture := none
  ended : Bool := false
  zeroLimit : Bool := false
  collection : Option Collection := none
  deriving DecidableEq, Repr

/-! ### The deck arbiters -/

/-- The deck states, in the order of R107. -/
inductive DeckState where
  | free
  | granted
  | occupied
  | clearing
  | recover
  | outOfService
  deriving DecidableEq, Repr

/-- An outstanding offer (R112). -/
structure Offer where
  lane : Lane
  number : Nat
  deriving DecidableEq, Repr

/-- A grant (R107); the proceed timer is absent once the vehicle has arrived (R115). `closing` is the model's own mark: the
entry barrier has entered LOWERING or DOWN at a falling edge of its loop that the arbiter has yet to take as the entry
passage, which leaves the tailgate watch DISARMED (R119, log 18). -/
structure Grant where
  lane : Lane
  number : Nat
  arrived : Bool
  late : Bool
  timer : Option Nat
  closing : Bool := false
  deriving DecidableEq, Repr

/-- The capture outcome of a current transaction (R117). -/
inductive CaptureOutcome where
  | none
  | done (weight : Int) (cls : WeighClass)
  | failed (reason : FailReason)
  deriving DecidableEq, Repr

/-- The current transaction of an OCCUPIED deck (R107). -/
structure Current where
  number : Nat
  lane : Lane
  released : Bool
  outcome : CaptureOutcome
  deriving DecidableEq, Repr

/-- A pending record (R107). -/
structure Pending where
  number : Nat
  kind : FilingKind
  priority : Nat
  time : Nat
  deriving DecidableEq, Repr

/-- A deck arbiter's main-domain state, with its values after a main reset (R107, R124). `entryRisen` remembers a
rising edge of the entry loop whose falling edge has not been taken, but for an edge taken in OCCUPIED with the watch
disarmed, which has no effect on the deck (R120, R126). -/
structure Arbiter where
  state : DeckState := .recover
  offer : Option Offer := none
  grant : Option Grant := none
  current : Option Current := none
  watch : Bool := false
  tailgate : Bool := false
  slots : Bank 4 (Option Pending) := Vector.replicate 4 none
  last : Option Lane := none
  entryRisen : Bool := false
  deriving DecidableEq, Repr

/-! ### Conditioners, lanes and signal heads -/

/-- A debounced state (R125). -/
inductive Debounced where
  | active
  | clear
  | unknown
  deriving DecidableEq, Repr

/-- A conditioner's working state (R125, R126): `raw` is whether the raw state is ACTIVE. `fresh` is set from a change of
the configuration until the next tick has read the raw state through it (R128). -/
structure ConditionerWork where
  raw : Bool := false
  debounced : Debounced := .unknown
  run : Option Nat := some 0
  fresh : Bool := false
  deriving DecidableEq, Repr

/-- The lane states, in the order of R129. -/
inductive LaneState where
  | idle
  | present
  | waiting
  | go
  | maintenance
  | fault
  deriving DecidableEq, Repr

/-- A lane's request with the decks it stands filed at (R129). -/
structure LaneFiling where
  number : Nat
  kind : FilingKind
  priority : Nat
  filed : PerDeck Bool
  deriving DecidableEq, Repr

/-- A lamp's working state (R143). -/
structure LampWork where
  value : Bool := false
  stretch : Option Nat := none
  deriving DecidableEq, Repr

/-- A lane's main-domain state (R129, R148). -/
structure LaneWork where
  state : LaneState := .idle
  request : Option LaneFiling := none
  grant : Option Deck := none
  absence : Option Nat := none
  stuck : Option Nat := none
  lamps : Bank 3 LampWork := Vector.replicate 3 {}
  deriving DecidableEq, Repr

/-! ### The barrier controllers -/

/-- The holds (R149). -/
inductive BarrierHold where
  | none
  | fail
  | command
  deriving DecidableEq, Repr

/-- The fault causes, in the order of R149. -/
inductive FaultCause where
  | motionTimeout
  | bothLimits
  | limitLost
  deriving DecidableEq, Repr

/-- The reasons of a barrier state change, in the order of R166. -/
inductive BarrierReason where
  | latch
  | limit
  | latchCleared
  | failAction
  | closeDelay
  | reversal
  | command
  | placement
  | fault (cause : FaultCause)
  deriving DecidableEq, Repr

/-- A barrier controller's main-domain state (R149). `upperRun` and `lowerRun` count the consecutive ticks of a new
limit reading (R151); `permissive` is the permissive's value as last taken (R152). -/
structure BarrierWork where
  state : BarrierState := .down
  latch : Bool := false
  inLoop : Bool := false
  hold : BarrierHold := .none
  reversal : Bool := false
  closeDelay : Option Nat := none
  motion : Option Nat := none
  cause : Option FaultCause := none
  upper : Bool := false
  lower : Bool := false
  upperRun : Nat := 0
  lowerRun : Nat := 0
  level : Bool := false
  half : Option Nat := none
  permissive : Bool := false
  deriving DecidableEq, Repr

/-! ### The supervisor -/

/-- The reference monitor states (R169). -/
inductive Monitor where
  | start
  | locked
  | substitute
  deriving DecidableEq, Repr

/-- The reset causes, in the order of R169. -/
inductive ResetCause where
  | powerOn
  | powerOnBackupLost
  | supplyDip
  | yardReset
  deriving DecidableEq, Repr

/-- Whether a YARD_RESET has been accepted, and at which port first, or its answer has been sent (R180). -/
inductive ResetPhase where
  | none
  | accepted (p : Port)
  | due
  deriving DecidableEq, Repr

/-- The levels of the field lines when the part is first started: the booms down on their lower limits, every loop
and beam line low, the calibration switch open, and the supply between its thresholds. DESIGN CHOICE (log 2). -/
def restLines : Lines :=
  { inputs := { stop := Vector.replicate 4 false, boom := ⟨false, false, false, false⟩,
                beam1 := ⟨false, false⟩, beam2 := ⟨false, false⟩ }
    upper := ⟨false, false, false, false⟩
    lower := ⟨true, true, true, true⟩
    calSwitch := false
    supply := .between
    refEdges := 0 }

/-- The supervisor's main-domain state (R51, R169, R176, R178, R185). `firstTick` is set until the first tick after
a main reset has ended; `lines` are the line levels at the last tick. -/
structure Supervisor where
  monitor : Monitor := .start
  qualification : Nat := 0
  startTimer : Option Nat := some 2000
  supply : SupplyState := .supplyLow
  restore : Option Nat := some 0
  dip : Bool := false
  cause : ResetCause := .powerOnBackupLost
  alarm : Bool := false
  ms : Nat := 0
  calSwitch : Bool := false
  calRun : Nat := 0
  reset : ResetPhase := .none
  firstTick : Bool := true
  lines : Lines := restLines
  deriving DecidableEq, Repr

/-! ### The station ports -/

/-- The answer codes, numbered from 00h in the order of R206. -/
inductive AnswerCode where
  | ok | clamped | started | portBusy | unknownRequest | notPermitted | badArgument | notBound | notFound
  | wrongState | wrongKind | alreadyVoid | alreadyCollected | nonePending | uncollected | noVehicle
  | yardClosing | yardClosed | tableFull | clockUnset | ticketUnset | tareInvalid | tareFull | logFull
  | held | linesFull | incomplete | deckBusy | deckNotReady | notStable | zeroRange | calLocked
  | faultPersists | loopOccupied
  deriving DecidableEq, Repr

/-- The reasons of TARE_NOT_STORED, in the order of R34. -/
inductive TareRefusal where
  | tareFull
  | clockUnset
  | badArgument
  deriving DecidableEq, Repr

/-- The reasons of CAL_FAILED, in the order of R193. -/
inductive CalFailReason where
  | calLocked
  | supply
  | aborted
  | channelFault
  | spanRange
  deriving DecidableEq, Repr

/-- The SET_ requests that CAL_CHANGE names, in the order of R186. -/
inductive CalRequest where
  | setChannelMap
  | setMetrology
  | setChannelFactor
  | setChannelZero
  deriving DecidableEq, Repr

/-- The notices with their fields, each as its posting rule gives them, in the order of R207. The two forms of CAL_DONE
(R194, R195) are one notice kind. -/
inductive NoticeBody where
  | closureBlocked (number : Nat) (deck : Option Deck) (reason : BlockReason)
  | tareNotStored (number : Nat) (plate : Plate) (reason : TareRefusal)
  | logNearFull (count oldest : Nat)
  | channelFault (channel : Channel) (deck : Deck) (cause : CountCause) (count window : Nat)
  | weighingFailed (deck : Deck) (number : Nat) (reason : FailReason) (attempts : Nat) (origin : Option Port)
  | zeroLimit (deck : Deck) (positive : Bool) (window : Option Nat)
  | tailgate (deck : Deck) (number : Nat)
  | deckIntrusion (deck : Deck) (left : DeckState)
  | clockSubstitute (ms : Nat)
  | supplyLow
  | alarmLine (asserted : Bool) (sources : SourceSet)
  | ticketIssued (number : Nat) (void : Bool) (transaction : Nat)
  | tareStored (number : Nat) (plate : Plate) (weight : Int) (cls : WeighClass) (expiry : Date)
  | tareEvicted (plate : Plate) (expiry : Date)
  | weighingDone (deck : Deck) (number : Nat) (weight : Int) (cls : WeighClass) (division : Nat) (phase : Phase)
      (attempts : Nat) (origin : Option Port)
  | captureDownshift (deck : Deck) (number : Nat) (attempts : Nat)
  | deckRange (deck : Deck) (cond : RangeCond) (window : Nat)
  | grantWithdrawn (deck : Deck) (lane : Lane) (number : Nat) (cause : WithdrawCause)
  | yardMode (left entered : YardMode) (drain : Bool)
  | clockRestored (ms : Nat)
  | supplyRestored
  | calSwitch (closed : Bool) (ms : Nat)
  | calChange (request : CalRequest) (decks : List Deck) (channel : Option Channel) (counter : Nat)
  | calDoneZero (deck : Deck) (zeros : List (Channel × Nat)) (counter : Nat) (origin : Port)
  | calDoneSpan (deck : Deck) (load m : Int) (factors : List (Channel × Nat × Bool)) (counter : Nat) (origin : Port)
  | calFailed (deck : Deck) (kind : CollectionKind) (reason : CalFailReason) (windows : Nat) (origin : Port)
  | calState (deck : Deck) (calibrated : Bool) (counter : Nat)
  | deckState (deck : Deck) (left entered : DeckState) (who : Option (Lane × Nat))
  | laneState (lane : Lane) (left entered : LaneState) (number : Option Nat)
  | barrierState (barrier : Barrier) (left entered : BarrierState) (reason : BarrierReason)
  | engineState (deck : Deck) (left entered : EngineState) (window : Option Nat)
  deriving DecidableEq, Repr

/-- A posted notice: the posting block, the notice, the yard millisecond count at posting, and the origin port of the
operation it reports, if it names one (R207). -/
structure Notice where
  block : Block
  body : NoticeBody
  at_ : Nat
  origin : Option Port
  deriving DecidableEq, Repr

/-- A queued notice with the number its port stamped on it (R207). -/
structure QueuedNotice where
  number : Nat
  notice : Notice
  deriving DecidableEq, Repr

/-- An answer waiting: the request's tag and kind byte, the code and the payload (R214); `early` marks the answers of
steps 1 to 4 of R200. -/
structure Answer where
  tag : Byte
  kind : Byte
  code : AnswerCode
  payload : List Byte
  early : Bool
  deriving DecidableEq, Repr

/-- What a transmitter is sending: the frame on the line, the further parts of the same answer, and whether it is the
answer to the request in hand (R202, R214). -/
structure Sending where
  frame : List Byte
  rest : List (List Byte)
  answersHand : Bool
  deriving DecidableEq, Repr

/-- The request in hand: its tag, the role it was judged under, and whether its block has answered it (R200, R203). -/
structure InHand where
  tag : Byte
  role : Role
  answered : Bool := false
  deriving DecidableEq, Repr

/-- When a new rate that waits takes effect (R198): at the end of the frame being sent, or, at the port that asked for it,
at the end of the answer to that request. -/
inductive RateWait where
  | none
  | frameEnd
  | answerEnd
  deriving DecidableEq, Repr

/-- The receiver of a port (R197, R199): the bytes received after the marker and the gap timer. -/
inductive Receiver where
  | hunting
  | collecting (bytes : List Byte) (gap : Nat)
  deriving DecidableEq, Repr

/-- The flags of a change latch, in the order of R197. -/
inductive Flag where
  | lanes
  | decks
  | yardTable
  | tareStore
  | ticketLog
  | supervision
  | noticeLost
  | restarted
  deriving DecidableEq, Repr

/-- A change latch (R197); after a main reset all eight flags are set (R212). -/
structure Latch where
  lanes : Bool := true
  decks : Bool := true
  yardTable : Bool := true
  tareStore : Bool := true
  ticketLog : Bool := true
  supervision : Bool := true
  noticeLost : Bool := true
  restarted : Bool := true
  deriving DecidableEq, Repr

/-- A port's main-domain state (R197, R212). `rate` is the rate in force on the line and `rateWait` when a new one takes
effect (R198); `incoming` are the notices posted to the port that it has not taken yet (R207); `sending` is the frame on
the line (R202). The answers waiting are `answers`, and behind them `held`: those judged after the request in hand while
its block has not answered it (R202). -/
structure PortWork where
  receiver : Receiver := .hunting
  hand : Option InHand := none
  answers : List Answer := []
  held : List Answer := []
  queue : List QueuedNotice := []
  number : Nat := 0
  floor : Nat := 3
  quiet : Option Nat := none
  latch : Latch := {}
  errors : Nat := 0
  sending : Option Sending := none
  rate : Nat := 19200
  rateWait : RateWait := .none
  incoming : List Notice := []
  deriving DecidableEq, Repr

/-! ### The whole state -/

/-- The yard mode as each reader last took it (R170). -/
structure ModeViews where
  records : YardMode := .closed
  captureUnit : YardMode := .closed
  engine : PerDeck YardMode := ⟨.closed, .closed⟩
  arbiter : PerDeck YardMode := ⟨.closed, .closed⟩
  entryBarrier : PerDeck YardMode := ⟨.closed, .closed⟩
  lane : Bank 4 YardMode := Vector.replicate 4 .closed
  deriving DecidableEq, Repr

/-- The supply state as each reader last took it; every reader starts from SUPPLY_LOW (R177, R178). -/
structure SupplyViews where
  engine : PerDeck SupplyState := ⟨.supplyLow, .supplyLow⟩
  arbiter : PerDeck SupplyState := ⟨.supplyLow, .supplyLow⟩
  barrier : PerBarrier SupplyState := ⟨.supplyLow, .supplyLow, .supplyLow, .supplyLow⟩
  deriving DecidableEq, Repr

/-- The barrier states as the deck arbiters (each of its own deck's barriers) and each lane last took them (R166). -/
structure BarrierViews where
  arbiter : PerBarrier BarrierState := ⟨.down, .down, .down, .down⟩
  lane : Bank 4 (PerBarrier BarrierState) := Vector.replicate 4 ⟨.down, .down, .down, .down⟩
  deriving DecidableEq, Repr

/-- The main domain. `raised` holds the events that one block has handed to another, or a port to an owning block,
and that have not been taken yet. -/
structure Main where
  channels : Bank 16 ChannelWork := Vector.replicate 16 {}
  windows : PerDeck WindowWork := ⟨{}, {}⟩
  engines : PerDeck Engine := ⟨{}, {}⟩
  arbiters : PerDeck Arbiter := ⟨{}, {}⟩
  inputs : PerInput ConditionerWork :=
    { stop := Vector.replicate 4 {}, boom := ⟨{}, {}, {}, {}⟩, beam1 := ⟨{}, {}⟩, beam2 := ⟨{}, {}⟩ }
  lanes : Bank 4 LaneWork := Vector.replicate 4 {}
  barriers : PerBarrier BarrierWork := ⟨{}, {}, {}, {}⟩
  sup : Supervisor := {}
  ports : Bank 6 PortWork := Vector.replicate 6 {}
  modes : ModeViews := {}
  supplies : SupplyViews := {}
  booms : BarrierViews := {}
  raised : List Instr := []
  deriving DecidableEq, Repr

/-- The state: the backup domain with its check value (R181), the main domain, whether the main domain runs (R179), and
the queue of commands that wait, first in, first out. -/
structure State where
  backup : Backup
  check : Nat
  main : Main
  running : Bool
  pending : List Instr
  deriving DecidableEq, Repr

/-- No command of the part ends in a fault: every rule of the spec gives its event an effect. Nothing raises one. -/
inductive Fault where
  deriving DecidableEq, Repr

/-- The refusals. -/
inductive Refusal where
  /-- Raised by `exec` alone, for a command without a meaning yet; there is none left. Safe: it stops. -/
  | notModelled (mnemonic : String)
  deriving DecidableEq, Repr

/-- A signal head after a main reset with the lane IDLE: STOP is true, WAITING and GO are false (R144, R148). -/
def restLane : LaneWork := { lamps := #v[{ value := true }, {}, {}] }

/-- A barrier after a main reset with its lower limit ACTIVE: placed DOWN (R168). -/
def restBarrier : BarrierWork := { lower := true }

/-- A port after a main reset: the floor is the default of the role (R208), and the first notice on its way is the
ALARM_LINE of the restart, for SUPPLY_LOW (R178, R182). -/
def restPort (floor : Nat) : PortWork :=
  { floor := floor
    incoming :=
      [{ block := .supervisor, body := .alarmLine true { supplyLow := true }, at_ := 0, origin := none }] }

/-- The part right after a backup loss (R179, R181), the reset that leaves every item at a stated value. -/
def State.reset : State :=
  { backup := {}
    check := checkValue {}
    main :=
      { lanes := Vector.replicate 4 restLane
        barriers := ⟨restBarrier, restBarrier, restBarrier, restBarrier⟩
        sup := { alarm := true }
        ports := #v[restPort 1, restPort 3, restPort 3, restPort 3, restPort 3, restPort 3] }
    running := true
    pending := [] }

end Sys2Proof.Machine
end

