-- ==== Sys2Proof/Machine/Operands.lean ====
section
/-! DEFINITION. The operand forms: the raw arguments of a request read as decks, lanes, names and settings, the plate
rules, clamping, rounding, and the arithmetic of the yard-clock calendar. -/

namespace Sys2Proof.Machine

/-! ### Numbered things -/

/-- A deck by its number, A at 0 (R213). -/
def deckOf : Nat → Option Deck
  | 0 => some .a
  | 1 => some .b
  | _ => none

/-- A lane by its number (R213). -/
def laneOf (n : Nat) : Option Lane := if h : n < 4 then some ⟨n, h⟩ else none
/-- A port by its number (R213). -/
def portOf (n : Nat) : Option Port := if h : n < 6 then some ⟨n, h⟩ else none
/-- A channel by its number (R53). -/
def channelOf (n : Nat) : Option Channel := if h : n < 16 then some ⟨n, h⟩ else none

/-- A lamp by its number 1 to 3 (R147). -/
def lampOf : Nat → Option Lamp
  | 1 => some 0
  | 2 => some 1
  | 3 => some 2
  | _ => none

/-- A conditioned input by its place in the table of R125. -/
def inputOf (n : Nat) : Option Input := Input.all[n]?
/-- A barrier by its place in R149 and R163. -/
def barrierOf (n : Nat) : Option Barrier := Barrier.all[n]?

/-! ### Enumerations, each in the order of the rule that lists its values (R215) -/

/-- The mode of an IDENTIFY (R2). -/
def modeOf : Nat → Option Mode
  | 0 => some .twoPass
  | 1 => some .storedTare
  | 2 => some .tareOnly
  | _ => none

/-- The class of a STORE_TARE (R27). -/
def classOf : Nat → Option WeighClass
  | 0 => some .approved
  | 1 => some .indicative
  | _ => none

/-- The intent of an IDENTIFY, FINAL or SPLIT (R2), with the material it would split to. -/
def intentOf (material : Nat) : Nat → Option Intent
  | 0 => some .final
  | 1 => some (.split material)
  | _ => none

/-- A channel map: deck A, deck B or UNUSED (R52). -/
def mapOf : Nat → Option (Option Deck)
  | 0 => some (some .a)
  | 1 => some (some .b)
  | 2 => some none
  | _ => none

/-- A channel polarity (R52). -/
def edgeOf : Nat → Option Edge
  | 0 => some .rising
  | 1 => some .falling
  | _ => none

/-- A setting whose first listed name stands for `true` and second for `false`: ON or OFF. -/
def switchOf : Nat → Option Bool
  | 0 => some true
  | 1 => some false
  | _ => none

/-- The scope of CLEAR_FAULTS: `true` for LATCH_AND_COUNT (R62). -/
def scopeOf : Nat → Option Bool
  | 0 => some false
  | 1 => some true
  | _ => none

/-- A lane feed (R139). -/
def feedOf : Nat → Option Feed
  | 0 => some .a
  | 1 => some .b
  | 2 => some .both
  | _ => none

/-- A lamp source by its place in the table of R144. -/
def sourceOf : Nat → Option LampSource
  | 0 => some .stop
  | 1 => some .go
  | 2 => some .waiting
  | 3 => some .present
  | 4 => some .fault
  | 5 => some .deckBusy
  | 6 => some .yardClosed
  | 7 => some .on
  | 8 => some .off
  | _ => none

/-- A fail action (R149). -/
def failActionOf : Nat → Option FailAction
  | 0 => some .lower
  | 1 => some .hold
  | _ => none

/-- A yard mode (R169). -/
def yardModeOf : Nat → Option YardMode
  | 0 => some .open
  | 1 => some .closing
  | 2 => some .closed
  | _ => none

/-- An interval mode (R67). -/
def intervalModeOf : Nat → Option IntervalMode
  | 0 => some .dual
  | 1 => some .single
  | _ => none

/-- A port role (R197), NONE being the first value listed: 00h, not FFFFFFFFh or FFh (R213, R215; DESIGN CHOICE, log 15). -/
def roleOf : Nat → Option Role
  | 0 => some .none
  | 1 => some .kiosk
  | 2 => some .office
  | 3 => some .console
  | _ => none

/-- The actions of BARRIER_COMMAND, in the order of R164. -/
inductive BarrierAction where
  | raise
  | lower
  | stop
  deriving DecidableEq, Repr

/-- A barrier action (R164). -/
def actionOf : Nat → Option BarrierAction
  | 0 => some .raise
  | 1 => some .lower
  | 2 => some .stop
  | _ => none

/-! ### Decks of a feed -/

/-- Whether a feed takes in a deck (R139). -/
def Feed.has : Feed → Deck → Bool
  | .a, .a => true
  | .a, .b => false
  | .b, .a => false
  | .b, .b => true
  | .both, _ => true

/-- The decks of a feed. -/
def Feed.decks (f : Feed) : List Deck := Deck.all.filter f.has

/-! ### Numbers -/

/-- The nearest value of an inclusive range (Conventions: clamping). -/
def clampNat (lo hi n : Nat) : Nat := if n < lo then lo else if hi < n then hi else n

/-- The nearest value of an inclusive signed range. -/
def clampInt (lo hi n : Int) : Int := if n < lo then lo else if hi < n then hi else n

/-- A quotient rounded to the nearest integer, halves away from zero (Conventions). The divisor is above 0. -/
def roundDiv (n : Int) (d : Nat) : Int :=
  if 0 ≤ n then (2 * n + d) / (2 * d) else -((2 * (-n) + d) / (2 * d))

/-- A saturating counter's next value (Conventions). -/
def satInc (n : Nat) : Nat := if n < Config.u16Max then n + 1 else n

/-! ### Plates (Conventions: Text and codes; R215) -/

/-- The character codes of plates: space, hyphen, digits and capital letters (R215). -/
def plateChar (c : Byte) : Bool :=
  c.toNat = 0x20 || c.toNat = 0x2D || (0x30 ≤ c.toNat && c.toNat ≤ 0x39) || (0x41 ≤ c.toNat && c.toNat ≤ 0x5A)

/-- A plate without its trailing spaces (R215). -/
def trimPlate (t : List Byte) : Plate := (t.reverse.dropWhile (fun c => c.toNat = 0x20)).reverse

/-- The character rules: 1 to 12 characters of the set. -/
def plateOk (p : Plate) : Bool := 1 ≤ p.length && p.length ≤ 12 && p.all plateChar

/-- The plate order of the tare write (R29): character by character, a shorter plate below its extensions. -/
def plateLt : Plate → Plate → Bool
  | [], [] => false
  | [], _ :: _ => true
  | _ :: _, [] => false
  | a :: as, b :: bs => a.toNat < b.toNat || (a.toNat = b.toNat && plateLt as bs)

/-! ### Codes -/

/-- Account codes (Conventions). -/
def accountOk (n : Nat) : Bool := n ≤ Config.accountMax
/-- Material codes (Conventions). -/
def materialOk (n : Nat) : Bool := 1 ≤ n && n ≤ Config.materialMax
/-- Hold reason codes (Conventions). -/
def holdReasonOk (n : Nat) : Bool := 1 ≤ n && n ≤ 255

/-! ### The calendar (R36) -/

/-- Leap years: from 2000 to 2096 those divisible by 4; an expiry date may fall in 2100, which the Gregorian
calendar does not make a leap year (log 14). -/
def leapYear (y : Nat) : Bool := y % 4 = 0 && (y % 100 ≠ 0 || y % 400 = 0)

/-- The days of a month. -/
def monthDays (y m : Nat) : Nat :=
  match m with
  | 2 => if leapYear y then 29 else 28
  | 4 => 30
  | 6 => 30
  | 9 => 30
  | 11 => 30
  | _ => 31

/-- The day after a date. -/
def nextDay (d : Date) : Date :=
  if d.day < monthDays d.year d.month then { d with day := d.day + 1 }
  else if d.month < 12 then { d with month := d.month + 1, day := 1 }
  else { year := d.year + 1, month := 1, day := 1 }

/-- A date some calendar days later. -/
def addDays (d : Date) : Nat → Date
  | 0 => d
  | n + 1 => addDays (nextDay d) n

/-- The place of a date in the order of dates. -/
def dateKey (d : Date) : Nat := (d.year * 16 + d.month) * 32 + d.day

/-- Whether a date exists in the calendar, in the years of the clock (R37). -/
def dateExists (d : Date) : Bool :=
  2000 ≤ d.year && d.year ≤ 2099 && 1 ≤ d.month && d.month ≤ 12 && 1 ≤ d.day && d.day ≤ monthDays d.year d.month

/-- Whether a date and time is a value of the clock (R36, R37). -/
def timeExists (t : DateTime) : Bool :=
  dateExists t.date && t.hour ≤ 23 && t.minute ≤ 59 && t.second ≤ 59

/-- The value at which the clock stops advancing (R36). -/
def lastSecond : DateTime := { date := { year := 2099, month := 12, day := 31 }, hour := 23, minute := 59, second := 59 }

/-- The next second of the clock (R36). -/
def nextSecond (t : DateTime) : DateTime :=
  if t = lastSecond then t
  else if t.second < 59 then { t with second := t.second + 1 }
  else if t.minute < 59 then { t with minute := t.minute + 1, second := 0 }
  else if t.hour < 23 then { t with hour := t.hour + 1, minute := 0, second := 0 }
  else { date := nextDay t.date, hour := 0, minute := 0, second := 0 }

end Sys2Proof.Machine
end

