-- ==== Sys2Proof/Machine/Formats.lean ====
section
/-! DEFINITION. The frame and record formats (R213 to R216): the check, frames, the field types, the records that
answers and notices carry, and the notices themselves. Where R216 leaves an order or a type to the owning rule, the
reading made here is in the log (log 15). -/

namespace Sys2Proof.Machine

/-! ### Field types (R215) -/

/-- One byte. -/
def u8 (n : Nat) : List Byte := [BitVec.ofNat 8 n]
/-- Two bytes, most significant first. -/
def u16 (n : Nat) : List Byte := u8 (n / 256) ++ u8 n
/-- Four bytes, most significant first. -/
def u32 (n : Nat) : List Byte := be32 n
/-- Six bytes, most significant first. -/
def u48 (n : Nat) : List Byte := u16 (n / 4294967296) ++ u32 n
/-- Four bytes in two's complement; a free value where the value lies outside 32 bits (log 33). -/
def s32 (i : Int) : List Byte :=
  if -2147483648 ≤ i ∧ i < 2147483648 then u32 (i % 4294967296).toNat else u32 (Config.wideGrams i).toNat
/-- A boolean. -/
def boolean (b : Bool) : List Byte := u8 (if b then 1 else 0)
/-- An optional field. -/
def optional {α : Type} (f : α → List Byte) : Option α → List Byte
  | none => u8 0
  | some a => u8 1 ++ f a
/-- A list: the item count, then the items. -/
def items {α : Type} (f : α → List Byte) (xs : List α) : List Byte := u8 xs.length ++ xs.flatMap f
/-- A text. -/
def text (t : List Byte) : List Byte := u8 t.length ++ t
/-- A date. -/
def date (d : Date) : List Byte := u8 (d.year - 2000) ++ u8 d.month ++ u8 d.day
/-- A date-time. -/
def dateTime (t : DateTime) : List Byte := date t.date ++ u8 t.hour ++ u8 t.minute ++ u8 t.second

/-- A flag set: bit 0 for the first flag. -/
def flagSet (fs : List Bool) : List Byte :=
  u8 (fs.foldr (fun b n => (if b then 1 else 0) + 2 * n) 0)

/-! ### Numbers of things and places in enumerations -/

def Deck.num : Deck → Nat
  | .a => 0
  | .b => 1

def deckByte (d : Deck) : List Byte := u8 (Deck.num d)
def portByte (p : Port) : List Byte := u8 p.val
def laneByte (l : Lane) : List Byte := u8 l.val
def channelByte (c : Channel) : List Byte := u8 c.val

def barrierByte : Barrier → List Byte
  | .aEntry => u8 0
  | .aExit => u8 1
  | .bEntry => u8 2
  | .bExit => u8 3

def classByte : WeighClass → List Byte
  | .approved => u8 0
  | .indicative => u8 1

def modeByte : Mode → List Byte
  | .twoPass => u8 0
  | .storedTare => u8 1
  | .tareOnly => u8 2

def entryStateByte : EntryState → List Byte
  | .admitted => u8 0
  | .onDeck => u8 1
  | .inYard => u8 2
  | .recalled => u8 3
  | .quarantine => u8 4

def blockReasonByte : BlockReason → List Byte
  | .held => u8 0
  | .ticketUnset => u8 1
  | .clockUnset => u8 2
  | .logFull => u8 3

def failReasonByte : FailReason → List Byte
  | .unstable => u8 0
  | .clock => u8 1
  | .leftDeck => u8 2
  | .channelFault => u8 3
  | .overload => u8 4
  | .underload => u8 5
  | .supply => u8 6
  | .tailgate => u8 7
  | .aborted => u8 8

def withdrawCauseByte : WithdrawCause → List Byte
  | .absence => u8 0
  | .proceedTimeout => u8 1
  | .supply => u8 2
  | .lapsed => u8 3
  | .cancel => u8 4

def standingByte : Standing → List Byte
  | .valid => u8 0
  | .expired => u8 1
  | .notYetValid => u8 2
  | .unknown => u8 3

def directionByte : Direction → List Byte
  | .inboundDelivery => u8 0
  | .outboundCollection => u8 1

def tickMarkByte : TickMark → List Byte
  | .reference => u8 0
  | .backup => u8 1

def windowStatusByte : WindowStatus → List Byte
  | .valid => u8 0
  | .channelInvalid => u8 1
  | .noChannels => u8 2
  | .short => u8 3

def countCauseByte : CountCause → List Byte
  | .saturated => u8 0
  | .low => u8 1
  | .high => u8 2

def occupancyByte : Occupancy → List Byte
  | .unknown => u8 0
  | .empty => u8 1
  | .loaded => u8 2

/-- The engine states in the order of R66 (DESIGN CHOICE, log 15: the table before R80 has another). -/
def engineStateByte : EngineState → List Byte
  | .off => u8 0
  | .warmup => u8 1
  | .empty => u8 2
  | .loaded => u8 3
  | .capturing => u8 4

/-- The range conditions in the order of R79 (DESIGN CHOICE, log 15: R76 has another). -/
def rangeByte : RangeCond → List Byte
  | .inRange => u8 0
  | .overload => u8 1
  | .underload => u8 2

def phaseByte : Phase → List Byte
  | .normal => u8 0
  | .relaxed => u8 1

def deckStateByte : DeckState → List Byte
  | .free => u8 0
  | .granted => u8 1
  | .occupied => u8 2
  | .clearing => u8 3
  | .recover => u8 4
  | .outOfService => u8 5

def filingKindByte : FilingKind → List Byte
  | .admission => u8 0
  | .recall => u8 1

def laneStateByte : LaneState → List Byte
  | .idle => u8 0
  | .present => u8 1
  | .waiting => u8 2
  | .go => u8 3
  | .maintenance => u8 4
  | .fault => u8 5

def feedByte : Feed → List Byte
  | .a => u8 0
  | .b => u8 1
  | .both => u8 2

def lampSourceByte : LampSource → List Byte
  | .stop => u8 0
  | .go => u8 1
  | .waiting => u8 2
  | .present => u8 3
  | .fault => u8 4
  | .deckBusy => u8 5
  | .yardClosed => u8 6
  | .on => u8 7
  | .off => u8 8

def debouncedByte : Debounced → List Byte
  | .active => u8 0
  | .clear => u8 1
  | .unknown => u8 2

def barrierStateByte : BarrierState → List Byte
  | .down => u8 0
  | .raising => u8 1
  | .up => u8 2
  | .lowering => u8 3
  | .stopped => u8 4
  | .fault => u8 5

/-- A barrier's hold, NONE being the first value R149 lists: 00h, not FFh (R215; DESIGN CHOICE, log 15). -/
def holdByte : BarrierHold → List Byte
  | .none => u8 0
  | .fail => u8 1
  | .command => u8 2

def faultCauseByte : FaultCause → List Byte
  | .motionTimeout => u8 0
  | .bothLimits => u8 1
  | .limitLost => u8 2

def barrierReasonByte : BarrierReason → List Byte
  | .latch => u8 0
  | .limit => u8 1
  | .latchCleared => u8 2
  | .failAction => u8 3
  | .closeDelay => u8 4
  | .reversal => u8 5
  | .command => u8 6
  | .placement => u8 7
  | .fault .motionTimeout => u8 8
  | .fault .bothLimits => u8 9
  | .fault .limitLost => u8 10

def failActionByte : FailAction → List Byte
  | .lower => u8 0
  | .hold => u8 1

def yardModeByte : YardMode → List Byte
  | .open => u8 0
  | .closing => u8 1
  | .closed => u8 2

def monitorByte : Monitor → List Byte
  | .start => u8 0
  | .locked => u8 1
  | .substitute => u8 2

def supplyByte : SupplyState → List Byte
  | .normal => u8 0
  | .supplyLow => u8 1

def resetCauseByte : ResetCause → List Byte
  | .powerOn => u8 0
  | .powerOnBackupLost => u8 1
  | .supplyDip => u8 2
  | .yardReset => u8 3

/-- A port role, NONE being the first value R197 lists: 00h, not FFh (R215; DESIGN CHOICE, log 15). -/
def roleByte : Role → List Byte
  | .none => u8 0
  | .kiosk => u8 1
  | .office => u8 2
  | .console => u8 3

def intervalModeByte : IntervalMode → List Byte
  | .dual => u8 0
  | .single => u8 1

/-- A channel map; UNUSED is the last of the three values (R52). -/
def mapByte : Option Deck → List Byte
  | some .a => u8 0
  | some .b => u8 1
  | none => u8 2

def edgeByte : Edge → List Byte
  | .rising => u8 0
  | .falling => u8 1

def tareRefusalByte : TareRefusal → List Byte
  | .tareFull => u8 0
  | .clockUnset => u8 1
  | .badArgument => u8 2

def calFailByte : CalFailReason → List Byte
  | .calLocked => u8 0
  | .supply => u8 1
  | .aborted => u8 2
  | .channelFault => u8 3
  | .spanRange => u8 4

/-- The request named in CAL_CHANGE, an enumeration in the order of R186 and not its kind byte (DESIGN CHOICE, log 15). -/
def calRequestByte : CalRequest → List Byte
  | .setChannelMap => u8 0
  | .setMetrology => u8 1
  | .setChannelFactor => u8 2
  | .setChannelZero => u8 3

/-- ON is the first of the two values of a switch setting. -/
def switchByte (b : Bool) : List Byte := u8 (if b then 0 else 1)

/-- CALIBRATED or UNCALIBRATED (R187). -/
def calibratedByte (b : Bool) : List Byte := u8 (if b then 0 else 1)

/-- The calibration switch, CLOSED or OPEN (R185). -/
def calSwitchByte (closed : Bool) : List Byte := u8 (if closed then 0 else 1)

/-- The alarm sources as a flag set (R182, R215). -/
def sourceSet (x : SourceSet) : List Byte :=
  flagSet [x.barrierFault, x.channelFault, x.clockSubstitute, x.supplyLow, x.zeroLimit, x.logNearFull, x.tailgate,
    x.closurePending]

/-- A change latch as a flag set (R197, R215). -/
def latchSet (x : Latch) : List Byte :=
  flagSet [x.lanes, x.decks, x.yardTable, x.tareStore, x.ticketLog, x.supervision, x.noticeLost, x.restarted]

/-- A set of causes in a fault latch (R52). -/
def causeSet (x : CauseSet) : List Byte := flagSet [x.saturated, x.low, x.high]

/-- The origin of a capture: AUTOMATIC, or CONSOLE with its port (R87). -/
def originBytes (o : Option Port) : List Byte := u8 (if o.isSome then 1 else 0) ++ optional portByte o

/-! ### Records (R216) -/

/-- A weighing. -/
def weighingBytes (w : Weighing) : List Byte :=
  s32 w.weight ++ classByte w.cls ++ u8 w.division ++ deckByte w.deck ++ optional dateTime w.time

/-- A tare snapshot. -/
def snapshotBytes (x : Snapshot) : List Byte := s32 x.weight ++ classByte x.cls ++ date x.stored

/-- The flags of a transaction entry. -/
def entryFlags (e : Entry) : List Byte := flagSet [e.interrupted, e.closurePending, e.cancelling]

/-- A recall intent. Its origin is IN_YARD or QUARANTINE as 00h or 01h, the two that R2 names for it, and not their numbers
among the states (DESIGN CHOICE, log 15). -/
def recallBytes (r : Recall) : List Byte :=
  (match r.intent with
    | .final => u8 0 ++ u16 0
    | .split m => u8 1 ++ u16 m)
  ++ (match r.origin with
    | .inYard => u8 0
    | .quarantine => u8 1)

/-- The purpose of a pass, with the material of a SPLIT. -/
def purposeBytes : Purpose → List Byte
  | .first => u8 0 ++ u16 0
  | .split m => u8 1 ++ u16 m
  | .final => u8 2 ++ u16 0
  | .gross => u8 3 ++ u16 0
  | .tare => u8 4 ++ u16 0

/-- The status of a pass and its failure reason. -/
def passStatusBytes : PassStatus → List Byte
  | .awaiting => u8 0 ++ u8 255
  | .failed r => u8 1 ++ failReasonByte r
  | .done => u8 2 ++ u8 255

/-- A pass. -/
def passBytes (p : Pass) : List Byte := purposeBytes p.purpose ++ deckByte p.deck ++ passStatusBytes p.status

/-- A departure. -/
def departureBytes : Departure → List Byte
  | .toYard => u8 0 ++ u32 0
  | .toQuarantine => u8 1 ++ u32 0
  | .closed n => u8 2 ++ u32 n
  | .discharged => u8 3 ++ u32 0

/-- A transaction entry. -/
def entryBytes (e : Entry) : List Byte :=
  u16 e.number ++ text e.plate ++ optional u32 e.tag ++ u32 e.account ++ modeByte e.mode ++ entryStateByte e.state
  ++ optional (fun h : Hold => u8 h.reason ++ portByte h.port) e.hold ++ entryFlags e
  ++ optional blockReasonByte e.blocked
  ++ optional (fun r : LaneRequest => laneByte r.lane ++ u8 r.priority) e.request
  ++ optional recallBytes e.recallIntent ++ optional passBytes e.pass ++ optional departureBytes e.departure
  ++ items weighingBytes e.weighings ++ items u16 e.lines ++ optional snapshotBytes e.snapshot ++ dateTime e.admitted

/-- An entry in LIST_YARD. -/
def entryLine (e : Entry) : List Byte := u16 e.number ++ text e.plate ++ entryStateByte e.state ++ entryFlags e

/-- A tare record. -/
def tareBytes (t : Tare) : List Byte :=
  text t.plate ++ optional u32 t.tag ++ s32 t.weight ++ classByte t.cls ++ date t.stored ++ u16 t.validity
  ++ u32 t.account

/-- A ticket record. -/
def ticketBytes (t : Ticket) : List Byte :=
  u32 t.number
  ++ (match t.body with
    | .weight _ _ _ _ => u8 0
    | .void _ _ => u8 1)
  ++ classByte t.cls ++ flagSet [t.seqStart, t.voided, t.collected] ++ u16 t.transaction ++ text t.plate
  ++ u32 t.account ++ modeByte t.mode ++ directionByte t.direction
  ++ (match t.body with
    | .weight ws ls net tare =>
        items weighingBytes ws ++ items (fun p : Nat × Int => u16 p.1 ++ s32 p.2) ls
        ++ optional s32 (some net)
        ++ optional (fun x : Option Snapshot => u8 (if x.isSome then 1 else 0) ++ optional snapshotBytes x) (some tare)
    | .void _ _ => u8 0 ++ u8 0 ++ u8 0 ++ u8 0)
  ++ dateTime t.issued
  ++ (match t.body with
    | .weight _ _ _ _ => u8 0
    | .void n r => u8 1 ++ u32 n ++ u8 r)

/-- A metrology set, as the deck readout lays it out. -/
def metrologyBytes (m : Metrology) : List Byte :=
  intervalModeByte m.mode ++ u32 m.max1 ++ u32 m.max2 ++ u8 m.e1 ++ u8 m.e2 ++ u16 m.window ++ u8 m.f ++ u8 m.s

/-! ### Notices (R207, R214) -/

/-- The number of a notice kind (R214). -/
def NoticeBody.kind : NoticeBody → Nat
  | .closureBlocked .. => 0x00
  | .tareNotStored .. => 0x01
  | .logNearFull .. => 0x02
  | .channelFault .. => 0x03
  | .weighingFailed .. => 0x04
  | .zeroLimit .. => 0x05
  | .tailgate .. => 0x06
  | .deckIntrusion .. => 0x07
  | .clockSubstitute .. => 0x08
  | .supplyLow .. => 0x09
  | .alarmLine .. => 0x0A
  | .ticketIssued .. => 0x0B
  | .tareStored .. => 0x0C
  | .tareEvicted .. => 0x0D
  | .weighingDone .. => 0x0E
  | .captureDownshift .. => 0x0F
  | .deckRange .. => 0x10
  | .grantWithdrawn .. => 0x11
  | .yardMode .. => 0x12
  | .clockRestored .. => 0x13
  | .supplyRestored .. => 0x14
  | .calSwitch .. => 0x15
  | .calChange .. => 0x16
  | .calDoneZero .. => 0x17
  | .calDoneSpan .. => 0x17
  | .calFailed .. => 0x18
  | .calState .. => 0x19
  | .deckState .. => 0x1A
  | .laneState .. => 0x1B
  | .barrierState .. => 0x1C
  | .engineState .. => 0x1D

/-- The level of a notice kind (R207). -/
def NoticeBody.level (b : NoticeBody) : Nat :=
  if b.kind ≤ 0x0A then 3 else if b.kind ≤ 0x19 then 2 else if b.kind ≤ 0x1C then 1 else 0

/-- The fields of a notice, in the order its posting rule names them (R216). The count of LOG_NEAR_FULL as u16, the sign of
ZERO_LIMIT as a byte, the origin of a capture in two parts, the lists of CAL_DONE, and the one presence byte before the lane
and the transaction of DECK_STATE (R107) are the DESIGN CHOICES of log 15. -/
def NoticeBody.fields : NoticeBody → List Byte
  | .closureBlocked n d r => u16 n ++ optional deckByte d ++ blockReasonByte r
  | .tareNotStored n p r => u16 n ++ text p ++ tareRefusalByte r
  | .logNearFull c o => u16 c ++ u32 o
  | .channelFault ch d c n w => channelByte ch ++ deckByte d ++ countCauseByte c ++ u32 n ++ u32 w
  | .weighingFailed d n r k o => deckByte d ++ u16 n ++ failReasonByte r ++ u8 k ++ originBytes o
  | .zeroLimit d pos w => deckByte d ++ u8 (if pos then 0 else 1) ++ optional u32 w
  | .tailgate d n => deckByte d ++ u16 n
  | .deckIntrusion d st => deckByte d ++ deckStateByte st
  | .clockSubstitute ms => u48 ms
  | .supplyLow => []
  | .alarmLine x srcs => u8 (if x then 0 else 1) ++ sourceSet srcs
  | .ticketIssued n v t => u32 n ++ u8 (if v then 1 else 0) ++ u16 t
  | .tareStored n p w c e => u16 n ++ text p ++ s32 w ++ classByte c ++ date e
  | .tareEvicted p e => text p ++ date e
  | .weighingDone d n w c e ph k o =>
      deckByte d ++ u16 n ++ s32 w ++ classByte c ++ u8 e ++ phaseByte ph ++ u8 k ++ originBytes o
  | .captureDownshift d n k => deckByte d ++ u16 n ++ u8 k
  | .deckRange d c w => deckByte d ++ rangeByte c ++ u32 w
  | .grantWithdrawn d l n c => deckByte d ++ laneByte l ++ u16 n ++ withdrawCauseByte c
  | .yardMode x y dr => yardModeByte x ++ yardModeByte y ++ boolean dr
  | .clockRestored ms => u48 ms
  | .supplyRestored => []
  | .calSwitch c ms => calSwitchByte c ++ u48 ms
  | .calChange r ds ch n => calRequestByte r ++ items deckByte ds ++ optional channelByte ch ++ u16 n
  | .calDoneZero d zs n o =>
      deckByte d ++ u8 0 ++ items (fun z : Channel × Nat => u32 z.2) zs ++ u16 n ++ portByte o
  | .calDoneSpan d l m ks n o =>
      deckByte d ++ u8 1 ++ s32 l ++ s32 m
      ++ items (fun k : Channel × Nat × Bool => u32 k.2.1 ++ boolean k.2.2) ks ++ u16 n ++ portByte o
  | .calFailed d k r w o =>
      deckByte d
      ++ (match k with
        | .zero => u8 0
        | .span _ => u8 1)
      ++ calFailByte r ++ u8 w ++ portByte o
  | .calState d c n => deckByte d ++ calibratedByte c ++ u16 n
  | .deckState d x y who =>
      deckByte d ++ deckStateByte x ++ deckStateByte y
      ++ optional (fun w : Lane × Nat => laneByte w.1 ++ u16 w.2) who
  | .laneState l x y n => laneByte l ++ laneStateByte x ++ laneStateByte y ++ optional u16 n
  | .barrierState b x y r => barrierByte b ++ barrierStateByte x ++ barrierStateByte y ++ barrierReasonByte r
  | .engineState d x y w => deckByte d ++ engineStateByte x ++ engineStateByte y ++ optional u32 w

/-- The body of a notice frame (R214). -/
def noticeBytes (q : QueuedNotice) : List Byte :=
  u8 0xC0 ++ u8 0 ++ u8 q.notice.body.kind ++ u16 q.number ++ u48 q.notice.at_ ++ q.notice.body.fields

/-! ### The check and the frame (R213) -/

/-- One bit of the CRC-16. -/
def crcShift (r : BitVec 16) : BitVec 16 := if r.msb then (r <<< 1) ^^^ 0x1021#16 else r <<< 1

/-- One byte into the CRC-16, most significant bit first. -/
def crcByte (r : BitVec 16) (b : Byte) : BitVec 16 :=
  crcShift (crcShift (crcShift (crcShift (crcShift (crcShift (crcShift (crcShift
    (r ^^^ ((b.setWidth 16) <<< 8)))))))))

/-- The CRC-16 of some bytes. -/
def crc16 (bs : List Byte) : BitVec 16 := bs.foldl crcByte 0xFFFF#16

/-- A frame around a body. -/
def frame (body : List Byte) : List Byte :=
  Config.marker :: (u8 body.length ++ body ++ u16 (crc16 (u8 body.length ++ body)).toNat)

/-! ### Answers (R206, R214) -/

/-- The number of an answer code (R214). -/
def AnswerCode.num : AnswerCode → Nat
  | .ok => 0x00
  | .clamped => 0x01
  | .started => 0x02
  | .portBusy => 0x03
  | .unknownRequest => 0x04
  | .notPermitted => 0x05
  | .badArgument => 0x06
  | .notBound => 0x07
  | .notFound => 0x08
  | .wrongState => 0x09
  | .wrongKind => 0x0A
  | .alreadyVoid => 0x0B
  | .alreadyCollected => 0x0C
  | .nonePending => 0x0D
  | .uncollected => 0x0E
  | .noVehicle => 0x0F
  | .yardClosing => 0x10
  | .yardClosed => 0x11
  | .tableFull => 0x12
  | .clockUnset => 0x13
  | .ticketUnset => 0x14
  | .tareInvalid => 0x15
  | .tareFull => 0x16
  | .logFull => 0x17
  | .held => 0x18
  | .linesFull => 0x19
  | .incomplete => 0x1A
  | .deckBusy => 0x1B
  | .deckNotReady => 0x1C
  | .notStable => 0x1D
  | .zeroRange => 0x1E
  | .calLocked => 0x1F
  | .faultPersists => 0x20
  | .loopOccupied => 0x21

/-- An answer payload cut into parts of 235 bytes, at least one. -/
def parts : Nat → List Byte → List (List Byte)
  | 0, bs => [bs]
  | n + 1, bs =>
      if bs.length ≤ Config.partBytes then [bs]
      else bs.take Config.partBytes :: parts n (bs.drop Config.partBytes)

/-- The frames of the parts, the index of the first being `i`; bit 7 stands on the final part. -/
def partFrames (a : Answer) : Nat → List (List Byte) → List (List Byte)
  | _, [] => []
  | i, [p] => [frame (u8 0x80 ++ [a.tag, a.kind] ++ u8 a.code.num ++ u8 (0x80 + i) ++ p)]
  | i, p :: ps => frame (u8 0x80 ++ [a.tag, a.kind] ++ u8 a.code.num ++ u8 i ++ p) :: partFrames a (i + 1) ps

/-- The frames of an answer. -/
def answerFrames (a : Answer) : List (List Byte) := partFrames a 0 (parts a.payload.length a.payload)

end Sys2Proof.Machine
end

