-- ==== Sys2Proof/Machine/Ops.lean ====
section
/-! DEFINITION. The named operations over the state: reading and rewriting one item, delivering an event to another
block, posting a notice, setting a change-latch flag, and the changes of state that post a notice. -/

namespace Sys2Proof.Machine

/-! ### One item of state -/

/-- Rewrites the main domain. -/
def State.modMain (s : State) (f : Main → Main) : State := { s with main := f s.main }
/-- Rewrites the backup domain. -/
def State.modBackup (s : State) (f : Backup → Backup) : State := { s with backup := f s.backup }

/-- The yard records. -/
def State.recs (s : State) : Records := s.backup.records
/-- Rewrites the yard records. -/
def State.modRecs (s : State) (f : Records → Records) : State :=
  { s with backup := { s.backup with records := f s.backup.records } }

/-- A deck's arbiter. -/
def State.arb (s : State) (d : Deck) : Arbiter := s.main.arbiters.get d
/-- Rewrites a deck's arbiter. -/
def State.modArb (s : State) (d : Deck) (f : Arbiter → Arbiter) : State :=
  { s with main := { s.main with arbiters := s.main.arbiters.mod d f } }

/-- A deck's weigh engine. -/
def State.eng (s : State) (d : Deck) : Engine := s.main.engines.get d
/-- Rewrites a deck's weigh engine. -/
def State.modEng (s : State) (d : Deck) (f : Engine → Engine) : State :=
  { s with main := { s.main with engines := s.main.engines.mod d f } }

/-- A deck's windows. -/
def State.win (s : State) (d : Deck) : WindowWork := s.main.windows.get d
/-- Rewrites a deck's windows. -/
def State.modWin (s : State) (d : Deck) (f : WindowWork → WindowWork) : State :=
  { s with main := { s.main with windows := s.main.windows.mod d f } }

/-- A channel's working state. -/
def State.chan (s : State) (c : Channel) : ChannelWork := s.main.channels.get c
/-- Rewrites a channel's working state. -/
def State.modChan (s : State) (c : Channel) (f : ChannelWork → ChannelWork) : State :=
  { s with main := { s.main with channels := Bank.mod s.main.channels c f } }

/-- A lane's working state. -/
def State.lane (s : State) (l : Lane) : LaneWork := s.main.lanes.get l
/-- Rewrites a lane's working state. -/
def State.modLane (s : State) (l : Lane) (f : LaneWork → LaneWork) : State :=
  { s with main := { s.main with lanes := Bank.mod s.main.lanes l f } }

/-- A barrier controller's working state. -/
def State.bar (s : State) (b : Barrier) : BarrierWork := s.main.barriers.get b
/-- Rewrites a barrier controller's working state. -/
def State.modBar (s : State) (b : Barrier) (f : BarrierWork → BarrierWork) : State :=
  { s with main := { s.main with barriers := s.main.barriers.mod b f } }

/-- A conditioner's working state. -/
def State.inp (s : State) (i : Input) : ConditionerWork := s.main.inputs.get i
/-- Rewrites a conditioner's working state. -/
def State.modInp (s : State) (i : Input) (f : ConditionerWork → ConditionerWork) : State :=
  { s with main := { s.main with inputs := s.main.inputs.mod i f } }

/-- A port's working state. -/
def State.port (s : State) (p : Port) : PortWork := s.main.ports.get p
/-- Rewrites a port's working state. -/
def State.modPort (s : State) (p : Port) (f : PortWork → PortWork) : State :=
  { s with main := { s.main with ports := Bank.mod s.main.ports p f } }
/-- Rewrites the working state of all six ports. -/
def State.modPorts (s : State) (f : PortWork → PortWork) : State :=
  { s with main := { s.main with ports := s.main.ports.map f } }

/-- The supervisor. -/
def State.sup (s : State) : Supervisor := s.main.sup
/-- Rewrites the supervisor. -/
def State.modSup (s : State) (f : Supervisor → Supervisor) : State :=
  { s with main := { s.main with sup := f s.main.sup } }

/-- A deck's settings. -/
def State.deckCfg (s : State) (d : Deck) : DeckCfg := s.backup.decks.get d
/-- Rewrites a deck's settings. -/
def State.modDeckCfg (s : State) (d : Deck) (f : DeckCfg → DeckCfg) : State :=
  { s with backup := { s.backup with decks := s.backup.decks.mod d f } }

/-- A channel's settings. -/
def State.chanCfg (s : State) (c : Channel) : ChannelCfg := s.backup.channels.get c
/-- Rewrites a channel's settings. -/
def State.modChanCfg (s : State) (c : Channel) (f : ChannelCfg → ChannelCfg) : State :=
  { s with backup := { s.backup with channels := Bank.mod s.backup.channels c f } }

/-- A lane's settings. -/
def State.laneCfg (s : State) (l : Lane) : LaneCfg := s.backup.lanes.get l
/-- Rewrites a lane's settings. -/
def State.modLaneCfg (s : State) (l : Lane) (f : LaneCfg → LaneCfg) : State :=
  { s with backup := { s.backup with lanes := Bank.mod s.backup.lanes l f } }

/-- A barrier's settings. -/
def State.barCfg (s : State) (b : Barrier) : BarrierCfg := s.backup.barriers.get b
/-- Rewrites a barrier's settings. -/
def State.modBarCfg (s : State) (b : Barrier) (f : BarrierCfg → BarrierCfg) : State :=
  { s with backup := { s.backup with barriers := s.backup.barriers.mod b f } }

/-- A conditioner's settings. -/
def State.inpCfg (s : State) (i : Input) : ConditionerCfg := s.backup.inputs.get i
/-- Rewrites a conditioner's settings. -/
def State.modInpCfg (s : State) (i : Input) (f : ConditionerCfg → ConditionerCfg) : State :=
  { s with backup := { s.backup with inputs := s.backup.inputs.mod i f } }

/-- A port's settings. -/
def State.portCfg (s : State) (p : Port) : PortCfg := s.backup.ports.get p
/-- Rewrites a port's settings. -/
def State.modPortCfg (s : State) (p : Port) (f : PortCfg → PortCfg) : State :=
  { s with backup := { s.backup with ports := Bank.mod s.backup.ports p f } }

/-- The yard mode (R169). -/
def State.mode (s : State) : YardMode := s.backup.mode
/-- The yard mode as a reader last took it (R170). -/
def ModeViews.get (v : ModeViews) : ModeReader → YardMode
  | .records => v.records
  | .captureUnit => v.captureUnit
  | .engine d => v.engine.get d
  | .arbiter d => v.arbiter.get d
  | .entryBarrier d => v.entryBarrier.get d
  | .lane l => v.lane.get l
/-- A reader takes a yard mode (R170). -/
def ModeViews.put (v : ModeViews) (r : ModeReader) (m : YardMode) : ModeViews :=
  match r with
  | .records => { v with records := m }
  | .captureUnit => { v with captureUnit := m }
  | .engine d => { v with engine := v.engine.mod d fun _ => m }
  | .arbiter d => { v with arbiter := v.arbiter.mod d fun _ => m }
  | .entryBarrier d => { v with entryBarrier := v.entryBarrier.mod d fun _ => m }
  | .lane l => { v with lane := Bank.mod v.lane l fun _ => m }
/-- The views of readers that have all taken one mode. -/
def ModeViews.all (m : YardMode) : ModeViews :=
  { records := m, captureUnit := m, engine := ⟨m, m⟩, arbiter := ⟨m, m⟩, entryBarrier := ⟨m, m⟩
    lane := Vector.replicate 4 m }
/-- The yard mode a reader goes by: the one it last took (R170). -/
def State.modeAt (s : State) (r : ModeReader) : YardMode := s.main.modes.get r
/-- Rewrites the yard mode a reader goes by. -/
def State.setModeAt (s : State) (r : ModeReader) (m : YardMode) : State :=
  { s with main := { s.main with modes := s.main.modes.put r m } }
/-- The supply state as a reader last took it (R177). -/
def SupplyViews.get (v : SupplyViews) : SupplyReader → SupplyState
  | .engine d => v.engine.get d
  | .arbiter d => v.arbiter.get d
  | .barrier b => v.barrier.get b
/-- A reader takes a supply state (R177, R178). -/
def SupplyViews.put (v : SupplyViews) (r : SupplyReader) (st : SupplyState) : SupplyViews :=
  match r with
  | .engine d => { v with engine := v.engine.mod d fun _ => st }
  | .arbiter d => { v with arbiter := v.arbiter.mod d fun _ => st }
  | .barrier b => { v with barrier := v.barrier.mod b fun _ => st }
/-- The supply state a reader goes by: the one it last took (R177). -/
def State.supplyAt (s : State) (r : SupplyReader) : SupplyState := s.main.supplies.get r
/-- Whether a reader goes by SUPPLY_LOW. -/
def State.lowAt (s : State) (r : SupplyReader) : Bool := s.supplyAt r == .supplyLow
/-- Rewrites the supply state a reader goes by. -/
def State.setSupplyAt (s : State) (r : SupplyReader) (st : SupplyState) : State :=
  { s with main := { s.main with supplies := s.main.supplies.put r st } }

/-- A reader takes the state of a barrier (R166); the supervisor keeps none, since the controllers present their alarm
source to it (R162, log 7). -/
def BarrierViews.put (v : BarrierViews) (r : BarrierReader) (b : Barrier) (st : BarrierState) : BarrierViews :=
  match r with
  | .arbiter => { v with arbiter := v.arbiter.mod b fun _ => st }
  | .lane l => { v with lane := Bank.mod v.lane l fun w => w.mod b fun _ => st }
  | .supervisor => v
/-- The views of readers that have all taken the state each barrier is in. -/
def BarrierViews.all (w : PerBarrier BarrierState) : BarrierViews := { arbiter := w, lane := Vector.replicate 4 w }
/-- The barrier state a deck arbiter goes by: the one it last took (R166). -/
def State.boomAtArbiter (s : State) (b : Barrier) : BarrierState := s.main.booms.arbiter.get b
/-- The barrier state a lane goes by: the one it last took (R166). -/
def State.boomAtLane (s : State) (l : Lane) (b : Barrier) : BarrierState := (s.main.booms.lane.get l).get b
/-- Rewrites the state of a barrier that a reader goes by. -/
def State.setBoomAt (s : State) (r : BarrierReader) (b : Barrier) (st : BarrierState) : State :=
  { s with main := { s.main with booms := s.main.booms.put r b st } }

/-- The check value is brought up to date with the contents of the backup domain (R181). -/
def State.seal (s : State) : State := { s with check := checkValue s.backup }
/-- The yard millisecond count (R51). -/
def State.ms (s : State) : Nat := s.main.sup.ms

/-! ### Events between blocks, notices and change latches -/

/-- Delivers events to the blocks that take them (R127, R170, R177, R166 and the reports between the blocks): each
waits until its block takes it in its own turn (log 3). -/
def State.raise (s : State) (cs : List Instr) : State :=
  { s with main := { s.main with raised := s.main.raised ++ cs } }

/-- A delivered event stops waiting when it is taken. -/
def State.consume (s : State) (c : Instr) : State :=
  { s with main := { s.main with raised := s.main.raised.erase c } }

/-- Posts a notice: it is delivered to all six ports, each of which takes it in its own turn (R207). -/
def State.post (s : State) (block : Block) (body : NoticeBody) (origin : Option Port := none) : State :=
  s.modPorts fun p =>
    { p with incoming := p.incoming ++ [{ block := block, body := body, at_ := s.ms, origin := origin }] }

/-- Sets one flag of a change latch; a flag already set stays set (R210). -/
def Latch.set (x : Latch) : Flag → Latch
  | .lanes => { x with lanes := true }
  | .decks => { x with decks := true }
  | .yardTable => { x with yardTable := true }
  | .tareStore => { x with tareStore := true }
  | .ticketLog => { x with ticketLog := true }
  | .supervision => { x with supervision := true }
  | .noticeLost => { x with noticeLost := true }
  | .restarted => { x with restarted := true }

/-- The empty change latch (R210). -/
def emptyLatch : Latch :=
  { lanes := false, decks := false, yardTable := false, tareStore := false, ticketLog := false, supervision := false,
    noticeLost := false, restarted := false }

/-- Sets a flag in the change latch of every port (R210). -/
def State.flag (s : State) (f : Flag) : State := s.modPorts fun p => { p with latch := p.latch.set f }

/-- Sets a flag in the change latch of every port, where a condition holds. -/
def State.flagIf (s : State) (b : Bool) (f : Flag) : State := if b then s.flag f else s

/-! ### Conditions read by more than one block -/

/-- The channel set of a deck, in channel-number order (R52). -/
def State.channelSet (s : State) (d : Deck) : List Channel :=
  Channel.all.filter fun c => (s.chanCfg c).map == some d

/-- Whether a deck is CALIBRATED (R187). -/
def State.calibrated (s : State) (d : Deck) : Bool :=
  (s.deckCfg d).mark && !(s.channelSet d).isEmpty && (s.channelSet d).all fun c => 1 ≤ (s.chanCfg c).factor

/-- The inputs that decide whether a deck is positioned (R86). -/
def positioningInputs (d : Deck) : List Input :=
  [.beam1 d, .beam2 d, .boom (Deck.entry d), .boom (Deck.exit d)]

/-- Whether the four positioning inputs of a deck all read CLEAR (R86, R126). -/
def State.deckClear (s : State) (d : Deck) : Bool :=
  (positioningInputs d).all fun i => (s.inp i).debounced == .clear

/-- Whether a lane's stop loop reads ACTIVE. -/
def State.loopActive (s : State) (l : Lane) : Bool := (s.inp (.stop l)).debounced == .active

/-- Whether the boom loop of a barrier is clear (R149). -/
def State.boomClear (s : State) (b : Barrier) : Bool := (s.inp (.boom b)).debounced == .clear

/-- Whether the supply state is SUPPLY_LOW. -/
def State.supplyLow (s : State) : Bool := s.main.sup.supply == .supplyLow

/-- Whether the exit release of a deck is present (R117). -/
def State.released (s : State) (d : Deck) : Bool := (s.arb d).current.any Current.released

/-- The permissive of a barrier as its inputs give it (R152, R153), the yard mode and the supply state as the barrier last
took them (R170, R177). -/
def State.permissiveNow (s : State) (b : Barrier) : Bool :=
  if b.isEntry then
    (s.arb b.deck).state == .granted && s.modeAt (.entryBarrier b.deck) != .closed && !s.lowAt (.barrier b)
      && (s.bar b).state != .fault
  else
    (s.arb b.deck).state == .occupied && s.released b.deck && !s.lowAt (.barrier b) && (s.bar b).state != .fault

/-- The deck conditions (R111), the supply state and the barrier state as the arbiter last took them (R166, R177). -/
def State.deckConditions (s : State) (d : Deck) : Bool :=
  !s.lowAt (.arbiter d) && (s.eng d).state != .off && s.boomAtArbiter (Deck.entry d) == .down

/-- The deck-empty condition (R121), the barrier state as the arbiter last took it (R166). -/
def State.deckEmptyCondition (s : State) (d : Deck) : Bool :=
  (s.eng d).state == .empty && (s.inp (.beam1 d)).debounced == .clear && (s.inp (.beam2 d)).debounced == .clear
    && s.boomClear (Deck.exit d) && s.boomAtArbiter (Deck.exit d) == .down

/-- The drain condition (R172). -/
def State.drainCondition (s : State) : Bool :=
  s.recs.entries.all (fun e => e.state != .admitted && e.state != .recalled && e.state != .onDeck)
    && Deck.all.all fun d => (s.arb d).state == .free && (s.arb d).offer.isNone

/-- The tick source in force, as the mark its ticks carry (R50, R174, R175). -/
def State.tickSource (s : State) : TickMark := if s.main.sup.monitor == .locked then .reference else .backup

/-! ### Changes of state that post a notice -/

/-- The lane and transaction concerned in a deck state (R107). -/
def Arbiter.who (a : Arbiter) : Option (Lane × Nat) :=
  match a.state with
  | .granted => a.grant.map fun g => (g.lane, g.number)
  | .occupied => a.current.map fun c => (c.lane, c.number)
  | .free => none
  | .clearing => none
  | .recover => none
  | .outOfService => none

/-- A change to a deck's arbiter that may change the deck state: a change of it posts DECK_STATE and sets the decks
flag (R107). -/
def State.changeArb (s : State) (d : Deck) (f : Arbiter → Arbiter) : State :=
  let old := s.arb d
  let new := f old
  let s := s.modArb d fun _ => new
  if old.state = new.state then s
  else (s.post (.arbiter d) (.deckState d old.state new.state new.who)).flag .decks

/-- Whether the timer of PRESENT or of WAITING belongs to a lane state (R129). -/
def loadStuck (cfg : LaneCfg) : Option Nat := some (cfg.stuck * 1000)
/-- The absence timer as it is loaded (R129). -/
def loadAbsence (cfg : LaneCfg) : Option Nat := some (cfg.absence * 1000)

/-- A change to a lane that may change the lane state: a change of it posts LANE_STATE, with the number of the request
that the lane then holds, if any, and sets the lanes flag. A lane
that enters PRESENT starts its stuck timer; a lane that leaves it drops it (R129). -/
def State.changeLane (s : State) (l : Lane) (f : LaneWork → LaneWork) : State :=
  let old := s.lane l
  let new := f old
  if old.state = new.state then s.modLane l fun _ => new
  else
    let new := { new with stuck := if new.state = .present then loadStuck (s.laneCfg l) else none }
    ((s.modLane l fun _ => new).post (.lane l)
      (.laneState l old.state new.state (new.request.map LaneFiling.number))).flag .lanes

/-- PRESENT or IDLE by the loop (R131 and the table before it). -/
def State.byLoop (s : State) (l : Lane) : LaneState := if s.loopActive l then .present else .idle

end Sys2Proof.Machine
end

