-- ==== Sys2Proof/Machine/Flags.lean ====
section
/-! DEFINITION. What follows every step from the change it made: the change-latch flags that the rules tie to a change of
an item (R4, R40, R107, R129, R169), the lamps whose source reads a changed state (R144, R146), and the alarm line (R182),
and the check value of the backup domain (R181). `State.settle` compares the state before the step with the state the step
made. -/

namespace Sys2Proof.Machine

/-! ### Lamps -/

/-- Whether a lamp's source is true (R144), the yard mode and the barrier states as the lane last took them (R166, R170). -/
def State.lampSource (s : State) (l : Lane) : LampSource → Bool
  | .stop => (s.lane l).state != .go
  | .go => (s.lane l).state == .go
  | .waiting => (s.lane l).state == .waiting
  | .present => (s.lane l).state == .present
  | .fault =>
      (s.lane l).state == .fault
        || (s.laneCfg l).feed.decks.any fun d => s.boomAtLane l (Deck.entry d) == .fault
  | .deckBusy => (s.laneCfg l).feed.decks.all fun d => (s.arb d).state != .free
  | .yardClosed => s.modeAt (.lane l) == .closed
  | .on => true
  | .off => false

/-- A lamp takes its source's value: a fall starts the stretch timer if the stretch time is above 0, a rise drops it
(R146). -/
def LampWork.take (w : LampWork) (stretch : Nat) (v : Bool) : LampWork :=
  if v = w.value then w
  else if v then { value := true, stretch := none }
  else { value := false, stretch := if stretch = 0 then none else some stretch }

/-- The three lamps of a lane judge their sources afresh (R144). -/
def State.judgeLamps (s : State) (l : Lane) : State :=
  s.modLane l fun w =>
    { w with
      lamps := Vector.ofFn fun k =>
        (w.lamps.get k).take ((s.laneCfg l).lamps.get k).stretch
          (s.lampSource l ((s.laneCfg l).lamps.get k).source) }

/-- Whether a state that a lane's lamps read in this block's step has changed: the lane state, the feed, or the state
of a deck of the feed (R144). The yard mode and the entry barriers are taken when they are delivered (R166, R170). -/
def lampsStale (old new : State) (l : Lane) : Bool :=
  (old.lane l).state != (new.lane l).state || (old.laneCfg l).feed != (new.laneCfg l).feed
    || (new.laneCfg l).feed.decks.any fun d => (old.arb d).state != (new.arb d).state

/-- The output of a lamp before the global invert, LIT being `true` (R145). -/
def State.lampOutput (s : State) (l : Lane) (k : Lamp) : Bool :=
  let w := (s.lane l).lamps.get k
  let c := (s.laneCfg l).lamps.get k
  if w.value then
    if c.blink then s.ms % (s.laneCfg l).blinkPeriod < (s.laneCfg l).blinkPeriod / 2 else true
  else w.stretch.isSome

/-- The level of a lamp's line, `true` being the level for LIT (R146). -/
def State.lampLine (s : State) (l : Lane) (k : Lamp) : Bool := s.lampOutput l k != s.backup.lampInvert

/-! ### The alarm line -/

/-- The uncollected records of the log (R40). -/
def uncollected (log : List Ticket) : List Ticket := log.filter fun t => !t.collected

/-- The eight alarm sources (R182). -/
def State.sources (s : State) : SourceSet :=
  { barrierFault := Barrier.all.any fun b => (s.bar b).state == .fault
    channelFault := Channel.all.any fun c => (s.chan c).latch != {}
    clockSubstitute := s.sup.monitor == .substitute
    supplyLow := s.supplyLow
    zeroLimit := Deck.all.any fun d => (s.eng d).zeroLimit
    logNearFull := Config.nearFull ≤ (uncollected s.recs.log).length
    tailgate := Deck.all.any fun d => (s.arb d).tailgate
    closurePending := s.recs.entries.any Entry.closurePending }

/-- The sources of one set that are not in another. -/
def SourceSet.minus (x m : SourceSet) : SourceSet :=
  { barrierFault := x.barrierFault && !m.barrierFault
    channelFault := x.channelFault && !m.channelFault
    clockSubstitute := x.clockSubstitute && !m.clockSubstitute
    supplyLow := x.supplyLow && !m.supplyLow
    zeroLimit := x.zeroLimit && !m.zeroLimit
    logNearFull := x.logNearFull && !m.logNearFull
    tailgate := x.tailgate && !m.tailgate
    closurePending := x.closurePending && !m.closurePending }

/-- Whether a set holds a source. -/
def SourceSet.any (x : SourceSet) : Bool := x != {}

/-- The sources that are true and UNMASKED (R182). -/
def State.alarming (s : State) : SourceSet := s.sources.minus s.backup.mask

/-- The alarm line is judged afresh: ASSERTED while a source is both true and UNMASKED. A change of the line posts
ALARM_LINE (R182), behind the supervisor's other notices of the step (DESIGN CHOICE, log 38). -/
def State.judgeAlarm (s : State) : State :=
  if s.sup.alarm = s.alarming.any then s
  else
    (s.modSup fun v => { v with alarm := s.alarming.any }).post .supervisor
      (.alarmLine s.alarming.any s.alarming)

/-! ### What each step leaves behind -/

/-- The items of an arbiter whose change sets the decks flag without a DECK_STATE (R107). -/
def arbiterMarks (a : Arbiter) : Option Offer × Bank 4 (Option Pending) × Option (Bool × CaptureOutcome) × Bool :=
  (a.offer, a.slots, a.current.map fun c => (c.released, c.outcome), a.tailgate)

/-- The items of a lane whose change sets the lanes flag besides its state (R129). -/
def laneMarks (s : State) (l : Lane) : Option LaneFiling × Feed × Nat × Nat :=
  ((s.lane l).request, (s.laneCfg l).feed, (s.laneCfg l).absence, (s.laneCfg l).stuck)

/-- The items of the supervisor whose change sets the supervision flag (R169, R182); the tick source follows from the
monitor. Every change of a source does, also of a masked one and while the line stays RELEASED (DESIGN CHOICE, log 8). -/
def supervisorMarks (s : State) : YardMode × Monitor × SupplyState × SourceSet × Bool × SourceSet :=
  (s.mode, s.sup.monitor, s.sup.supply, s.backup.mask, s.sup.alarm, s.sources)

/-- The lamps of the lanes that read a changed state judge their sources. -/
def settleLamps (old new : State) : State :=
  Lane.all.foldl (fun s l => if lampsStale old new l then s.judgeLamps l else s) new

/-- The change-latch flags that follow from a change of state. -/
def settleFlags (old new : State) : State :=
  ((((new.flagIf (old.recs.entries != new.recs.entries) .yardTable).flagIf
      (old.recs.log != new.recs.log) .ticketLog).flagIf
      (Deck.all.any fun d => arbiterMarks (old.arb d) != arbiterMarks (new.arb d)) .decks).flagIf
      (Lane.all.any fun l => laneMarks old l != laneMarks new l) .lanes).flagIf
      (supervisorMarks old != supervisorMarks new) .supervision

/-- What follows a step: lamps, the alarm line, the change-latch flags, and the check value of the backup domain. -/
def State.settle (old new : State) : State := (settleFlags old (settleLamps old new).judgeAlarm).seal

end Sys2Proof.Machine
end

