-- ==== Sys2Proof/Machine/Request.lean ====
section
/-! DEFINITION. How a command is taken: the wrapper of an event, and the road of a request from its port to its owning
block and of the answer back (R200, R201, R202, R205). -/

namespace Sys2Proof.Machine

/-- Every command of the part answers a next state. -/
abbrev Outcome := Host.Outcome State Fault Refusal

/-! ### Sending (R202) -/

/-- The transmitter of a port, if free, begins the next frame: the oldest answer waiting, else the oldest notice of a
port that is not quiet (R202). While the only answers waiting were judged after a request in hand that its block has not
answered yet, nothing is begun: they follow that request's answer, and no notice goes before them (log 37). -/
def PortWork.kick (p : PortWork) : PortWork :=
  match p.sending with
  | some _ => p
  | none =>
    match p.answers with
    | a :: rest =>
      match answerFrames a with
      | f :: fs => { p with answers := rest, sending := some { frame := f, rest := fs, answersHand := !a.early } }
      | [] => { p with answers := rest }
    | [] =>
      match p.held, p.quiet, p.queue with
      | [], none, n :: rest =>
          { p with queue := rest, sending := some { frame := frame (noticeBytes n), rest := [], answersHand := false } }
      | _, _, _ => p

/-- Whether a request is in hand that its block has not answered yet. -/
def PortWork.unanswered (p : PortWork) : Bool := p.hand.any fun h => !h.answered

/-- An answer judged at the port joins the answers waiting, behind the answer of the request in hand (R202), and the
transmitter begins if it is free. -/
def PortWork.give (p : PortWork) (a : Answer) : PortWork :=
  PortWork.kick (if p.unanswered then { p with held := p.held ++ [a] } else { p with answers := p.answers ++ [a] })

/-- The answer to the request in hand joins the answers waiting, before those judged after that request (R202). -/
def PortWork.answer (p : PortWork) (a : Answer) : PortWork :=
  PortWork.kick
    { p with answers := p.answers ++ [a] ++ p.held, held := []
             hand := p.hand.map fun h => { h with answered := true } }

/-- The answers of steps 1 to 4 of R200 that wait. -/
def PortWork.earlyWaiting (p : PortWork) : Nat := ((p.answers ++ p.held).filter Answer.early).length

/-- An answer of steps 1 to 4 of R200, or an overrun where 4 such answers already wait. -/
def PortWork.early (p : PortWork) (tag kind : Byte) (code : AnswerCode) : PortWork :=
  if p.earlyWaiting < Config.earlyAnswersMax then
    p.give { tag := tag, kind := kind, code := code, payload := [], early := true }
  else { p with errors := satInc p.errors }

/-! ### Permissions (R205) -/

/-- The request kinds the table marks for an office. -/
def officeKinds : List Nat :=
  [0x02, 0x03, 0x04, 0x0C, 0x0D, 0x0E, 0x0F, 0x14, 0x15, 0x16, 0x17, 0x1B, 0x1D, 0x22, 0x26, 0x2E, 0x2F, 0x33, 0x37,
    0x3E, 0x43, 0x44, 0x45]

/-- The request kinds the table marks for a kiosk. -/
def kioskKinds : List Nat := [0x01, 0x04, 0x14, 0x1D, 0x2F, 0x37, 0x43, 0x44, 0x45]

/-- The request kinds permitted on P0 alone. -/
def p0Kinds : List Nat := [0x3F, 0x40, 0x41]

/-- Whether a request kind is permitted to a role on a port (R205, step 3 of R200). -/
def permitted (role : Role) (p : Port) (kind : Nat) : Bool :=
  match role with
  | .none => false
  | .kiosk => kioskKinds.contains kind
  | .office => officeKinds.contains kind
  | .console => p == 0 || !p0Kinds.contains kind

/-! ### Serving a request -/

/-- What an owning block answers: the answer code and the payload (R200 step 5). -/
structure Reply where
  code : AnswerCode
  payload : List Byte := []
  deriving DecidableEq, Repr

/-- The answer OK. -/
def Reply.ok (payload : List Byte := []) : Reply := { code := .ok, payload := payload }
/-- A refusal, or any answer of one code and no payload. -/
def Reply.only (code : AnswerCode) : Reply := { code := code }
/-- OK, or CLAMPED with the stored values where a value was clamped (Conventions, R206). -/
def Reply.clamped (b : Bool) (stored : List Byte) : Reply :=
  if b then { code := .clamped, payload := stored } else .ok

/-- An owning block's taking of a request: the role it was judged under, the state, and the state and answer. -/
abbrev Serve := Role → State → State × Reply

/-- The answer of an owning block joins the answers waiting at the request's port (R200 step 5). -/
def State.reply (s : State) (q : Sender) (kind : Nat) (r : Reply) : State :=
  s.modPort q.port fun p =>
    p.answer { tag := q.tag, kind := BitVec.ofNat 8 kind, code := r.code, payload := r.payload, early := false }

/-- A request that is in hand is served, and its answer is given. -/
def State.serveHand (s : State) (q : Sender) (kind : Nat) (serve : Serve) (role : Role) : State :=
  (serve role s).1.reply q kind (serve role s).2

/-- A request handed on by its port (R200 step 5) is served under the role it was judged under (R203). A request that
arrives as a command of its own is first judged busy and permitted as R200 lays down (log 4). -/
def State.takeRequest (s : State) (c : Instr) (q : Sender) (serve : Serve) : State :=
  let kind := c.requestCode
  if s.main.raised.contains c then
    (s.consume c).serveHand q kind serve (((s.port q.port).hand.map InHand.role).getD (s.portCfg q.port).role)
  else if (s.port q.port).hand.isSome then
    s.modPort q.port fun p => p.early q.tag (BitVec.ofNat 8 kind) .portBusy
  else if !permitted (s.portCfg q.port).role q.port kind then
    s.modPort q.port fun p => p.early q.tag (BitVec.ofNat 8 kind) .notPermitted
  else
    (s.modPort q.port fun p => { p with hand := some { tag := q.tag, role := (s.portCfg q.port).role } }).serveHand
      q kind serve (s.portCfg q.port).role

/-- A request command: with the main domain stopped it finds nothing to take it (R179). -/
def request (c : Instr) (q : Sender) (serve : Serve) (s : State) : Outcome :=
  .next (if s.running then State.settle s (s.takeRequest c q serve) else s)

/-- An event command: if it was delivered it stops waiting, and its block takes it by `f` (log 3); with the main
domain stopped it finds nothing to take it (R179). -/
def event (c : Instr) (f : State → State) (s : State) : Outcome :=
  .next (if s.running then State.settle s (f (s.consume c)) else s)

end Sys2Proof.Machine
end

