-- ==== Sys2Proof/Machine/Barriers.lean ====
section
/-! DEFINITION. The barrier controllers: the operations of a boom's motion, its lowering path, faults, placement and
keepalive line, and the commands they serve (R149 to R168). -/

namespace Sys2Proof.Machine

/-! ### Operations -/

/-- The readers a barrier state change is delivered to (R166). -/
def barrierReaders (b : Barrier) : List BarrierReader :=
  .arbiter :: ((if b.isEntry then Lane.all.map BarrierReader.lane else []) ++ [.supervisor])

/-- A change to a barrier that may change its state: a change of it posts BARRIER_STATE, sets the decks flag and is
delivered to its readers (R166). -/
def State.changeBar (s : State) (b : Barrier) (reason : BarrierReason) (f : BarrierWork → BarrierWork) : State :=
  let old := s.bar b
  let new := f old
  let t := s.modBar b fun _ => new
  if old.state = new.state then t
  else
    ((t.post (.barrier b) (.barrierState b old.state new.state reason)).flag .decks).raise
      ((barrierReaders b).map fun r => .barrierStateTaken r b new.state)

/-- The motion timer as it is loaded (R160). -/
def BarrierCfg.motion (c : BarrierCfg) : Option Nat := some (c.motionLimit * 1000)

/-- Entering RAISING, or UP where the upper limit is already ACTIVE (R157). -/
def BarrierWork.raising (w : BarrierWork) (c : BarrierCfg) : BarrierWork :=
  if w.upper then { w with state := .up, motion := none, reversal := false, closeDelay := none }
  else { w with state := .raising, motion := c.motion, closeDelay := none }

/-- Entering DOWN: a hold of COMMAND becomes NONE (R159, R164). -/
def BarrierWork.toDown (w : BarrierWork) : BarrierWork :=
  { w with state := .down, motion := none, reversal := false, closeDelay := none
           hold := if w.hold = .command then .none else w.hold }

/-- Entering LOWERING, or DOWN where the lower limit is already ACTIVE (R158, R164). -/
def BarrierWork.lowering (w : BarrierWork) (c : BarrierCfg) : BarrierWork :=
  if w.lower then w.toDown
  else { w with state := .lowering, motion := c.motion, reversal := false, closeDelay := none }

/-- Entering STOPPED with both drives off. -/
def BarrierWork.stopped (w : BarrierWork) : BarrierWork := { w with state := .stopped, motion := none, reversal := false }

/-- The raise drive is on in RAISING and off in every other state (R149). -/
def BarrierWork.raiseDrive (w : BarrierWork) : Bool := w.state == .raising

/-- The lower drive is on in LOWERING and off in every other state (R149). -/
def BarrierWork.lowerDrive (w : BarrierWork) : Bool := w.state == .lowering

/-- Raising on the latch (R154). -/
def BarrierWork.onLatch (w : BarrierWork) : Bool := w.state == .raising && w.latch && !w.reversal

/-- Entering FAULT (R162); the permissive falls with it and finds the latch CLEAR, and the keepalive holds (R165). -/
def BarrierWork.faulted (w : BarrierWork) (cause : FaultCause) : BarrierWork :=
  { w with state := .fault, cause := some cause, latch := false, hold := .none, reversal := false, closeDelay := none
           motion := none, permissive := false, half := none }

/-- A barrier enters FAULT (R162). -/
def State.faultBar (s : State) (b : Barrier) (cause : FaultCause) : State :=
  s.changeBar b (.fault cause) fun w => w.faulted cause

/-- The conditions of the lowering path besides its timer (R158). -/
def State.mayLower (s : State) (b : Barrier) : Bool :=
  ((s.bar b).state == .up || (s.bar b).state == .stopped) && !(s.bar b).latch && (s.bar b).hold == .none
    && s.boomClear b

/-- The lowering path is judged: the close-delay timer starts, or is dropped; a close delay of 0 starts lowering at the
judgement itself (R158). A barrier that is DOWN at once, its lower limit being ACTIVE, posts CLOSE_DELAY (DESIGN CHOICE,
log 13). -/
def State.judgeLowering (s : State) (b : Barrier) : State :=
  if !s.mayLower b then s.modBar b fun w => { w with closeDelay := none }
  else if (s.bar b).closeDelay.isSome then s
  else if (s.barCfg b).closeDelay = 0 then s.changeBar b .closeDelay fun w => w.lowering (s.barCfg b)
  else s.modBar b fun w => { w with closeDelay := some ((s.barCfg b).closeDelay * 1000) }

/-- Whether a keepalive line toggles (R165), the supply state as the barrier last took it (R177). -/
def State.toggles (s : State) (b : Barrier) : Bool := (s.bar b).state != .fault && !s.lowAt (.barrier b)

/-- The half-period timer is started or dropped as the line toggles or holds (R165). -/
def State.judgeKeepalive (s : State) (b : Barrier) : State :=
  s.modBar b fun w =>
    { w with half := if s.toggles b then w.half <|> some (s.barCfg b).halfPeriod else none }

/-- The configured fail action (R156). -/
def State.failAction (s : State) (b : Barrier) : State :=
  s.changeBar b .failAction fun w =>
    match (s.barCfg b).failAction with
    | .lower => if w.state = .raising then { w.stopped with latch := false } else { w with latch := false }
    | .hold => { w.stopped with latch := false, hold := .fail }

/-- The state placement gives from the limits (R168). -/
def placedState (upper lower : Bool) : BarrierState :=
  if upper && lower then .fault else if lower then .down else if upper then .up else .stopped

/-- A barrier as placement leaves it (R168). -/
def BarrierWork.placed (w : BarrierWork) : BarrierWork :=
  { w with state := placedState w.upper w.lower, latch := false, hold := .none, reversal := false, closeDelay := none
           motion := none, cause := if w.upper && w.lower then some .bothLimits else none }

/-- Placement, then the fail action of a barrier placed UP or STOPPED whose permissive is not true (R168). The lowering
path is judged in the same step, also where the permissive is true and its rise is not taken yet (DESIGN CHOICE, log 13).
-/
def State.place (s : State) (b : Barrier) : State :=
  let t := s.changeBar b .placement BarrierWork.placed
  let t :=
    if ((t.bar b).state = .up ∨ (t.bar b).state = .stopped) ∧ t.permissiveNow b = false then t.failAction b else t
  (t.judgeLowering b).judgeKeepalive b

/-! ### Events -/

/-- A permissive rise (R154). A barrier that is UP at once, its upper limit being ACTIVE, posts LATCH (DESIGN CHOICE, log
13). -/
def State.permissiveRise (s : State) (b : Barrier) : State :=
  if !(s.permissiveNow b && !(s.bar b).permissive) then s
  else
    (s.changeBar b .latch fun w =>
      let v := { w with permissive := true, latch := true, hold := .none }
      match w.state with
      | .down => v.raising (s.barCfg b)
      | .stopped => v.raising (s.barCfg b)
      | .lowering => v.raising (s.barCfg b)
      | .raising => { v with reversal := false }
      | .up => { v with closeDelay := none }
      | .fault => w).judgeLowering b

def execPermissiveRise (b : Barrier) (s : State) : Outcome :=
  event (.permissiveRise b) (fun s => s.permissiveRise b) s

/-- A permissive fall (R156). -/
def State.permissiveFall (s : State) (b : Barrier) : State :=
  if !(!s.permissiveNow b && (s.bar b).permissive) then s
  else
    let t := s.modBar b fun w => { w with permissive := false }
    if !(s.bar b).latch then t
    else if (s.bar b).inLoop then
      (t.changeBar b .latchCleared fun w =>
        if w.onLatch then { w.stopped with latch := false } else { w with latch := false }).judgeLowering b
    else (t.failAction b).judgeLowering b

def execPermissiveFall (b : Barrier) (s : State) : Outcome :=
  event (.permissiveFall b) (fun s => s.permissiveFall b) s

/-- An entry barrier that has just left the state `old` for LOWERING or DOWN at a falling edge of its loop marks the grant
of its deck while the arbiter has still to take that edge: the passage it completes leaves the watch DISARMED (R119, log
18). -/
def State.markClosing (s : State) (b : Barrier) (old : BarrierState) : State :=
  let st := (s.bar b).state
  if b.isEntry ∧ st ≠ old ∧ (st = .lowering ∨ st = .down) ∧
      s.main.raised.contains (.entryLoopEdgeAtArbiter b.deck .falling) then
    s.modArb b.deck fun a => { a with grant := a.grant.map fun g => { g with closing := true } }
  else s

/-- An edge of the boom loop: the passage, its completion, and the safety reversal (R155, R159). A reversal that finds the
upper limit ACTIVE posts REVERSAL (DESIGN CHOICE, log 13). -/
def State.barrierLoopEdge (s : State) (b : Barrier) (e : Edge) : State :=
  match e with
  | .rising =>
      (s.changeBar b .reversal fun w =>
        if w.state = .lowering then { ({ w with inLoop := true, reversal := true }.raising (s.barCfg b)) with closeDelay := none }
        else { w with inLoop := true }).judgeLowering b
  | .falling =>
      let t :=
        if (s.bar b).inLoop then
          s.changeBar b .latchCleared fun w =>
            let v := if w.onLatch then w.stopped else w
            { v with inLoop := false, latch := false, hold := .none }
        else s
      (t.judgeLowering b).markClosing b (s.bar b).state

def execBarrierLoopEdge (b : Barrier) (e : Edge) (s : State) : Outcome :=
  event (.barrierLoopEdge b e) (fun s => s.barrierLoopEdge b e) s

/-- The close-delay timer has reached 0 (R158); the reason is CLOSE_DELAY also for a barrier that is DOWN at once (DESIGN
CHOICE, log 13). -/
def State.closeDelayExpiry (s : State) (b : Barrier) : State :=
  if (s.bar b).closeDelay ≠ some 0 then s
  else if s.mayLower b then s.changeBar b .closeDelay fun w => w.lowering (s.barCfg b)
  else s.modBar b fun w => { w with closeDelay := none }

def execCloseDelayExpiry (b : Barrier) (s : State) : Outcome :=
  event (.closeDelayExpiry b) (fun s => s.closeDelayExpiry b) s

/-- The motion timer has reached 0 (R160). -/
def State.motionTimeout (s : State) (b : Barrier) : State :=
  if (s.bar b).motion = some 0 ∧ ((s.bar b).state = .raising ∨ (s.bar b).state = .lowering) then
    s.faultBar b .motionTimeout
  else s

def execMotionTimeout (b : Barrier) (s : State) : Outcome :=
  event (.motionTimeout b) (fun s => s.motionTimeout b) s

/-- A limit event: a limit state takes a reading seen on 20 consecutive ticks (R151); it may end a motion (R157, R159) or
put the barrier into FAULT (R161). -/
def State.limitEvent (s : State) (b : Barrier) (which : LimitSwitch) : State :=
  let w := s.bar b
  match which with
  | .upper =>
    if w.upperRun < Config.limitTicks then s
    else
      let t := s.modBar b fun w => { w with upper := !w.upper, upperRun := 0 }
      if w.state = .fault then t
      else if !w.upper && w.lower then t.faultBar b .bothLimits
      else if w.upper then (if w.state = .up then t.faultBar b .limitLost else t)
      else if w.state = .raising then
        (t.changeBar b .limit fun w => { w with state := .up, motion := none, reversal := false }).judgeLowering b
      else t
  | .lower =>
    if w.lowerRun < Config.limitTicks then s
    else
      let t := s.modBar b fun w => { w with lower := !w.lower, lowerRun := 0 }
      if w.state = .fault then t
      else if w.upper && !w.lower then t.faultBar b .bothLimits
      else if w.lower then (if w.state = .down then t.faultBar b .limitLost else t)
      else if w.state = .lowering then t.changeBar b .limit BarrierWork.toDown
      else t

def execLimitEvent (b : Barrier) (which : LimitSwitch) (s : State) : Outcome :=
  event (.limitEvent b which) (fun s => s.limitEvent b which) s

/-- The half-period timer has reached 0 (R165). -/
def State.keepaliveToggle (s : State) (b : Barrier) : State :=
  if (s.bar b).half = some 0 ∧ s.toggles b then
    s.modBar b fun w => { w with level := !w.level, half := some (s.barCfg b).halfPeriod }
  else s

def execKeepaliveToggle (b : Barrier) (s : State) : Outcome :=
  event (.keepaliveToggle b) (fun s => s.keepaliveToggle b) s

/-! ### Requests -/

/-- SET_BARRIER (R150). -/
def serveSetBarrier (barrier failAction motionLimit closeDelay halfPeriod : Nat) : Serve := fun _ s =>
  match barrierOf barrier, failActionOf failAction with
  | some b, some a =>
    let m := clampNat 1 20 motionLimit
    let c := clampNat 0 10 closeDelay
    let h := clampNat 50 1000 halfPeriod
    ((s.modBarCfg b fun _ => { failAction := a, motionLimit := m, closeDelay := c, halfPeriod := h }).flag .decks,
      .clamped (m != motionLimit || c != closeDelay || h != halfPeriod) (u32 m ++ u32 c ++ u32 h))
  | _, _ => (s, .only .badArgument)

def execSetBarrier (q : Sender) (barrier failAction motionLimit closeDelay halfPeriod : Nat) (s : State) : Outcome :=
  request (.setBarrier q barrier failAction motionLimit closeDelay halfPeriod) q
    (serveSetBarrier barrier failAction motionLimit closeDelay halfPeriod) s

/-- BARRIER_RESET (R163). The state answered is the one that placement gives from the limits (R168), before the fail action
and the lowering path that follow it. -/
def serveBarrierReset (barrier : Nat) : Serve := fun _ s =>
  match barrierOf barrier with
  | none => (s, .only .badArgument)
  | some b =>
    if (s.bar b).state ≠ .fault then (s, .only .wrongState)
    else if (s.bar b).upper && (s.bar b).lower then (s, .only .faultPersists)
    else (s.place b, .ok (barrierStateByte (placedState (s.bar b).upper (s.bar b).lower)))

def execBarrierReset (q : Sender) (barrier : Nat) (s : State) : Outcome :=
  request (.barrierReset q barrier) q (serveBarrierReset barrier) s

/-- What a console command does to a barrier (R164). -/
def BarrierWork.command (w : BarrierWork) (c : BarrierCfg) (a : BarrierAction) : BarrierWork :=
  let v := { w with latch := false, closeDelay := none, hold := .command }
  match a with
  | .raise => v.raising c
  | .lower => v.lowering c
  | .stop => v.stopped

/-- BARRIER_COMMAND (R164). -/
def serveBarrierCommand (barrier action : Nat) : Serve := fun _ s =>
  match barrierOf barrier, actionOf action with
  | some b, some a =>
    if (s.bar b).state = .fault then (s, .only .wrongState)
    else if (s.arb b.deck).state ≠ .outOfService ∧ (s.bar b).state ≠ .stopped then (s, .only .wrongState)
    else if a = .lower ∧ s.boomClear b = false then (s, .only .loopOccupied)
    else (s.changeBar b .command fun w => w.command (s.barCfg b) a, .ok)
  | _, _ => (s, .only .badArgument)

def execBarrierCommand (q : Sender) (barrier action : Nat) (s : State) : Outcome :=
  request (.barrierCommand q barrier action) q (serveBarrierCommand barrier action) s

/-- A limit state, ACTIVE or INACTIVE (R149). -/
def limitByte (active : Bool) : List Byte := u8 (if active then 0 else 1)

/-- One barrier in READ_BARRIERS (R167). The keepalive is given as its level, whether it toggles, and its half-period timer,
which R165 has shown too; the passage and the hold NONE are 00h and not FFh (R215). Both are DESIGN CHOICES of log 15. -/
def State.barrierLine (s : State) (b : Barrier) : List Byte :=
  let w := s.bar b
  let c := s.barCfg b
  barrierStateByte w.state ++ optional faultCauseByte w.cause ++ boolean (s.permissiveNow b)
    ++ optional boolean (if b.isEntry then none else some (s.released b.deck))
    ++ boolean w.latch ++ u8 (if w.inLoop then 1 else 0) ++ holdByte w.hold ++ boolean w.reversal
    ++ optional u32 w.closeDelay ++ optional u32 w.motion ++ limitByte w.upper ++ limitByte w.lower
    ++ u8 (if w.level then 0 else 1) ++ boolean (s.toggles b) ++ optional u32 w.half
    ++ failActionByte c.failAction ++ u32 c.motionLimit ++ u32 c.closeDelay ++ u32 c.halfPeriod
    ++ debouncedByte (s.inp (.boom b)).debounced

/-- READ_BARRIERS (R167). -/
def serveReadBarriers : Serve := fun _ s => (s, .ok (items s.barrierLine Barrier.all))

def execReadBarriers (q : Sender) (s : State) : Outcome := request (.readBarriers q) q serveReadBarriers s

end Sys2Proof.Machine
end

