-- ==== Sys2Proof/Machine/Windows.lean ====
section
/-! DEFINITION. The deck windows of the frequency capture unit: opening, judging the counts, and closing at full length or
as SHORT (R56 to R61). -/

namespace Sys2Proof.Machine

/-! ### Deck windows -/

/-- The window length of a deck in ms (R56). -/
def State.windowLength (s : State) (d : Deck) : Nat := (s.deckCfg d).metrology.window

/-- Whether the yard millisecond count stands on a boundary of a deck (R56). -/
def State.onBoundary (s : State) (d : Deck) : Bool := s.ms % s.windowLength d == 0

/-- Rewrites the working state of some channels. -/
def State.modChans (s : State) (cs : List Channel) (f : ChannelWork → ChannelWork) : State :=
  cs.foldl (fun s c => s.modChan c f) s

/-- Opens a window of a deck at a boundary: every channel of the set counts from 0, and the engine's window mark is set
if the deck is unpositioned, or if the window is the first after a main reset (R56, R86). -/
def State.openWindow (s : State) (d : Deck) (boundary : Nat) : State :=
  let first := (s.win d).first
  ((s.modWin d fun w =>
      { w with current := some { opened := boundary }, serial := w.serial + 1, first := false }).modChans
    (s.channelSet d) fun c => { c with running := some 0, saturated := false }).modEng d
      fun g => { g with windowMark := first || !g.positioned }

/-- A deck that runs windows and has none open starts with its next window if the count stands on a boundary (R56). -/
def State.maybeOpen (s : State) (d : Deck) : State :=
  if (s.win d).runs && (s.win d).current.isNone && s.onBoundary d then s.openWindow d s.ms else s

/-- The running counts of a deck's channels are dropped (R56, R60). -/
def State.dropCounts (s : State) (d : Deck) : State :=
  s.modChans (s.channelSet d) fun c => { c with running := none, saturated := false }

/-- The timing mark of a window (R59). -/
def OpenWindow.timing (w : OpenWindow) : TickMark := if w.backup then .backup else .reference

/-- The number given to the next closed window (R56). -/
def WindowWork.nextNumber (w : WindowWork) : Nat := (w.number + 1) % Config.windowNumbers

/-! ### Judging the counts, and closing a full window -/

/-- Judges a running count (R57). -/
def judgeCount (cfg : ChannelCfg) (w : ChannelWork) : Option CountCause :=
  if w.saturated then some .saturated
  else if w.running.getD 0 < cfg.low then some .low
  else if cfg.high < w.running.getD 0 then some .high
  else none

/-- Adds a cause to a fault latch (R61). -/
def CauseSet.add (x : CauseSet) : CountCause → CauseSet
  | .saturated => { x with saturated := true }
  | .low => { x with low := true }
  | .high => { x with high := true }

/-- Judges one channel of a deck's closing window: the last count, and for an invalid channel the fault counter, the
latch, and CHANNEL_FAULT when the latch leaves empty (R57, R61). -/
def State.judgeChannel (s : State) (d : Deck) (window : Nat) (c : Channel) : State :=
  let w := s.chan c
  let n := w.running.getD 0
  match judgeCount (s.chanCfg c) w with
  | none => s.modChan c fun w => { w with running := none, saturated := false, last := some { count := n, cause := none } }
  | some k =>
      let t := s.modChan c fun w =>
        { running := none, saturated := false, last := some { count := n, cause := some k }, latch := w.latch.add k
          faults := satInc w.faults }
      let t := t.flagIf (w.latch.add k != w.latch) .decks
      if w.latch = {} then t.post .captureUnit (.channelFault c d k n window) else t

/-- The entry of a channel in a window record (R58). -/
def State.windowEntry (s : State) (c : Channel) : WindowEntry :=
  { channel := c, count := (s.chan c).running.getD 0, cause := judgeCount (s.chanCfg c) (s.chan c) }

/-- The status of a full window (R57). -/
def windowStatus (es : List WindowEntry) : WindowStatus :=
  if es.isEmpty then .noChannels
  else if es.any (fun e => e.cause.isSome) then .channelInvalid
  else .valid

/-- A deck's window reaches its full length: its channels are judged, its record is handed to the engine, and the next
window opens at the same boundary (R56 to R59). Where several channels leave an empty latch, their CHANNEL_FAULT notices are
posted in channel-number order (DESIGN CHOICE, log 38). -/
def State.windowClose (s : State) (d : Deck) : State :=
  match (s.win d).current with
  | none => s
  | some w =>
    if s.ms < w.opened + s.windowLength d then s
    else
      let cs := s.channelSet d
      let n := (s.win d).nextNumber
      let es := cs.map s.windowEntry
      let r : WindowRecord :=
        { deck := d, number := n, closing := w.opened + s.windowLength d, length := s.windowLength d, timing := w.timing
          status := windowStatus es, channels := es, marked := (s.eng d).windowMark, serial := (s.win d).serial }
      let t := cs.foldl (fun t c => t.judgeChannel d n c) s
      let t := t.modWin d fun x =>
        { x with current := none, number := n, last := some { number := n, timing := w.timing, status := r.status } }
      (t.raise [.engineWindow r]).openWindow d (w.opened + s.windowLength d)

/-! ### Closing a window before its length -/

/-- The windows of a deck that have reached their full length are closed first: the open one, and then each one that a late
close has opened at a boundary already passed, at most `n` of them (R56, log 10). -/
def State.closeDue (s : State) (d : Deck) : Nat → State
  | 0 => s
  | n + 1 => (s.windowClose d).closeDue d n

/-- How many windows of a deck have reached their full length (R56). -/
def State.dueWindows (s : State) (d : Deck) : Nat :=
  match (s.win d).current with
  | none => 0
  | some w => (s.ms - w.opened) / s.windowLength d

/-- The open window of a deck, short of its full length, is closed as SHORT and delivered with no channel entries (R60). -/
def State.shortRecord (s : State) (d : Deck) : State :=
  match (s.win d).current with
  | none => s
  | some w =>
      let n := (s.win d).nextNumber
      (((s.dropCounts d).modWin d fun x =>
          { x with current := none, number := n, last := some { number := n, timing := w.timing, status := .short } }).raise
        [.engineWindow
          { deck := d, number := n, closing := s.ms, length := s.ms - w.opened, timing := w.timing, status := .short
            channels := [], marked := (s.eng d).windowMark, serial := (s.win d).serial }])

/-- A deck's window is cut short: what has reached its full length closes as a full window (R56, R57), and the window then
open, which has run less than its length, closes as SHORT (R58, R60). -/
def State.shortClose (s : State) (d : Deck) : State := (s.closeDue d (s.dueWindows d)).shortRecord d

end Sys2Proof.Machine
end

