-- ==== Sys2Proof/Machine/EngineOps.lean ====
section
/-! DEFINITION. The operations that the weigh engines and calibration share: fixing the engine state (R80, R82), ending
captures and collections (R97, R99, R101, R193), changing Zd (R78, R106), and what every metrological change does (R186 to
R188). -/

namespace Sys2Proof.Machine

/-! ### The engine state -/

/-- The engine state of an engine that is not OFF: the rows of R80 below the first. -/
def Engine.activeState (g : Engine) : EngineState :=
  if g.capture.isSome then .capturing
  else
    match g.occupancy with
    | .unknown => .warmup
    | .empty => .empty
    | .loaded => .loaded

/-- The engine state that the first applying row gives (R80). -/
def State.engineStateNow (s : State) (d : Deck) : EngineState :=
  if s.modeAt (.engine d) = .closed ∨ s.calibrated d = false then .off else (s.eng d).activeState

/-- A capture in flight fails: its record is removed, the ended mark is set, and the failure goes to the records, to the
arbiter and to the ports (R99, R101). The engine state is fixed afresh by the caller. -/
def State.dropCapture (s : State) (d : Deck) (reason : FailReason) : State :=
  match (s.eng d).capture with
  | none => s
  | some c =>
      ((((s.modEng d fun g => { g with capture := none, ended := true }).raise
          [.recordsCaptureFailure d c.number reason, .captureFailureAtArbiter d c.number reason]).post
        (.engine d) (.weighingFailed d c.number reason c.failed c.origin) c.origin).flag .decks)

/-- A collection in flight fails: its record is removed and CAL_FAILED is posted (R193). -/
def State.failCollection (s : State) (d : Deck) (reason : CalFailReason) : State :=
  match (s.eng d).collection with
  | none => s
  | some k =>
      (((s.modEng d fun g => { g with collection := none }).post (.engine d)
          (.calFailed d k.kind reason k.windows k.origin) (some k.origin)).flag .decks)

/-- Both histories empty, the occupancy reading UNKNOWN, the latest reading absent (R78, R80). -/
def Engine.cleared (g : Engine) : Engine := { g with filter := [], stab := [], occupancy := .unknown, latest := none }

/-- The engine state is fixed afresh (R80). Entering OFF ends a capture and a collection with ABORTED (R97, R193) and
empties the engine (R80). A change posts ENGINE_STATE (R82), behind the WEIGHING_FAILED and the CAL_FAILED of what it ends
(DESIGN CHOICE, log 38). -/
def State.refreshEngine (s : State) (d : Deck) (window : Option Nat) : State :=
  let new := s.engineStateNow d
  let old := (s.eng d).state
  if new = old then s
  else
    let s :=
      if new = .off then ((s.dropCapture d .aborted).failCollection d .aborted).modEng d Engine.cleared else s
    ((s.modEng d fun g => { g with state := new }).post (.engine d) (.engineState d old new window)).flag .decks

/-- The engine state is fixed afresh by a capture or an occupancy reading; these leave OFF as it is, which only the yard
mode and the calibrated state change (R80, R82). -/
def State.refreshActive (s : State) (d : Deck) (window : Option Nat) : State :=
  let old := (s.eng d).state
  let new := (s.eng d).activeState
  if old = .off ∨ new = old then s
  else
    ((s.modEng d fun g => { g with state := new }).post (.engine d) (.engineState d old new window)).flag .decks

/-- A capture in flight fails with a reason (R101), and the engine state is fixed afresh (R99). WEIGHING_FAILED is posted
before ENGINE_STATE (DESIGN CHOICE, log 38). -/
def State.failCapture (s : State) (d : Deck) (reason : FailReason) (window : Option Nat := none) : State :=
  (s.dropCapture d reason).refreshActive d window

/-! ### Zd -/

/-- The zero limit in grams (R103). -/
def DeckCfg.zlim (c : DeckCfg) : Int := c.metrology.max2 * 20

/-- A change of Zd by an amount lowers the histories by it (R78). -/
def State.changeZd (s : State) (d : Deck) (delta : Int) : State :=
  (s.modDeckCfg d fun c => { c with zd := c.zd + delta }).modEng d fun g =>
    { g with filter := g.filter.map (· - delta), stab := g.stab.map fun x => { x with gf := x.gf - delta } }

/-- The ZERO_LIMIT latch is set; from clear this posts ZERO_LIMIT (R106). -/
def State.latchZeroLimit (s : State) (d : Deck) (positive : Bool) (window : Option Nat) : State :=
  if (s.eng d).zeroLimit then s
  else
    ((s.modEng d fun g => { g with zeroLimit := true }).post (.engine d) (.zeroLimit d positive window)).flag .decks

/-! ### Metrological changes -/

/-- The calibration event counter advances (R188). -/
def State.advanceCounter (s : State) : State := s.modBackup fun b => { b with calCounter := satInc b.calCounter }

/-- What a metrological change does to one deck it touches: the histories, the calibrated state against what it was in
`old`, the engine state, with the number of the window at which the change is made, if any (R82), and any collection
(R186, R187). CAL_STATE is posted before ENGINE_STATE, and the CAL_FAILED of a collection that the change ends stands before
ENGINE_STATE where the engine enters OFF and behind it where it stays on (DESIGN CHOICE, log 38). -/
def State.touchDeck (old s : State) (window : Option Nat) (d : Deck) : State :=
  let s := s.modEng d Engine.cleared
  let s :=
    if old.calibrated d = s.calibrated d then s
    else s.post (.engine d) (.calState d (s.calibrated d) s.backup.calCounter)
  (s.refreshEngine d window).failCollection d .aborted

/-- Every metrological change (R186): the counter, each deck it touches, and the decks flag. -/
def State.metroChange (old s : State) (ds : List Deck) (window : Option Nat) : State :=
  (ds.foldl (fun s d => State.touchDeck old s window d) s.advanceCounter).flag .decks

/-- A metrological SET_ change, which also posts CAL_CHANGE (R186). -/
def State.setChange (old s : State) (r : CalRequest) (ds : List Deck) (ch : Option Channel) : State :=
  let s := State.metroChange old s ds none
  s.post .supervisor (.calChange r ds ch s.backup.calCounter)

end Sys2Proof.Machine
end

