-- ==== Sys2Proof/Machine/Arbiter.lean ====
section
/-! DEFINITION. The deck arbiters: pending records, the choice, offers and grants, the occupied deck, tailgating, clearing
and recovery, and the requests they serve (R107 to R123). -/

namespace Sys2Proof.Machine

/-! ### Pending records and the choice -/

/-- The pending record of a lane. -/
def Arbiter.slot (a : Arbiter) (l : Lane) : Option Pending := a.slots.get l
/-- Rewrites the slot of a lane. -/
def Arbiter.setSlot (a : Arbiter) (l : Lane) (p : Option Pending) : Arbiter :=
  { a with slots := Bank.mod a.slots l fun _ => p }

/-- FILING (R109): the lane's slot takes the record whole, with the present count as request time. -/
def execFiling (d : Deck) (l : Lane) (number : Nat) (kind : FilingKind) (priority : Nat) (s : State) : Outcome :=
  event (.filing d l number kind priority)
    (fun s => s.modArb d fun a => a.setSlot l (some { number := number, kind := kind, priority := priority, time := s.ms })) s

/-- Whether a pending record is eligible in a yard mode (R111). -/
def Pending.eligible (p : Pending) (m : YardMode) : Bool :=
  match p.kind, m with
  | _, .open => true
  | .recall, .closing => true
  | .admission, .closing => false
  | _, .closed => false

/-- The eligible records of a deck with their lanes, in lane order; the arbiter goes by the yard mode it last took (R170).
-/
def State.eligible (s : State) (d : Deck) : List (Lane × Pending) :=
  Lane.all.filterMap fun l => (((s.arb d).slot l).filter fun p => p.eligible (s.modeAt (.arbiter d))).map fun p => (l, p)

/-- Whether the first record wins over the second, the order of R112. -/
def wins (last : Option Lane) (a b : Lane × Pending) : Bool :=
  if a.2.priority ≠ b.2.priority then b.2.priority < a.2.priority
  else if a.2.time ≠ b.2.time then a.2.time < b.2.time
  else if (last == some a.1) ≠ (last == some b.1) then last == some b.1
  else a.1 < b.1

/-- The winner of some records (R112). -/
def winner (last : Option Lane) : List (Lane × Pending) → Option (Lane × Pending)
  | [] => none
  | a :: rest =>
    match winner last rest with
    | none => some a
    | some b => some (if wins last b a then b else a)

/-- A choice, where the deck is FREE with no offer, the deck conditions hold and a record is eligible: the winner's
offer is made and delivered to its lane (R111, R112). -/
def State.makeChoice (s : State) (d : Deck) : State :=
  let a := s.arb d
  if a.state ≠ .free ∨ a.offer.isSome ∨ s.deckConditions d = false then s
  else
    match winner a.last (s.eligible d) with
    | none => s
    | some w =>
        (s.modArb d fun a => { a with offer := some { lane := w.1, number := w.2.number } }).raise
          [.offerAtLane w.1 d w.2.number]

def execChoice (d : Deck) (s : State) : Outcome := event (.choice d) (fun s => s.makeChoice d) s

/-! ### Withdrawal, acceptance and decline -/

/-- The pending record of a lane and the offer to it, where the arbiter holds them, go with the lane's withdrawal (R110). -/
def Arbiter.dropLane (a : Arbiter) (l : Lane) : Arbiter :=
  { a.setSlot l none with offer := if a.offer.any (fun o => o.lane == l) then none else a.offer }

/-- The arbiter takes a lane's withdrawal: each row of R110 that applies has its effect, so that a record and a grant held
for the lane at once are both withdrawn (DEDUCED, log 12). A grant withdrawn in its proceed interval posts GRANT_WITHDRAWN,
as on a proceed timeout (R20), with cause CANCEL (DEDUCED, log 12), and the lane is not told again. -/
def State.withdrawal (s : State) (d : Deck) (l : Lane) : State :=
  let t := s.modArb d fun a => a.dropLane l
  match (s.arb d).grant with
  | none => t
  | some g =>
    if g.lane ≠ l then t
    else if g.arrived then t.modArb d fun a => { a with grant := some { g with late := true } }
    else
      (t.changeArb d fun a => { a with state := .free, grant := none }).post (.arbiter d)
        (.grantWithdrawn d l g.number .cancel)

def execWithdrawal (d : Deck) (l : Lane) (s : State) : Outcome :=
  event (.withdrawal d l) (fun s => s.withdrawal d l) s

/-- Whether an offer to a lane for a transaction is outstanding (R113). -/
def Arbiter.offers (a : Arbiter) (l : Lane) (number : Nat) : Bool := a.offer == some { lane := l, number := number }

/-- The arbiter takes an acceptance (R113), the supply state being the one it last took (R177). One that finds its offer
gone loses its lane's record; an offer outstanding to the same lane for another transaction stays, as one to another lane
does (DESIGN CHOICE, log 12). An acceptance of an outstanding offer that finds the weigh engine OFF, which it has become
since the offer, makes the deck GRANTED all the same: R113 tests the supply alone, though R82 says that the arbiter makes no
grant while the engine is OFF (DESIGN CHOICE, log 42). -/
def State.acceptance (s : State) (d : Deck) (l : Lane) (number : Nat) : State :=
  if (s.arb d).offers l number then
    if s.lowAt (.arbiter d) then
      (s.modArb d fun a => { a.setSlot l none with offer := none }).raise [.grantWithdrawnAtLane l d number .supply]
    else
      s.changeArb d fun a =>
        { a.setSlot l none with
          state := .granted, offer := none, last := some l
          grant := some { lane := l, number := number, arrived := false, late := false
                          timer := some ((s.deckCfg d).proceed * 1000) } }
  else (s.modArb d fun a => a.setSlot l none).raise [.grantWithdrawnAtLane l d number .lapsed]

def execAcceptance (d : Deck) (l : Lane) (number : Nat) (s : State) : Outcome :=
  event (.acceptance d l number) (fun s => s.acceptance d l number) s

/-- The arbiter takes a decline (R114). -/
def State.decline (s : State) (d : Deck) (l : Lane) (number : Nat) : State :=
  if (s.arb d).offers l number then (s.modArb d fun a => { a.setSlot l none with offer := none }).makeChoice d else s

def execDecline (d : Deck) (l : Lane) (number : Nat) (s : State) : Outcome :=
  event (.decline d l number) (fun s => s.decline d l number) s

/-! ### The proceed interval -/

/-- A grant in its proceed interval is withdrawn with a cause (R115); DECK_STATE is posted before GRANT_WITHDRAWN (DESIGN
CHOICE, log 38). -/
def State.withdrawGrant (s : State) (d : Deck) (cause : WithdrawCause) : State :=
  match (s.arb d).grant with
  | none => s
  | some g =>
    if g.arrived then s
    else
      ((s.changeArb d fun a => { a with state := .free, grant := none }).raise
        [.grantWithdrawnAtLane g.lane d g.number cause]).post (.arbiter d) (.grantWithdrawn d g.lane g.number cause)

/-- The proceed timer has reached 0 (R115). -/
def State.proceedTimeout (s : State) (d : Deck) : State :=
  if (s.arb d).grant.any (fun g => g.timer == some 0) then s.withdrawGrant d .proceedTimeout else s

def execProceedTimeout (d : Deck) (s : State) : Outcome :=
  event (.proceedTimeout d) (fun s => s.proceedTimeout d) s

/-! ### The entry loop -/

/-- Whether the entry barrier is LOWERING or DOWN (R116, R119). -/
def State.entryLowered (s : State) (d : Deck) : Bool :=
  (s.bar (Deck.entry d)).state == .lowering || (s.bar (Deck.entry d)).state == .down

/-- Whether the entry barrier's LOWERING or DOWN disarms the tailgate watch although the arbiter has not taken the change:
the barrier is in one of them now, or has left it while the change still waits for the arbiter (R119, log 18). -/
def State.entryClosing (s : State) (d : Deck) : Bool :=
  s.entryLowered d
    || s.main.raised.contains (.barrierStateTaken .arbiter (Deck.entry d) .lowering)
    || s.main.raised.contains (.barrierStateTaken .arbiter (Deck.entry d) .down)

/-- Whether a rising edge of the entry loop finds the tailgate watch armed (R119). -/
def State.watching (s : State) (d : Deck) : Bool := (s.arb d).watch && !s.entryClosing d

/-- A rising edge of the entry boom loop: the arrival (R115), or a tailgate (R119). In OCCUPIED with the watch disarmed it
has no effect on the deck, nor has the falling edge that follows it (R120). -/
def State.entryRise (s : State) (d : Deck) : State :=
  let a := s.arb d
  let t := s.modArb d fun a => { a with entryRisen := a.state != .occupied || s.watching d }
  match a.state with
  | .granted =>
      t.modArb d fun a =>
        { a with grant := a.grant.map fun g => if g.arrived then g else { g with arrived := true, timer := none } }
  | .occupied =>
    if !s.watching d then t
    else
      ((t.modArb d fun a => { a with tailgate := true, watch := false }).raise [.captureExternalEnd d .tailgate]).post
        (.arbiter d) (.tailgate d ((a.current.map Current.number).getD 0))
  | .free => t
  | .clearing => t
  | .recover => t
  | .outOfService => t

/-- The entry passage of a grant (R116): the deck is OCCUPIED, the passage is reported, the tailgate watch is armed unless
the entry barrier is LOWERING or DOWN (R116) or has begun to close at the edge of this passage (R119), and the engine's
ended mark is cleared (R99). -/
def State.entryPassage (s : State) (d : Deck) (g : Grant) : State :=
  ((s.changeArb d fun a =>
      { a with state := .occupied, grant := none
               current := some { number := g.number, lane := g.lane, released := false, outcome := .none }
               watch := !g.closing && !s.entryLowered d }).modEng d fun e => { e with ended := false }).raise
    [.entryPassageReport d g.number, .entryPassageAtLane g.lane d g.number]

/-- An unexpected entry passage (R120); DECK_STATE is posted before DECK_INTRUSION (DESIGN CHOICE, log 38). -/
def State.intrusion (s : State) (d : Deck) : State :=
  (s.changeArb d fun a => { a with state := .recover, offer := none }).post (.arbiter d)
    (.deckIntrusion d (s.arb d).state)

/-- A falling edge of the entry boom loop (R116, R120). One before the arrival is no passage, so a mark that the entry
barrier closed at it ends (log 18). -/
def State.entryFall (s : State) (d : Deck) : State :=
  let a := s.arb d
  let t := s.modArb d fun a => { a with entryRisen := false }
  match a.state with
  | .granted =>
    match a.grant with
    | some g =>
      if g.arrived then t.entryPassage d g else t.modArb d fun a => { a with grant := some { g with closing := false } }
    | none => t
  | .free => if a.entryRisen then t.intrusion d else t
  | .clearing => if a.entryRisen then t.intrusion d else t
  | .occupied => t
  | .recover => t
  | .outOfService => t

def execEntryLoopEdgeAtArbiter (d : Deck) (e : Edge) (s : State) : Outcome :=
  event (.entryLoopEdgeAtArbiter d e)
    (fun s =>
      match e with
      | .rising => s.entryRise d
      | .falling => s.entryFall d) s

/-! ### The occupied deck -/

/-- A falling edge of the exit boom loop: the exit passage (R118). -/
def State.exitFall (s : State) (d : Deck) : State :=
  match (s.arb d).current with
  | none => s
  | some c =>
    if (s.arb d).state ≠ .occupied ∨ c.released = false then s
    else
      (s.changeArb d fun a => { a with state := .clearing, current := none, tailgate := false, watch := false }).raise
        [.exitPassageReport d c.number, .captureExternalEnd d .deckLeft]

def execExitLoopEdgeAtArbiter (d : Deck) (e : Edge) (s : State) : Outcome :=
  event (.exitLoopEdgeAtArbiter d e)
    (fun s =>
      match e with
      | .rising => s
      | .falling => s.exitFall d) s

/-- Rewrites the current transaction of an OCCUPIED deck, where it has the number. -/
def State.modCurrent (s : State) (d : Deck) (number : Nat) (f : Current → Current) : State :=
  s.modArb d fun a =>
    { a with current := a.current.map fun c => if a.state = .occupied ∧ c.number = number then f c else c }

/-- An exit release, for the current transaction or with no transaction (R117). -/
def State.exitRelease (s : State) (d : Deck) (number : Option Nat) : State :=
  s.modArb d fun a =>
    { a with
      current := a.current.map fun c =>
        if a.state = .occupied ∧ (number = none ∨ number = some c.number) then { c with released := true } else c }

def execExitReleaseAtArbiter (d : Deck) (number : Option Nat) (s : State) : Outcome :=
  event (.exitReleaseAtArbiter d number) (fun s => s.exitRelease d number) s

/-- CAPTURE_COMPLETION_AT_ARBITER (R117). -/
def execCaptureCompletionAtArbiter (r : CaptureResult) (s : State) : Outcome :=
  event (.captureCompletionAtArbiter r)
    (fun s => s.modCurrent r.deck r.number fun c => { c with outcome := .done r.weight r.cls }) s

/-- CAPTURE_FAILURE_AT_ARBITER (R117). -/
def execCaptureFailureAtArbiter (d : Deck) (number : Nat) (reason : FailReason) (s : State) : Outcome :=
  event (.captureFailureAtArbiter d number reason)
    (fun s => s.modCurrent d number fun c => { c with outcome := .failed reason }) s

/-- The records' notice of an accepted FORCE_EXIT on the current transaction clears the tailgate latch (R119). -/
def State.forceExitNotice (s : State) (d : Deck) (number : Nat) : State :=
  s.modArb d fun a => if a.current.any (fun c => c.number == number) then { a with tailgate := false } else a

def execForceExitNoticeAtArbiter (d : Deck) (number : Nat) (s : State) : Outcome :=
  event (.forceExitNoticeAtArbiter d number) (fun s => s.forceExitNotice d number) s

/-! ### Clearing and recovery -/

/-- A deck in CLEARING or RECOVER that is found empty becomes FREE (R121). -/
def State.deckEmpty (s : State) (d : Deck) : State :=
  if ((s.arb d).state = .clearing ∨ (s.arb d).state = .recover) ∧ s.deckEmptyCondition d then
    s.changeArb d fun a => { a with state := .free }
  else s

def execDeckEmpty (d : Deck) (s : State) : Outcome := event (.deckEmpty d) (fun s => s.deckEmpty d) s

/-- The entry barrier has begun to close: the tailgate watch is disarmed (R119). -/
def Arbiter.entryCloses (a : Arbiter) : Arbiter := { a with watch := false }

/-- A barrier state change is taken by the arbiter or a lane, which goes by it from then on, or by the supervisor (R166):
the arbiter's tailgate watch is disarmed by its entry barrier LOWERING or DOWN (R119), a lane's lamps follow an entry
barrier of its feed (R144), and the supervisor's alarm source is judged with every step (R182). -/
def State.barrierStateTaken (s : State) (reader : BarrierReader) (b : Barrier) (st : BarrierState) : State :=
  let t := s.setBoomAt reader b st
  match reader with
  | .arbiter => if b.isEntry && (st == .lowering || st == .down) then t.modArb b.deck Arbiter.entryCloses else t
  | .lane l => if b.isEntry && (s.laneCfg l).feed.has b.deck then t.judgeLamps l else t
  | .supervisor => t

def execBarrierStateTaken (reader : BarrierReader) (b : Barrier) (st : BarrierState) (s : State) : Outcome :=
  event (.barrierStateTaken reader b st) (fun s => s.barrierStateTaken reader b st) s

/-! ### Requests -/

/-- SET_PROCEED_TIME (R108). -/
def serveSetProceedTime (deck seconds : Nat) : Serve := fun _ s =>
  match deckOf deck with
  | none => (s, .only .badArgument)
  | some d =>
    let v := clampNat 5 120 seconds
    ((s.modDeckCfg d fun c => { c with proceed := v }).flag .decks, .clamped (v != seconds) (u32 v))

def execSetProceedTime (q : Sender) (deck seconds : Nat) (s : State) : Outcome :=
  request (.setProceedTime q deck seconds) q (serveSetProceedTime deck seconds) s

/-- CLEAR_TAILGATE (R119). -/
def serveClearTailgate (deck : Nat) : Serve := fun _ s =>
  match deckOf deck with
  | none => (s, .only .badArgument)
  | some d =>
    if !(s.arb d).tailgate then (s, .only .wrongState)
    else if (s.inp (.beam1 d)).debounced = .active ∧ (s.inp (.beam2 d)).debounced = .active then
      (s, .only .deckNotReady)
    else (s.modArb d fun a => { a with tailgate := false }, .ok)

def execClearTailgate (q : Sender) (deck : Nat) (s : State) : Outcome :=
  request (.clearTailgate q deck) q (serveClearTailgate deck) s

/-- A hold of COMMAND ends when the barrier's deck leaves OUT_OF_SERVICE, and the lowering path is judged (R164). -/
def State.endCommandHold (s : State) (b : Barrier) : State :=
  (s.modBar b fun w => { w with hold := if w.hold = .command then .none else w.hold }).judgeLowering b

/-- The return of a deck to service (R122, R164, R193). -/
def State.returnToService (s : State) (d : Deck) : State :=
  ((((s.changeArb d fun a => { a with state := .recover }).endCommandHold (Deck.entry d)).endCommandHold
    (Deck.exit d)).failCollection d .aborted).deckEmpty d

/-- SET_DECK_SERVICE (R122): OUT is the first value, IN the second. -/
def serveSetDeckService (deck setting : Nat) : Serve := fun _ s =>
  match deckOf deck, switchOf setting with
  | some d, some true =>
    match (s.arb d).state with
    | .free =>
      if (s.arb d).offer.isSome then (s, .only .deckBusy)
      else (s.changeArb d fun a => { a with state := .outOfService }, .ok)
    | .recover => (s.changeArb d fun a => { a with state := .outOfService }, .ok)
    | .clearing => (s.changeArb d fun a => { a with state := .outOfService }, .ok)
    | .granted => (s, .only .wrongState)
    | .occupied => (s, .only .wrongState)
    | .outOfService => (s, .ok)
  | some d, some false =>
    if (s.arb d).state = .outOfService then (s.returnToService d, .ok) else (s, .only .wrongState)
  | _, _ => (s, .only .badArgument)

def execSetDeckService (q : Sender) (deck setting : Nat) (s : State) : Outcome :=
  request (.setDeckService q deck setting) q (serveSetDeckService deck setting) s

/-- A capture outcome (R107): its kind with NONE as 00h, one optional around the weight and the class, and the reason as an
optional (DESIGN CHOICE, log 15). -/
def outcomeBytes : CaptureOutcome → List Byte
  | .none => u8 0 ++ u8 0 ++ u8 0
  | .done w c => u8 1 ++ u8 1 ++ s32 w ++ classByte c ++ u8 0
  | .failed r => u8 2 ++ u8 0 ++ u8 1 ++ failReasonByte r

/-- A grant (R107), its arrival NONE as 00h and not FFh (R215; DESIGN CHOICE, log 15). -/
def grantBytes (g : Grant) : List Byte :=
  laneByte g.lane ++ u16 g.number ++ u8 (if g.arrived then 1 else 0) ++ boolean g.late ++ optional u32 g.timer

/-- A current transaction (R107). -/
def currentBytes (c : Current) : List Byte :=
  u16 c.number ++ laneByte c.lane ++ boolean c.released ++ outcomeBytes c.outcome

/-- A pending record (R107). -/
def pendingBytes (p : Pending) : List Byte := u16 p.number ++ filingKindByte p.kind ++ u8 p.priority ++ u48 p.time

/-- READ_DECK_STATE (R123). The last-granted lane is an optional, absent where R107 has NONE (DESIGN CHOICE, log 15). -/
def serveReadDeckState (deck : Nat) : Serve := fun _ s =>
  match deckOf deck with
  | none => (s, .only .badArgument)
  | some d =>
    let a := s.arb d
    (s, .ok (deckStateByte a.state ++ optional (fun o : Offer => laneByte o.lane ++ u16 o.number) a.offer
      ++ optional grantBytes a.grant ++ optional currentBytes a.current ++ u8 (if a.watch then 0 else 1)
      ++ boolean a.tailgate ++ items (optional pendingBytes) a.slots.toList ++ optional laneByte a.last
      ++ u32 (s.deckCfg d).proceed ++ boolean (s.deckConditions d) ++ boolean (s.deckEmptyCondition d)))

def execReadDeckState (q : Sender) (deck : Nat) (s : State) : Outcome :=
  request (.readDeckState q deck) q (serveReadDeckState deck) s

end Sys2Proof.Machine
end

