-- ==== Sys2Proof/Machine/Calibration.lean ====
section
/-! DEFINITION. The commands of calibration: the switch (R185), the metrological requests (R186 to R190), and the
collections' start, abort and reading (R191, R193, R196). -/

namespace Sys2Proof.Machine

/-- The first two tests of SET_METROLOGY: each value legal, and the set consistent in its mode (R67, R189). -/
def Metrology.ok (m : Metrology) : Bool :=
  [5, 10, 20, 50, 100].contains m.e1 && [5, 10, 20, 50, 100].contains m.e2
    && (1 ≤ m.max1 && m.max1 ≤ Config.capacityMax) && (1 ≤ m.max2 && m.max2 ≤ Config.capacityMax)
    && [50, 100, 200, 400].contains m.window && [1, 2, 4, 8].contains m.f && (2 ≤ m.s && m.s ≤ 16)
    && (match m.mode with
      | .dual => m.e1 < m.e2 && m.max1 < m.max2 && m.max1 % m.e2 == 0 && m.max2 % m.e2 == 0
      | .single => m.e1 == m.e2 && m.max1 == m.max2 && m.max2 % m.e2 == 0)

/-- A deck's settings under a new metrology set: an explicit threshold is clamped to the set's range (R67; an empty range is
taken as log 39 says), and Zd to the new zero limit (R103). -/
def DeckCfg.withMetrology (c : DeckCfg) (m : Metrology) : DeckCfg :=
  { c with metrology := m, mark := true, threshold := c.threshold.map (clampNat (2 * m.e1) m.max1)
           zd := clampInt (-((m.max2 : Int) * 20)) ((m.max2 : Int) * 20) c.zd }

/-- The accepted change of a deck's metrology set (R189). ZERO_LIMIT is posted before the notices of the change (DESIGN
CHOICE, log 38). -/
def State.storeMetrology (s : State) (d : Deck) (m : Metrology) : State :=
  let c := s.deckCfg d
  let t := if c.metrology.window = m.window then s else s.shortClose d
  let t := t.modDeckCfg d fun c => c.withMetrology m
  let zd := (t.deckCfg d).zd
  let t := if zd = c.zd then t else t.latchZeroLimit d (0 ≤ zd) none
  let t := if c.metrology.window = m.window then t else t.maybeOpen d
  State.setChange s t .setMetrology [d] none

/-- The calibration event counter in an answer (R189, R190). -/
def State.counterReply (s : State) : Reply := .ok (u16 s.backup.calCounter)

/-- SET_METROLOGY (R189). -/
def serveSetMetrology (deck mode max1 max2 e1 e2 window f sc : Nat) : Serve := fun _ s =>
  match deckOf deck, intervalModeOf mode with
  | some d, some mo =>
    let m : Metrology :=
      { mode := mo, max1 := max1, max2 := max2, e1 := e1, e2 := e2, window := window, f := f, s := sc }
    if !m.ok then (s, .only .badArgument)
    else if !s.sup.calSwitch then (s, .only .calLocked)
    else if (s.deckCfg d).metrology = m ∧ (s.deckCfg d).mark then (s, s.counterReply)
    else (s.storeMetrology d m, (s.storeMetrology d m).counterReply)
  | _, _ => (s, .only .badArgument)

def execSetMetrology (q : Sender) (deck mode max1 max2 e1 e2 window f sc : Nat) (s : State) : Outcome :=
  request (.setMetrology q deck mode max1 max2 e1 e2 window f sc) q
    (serveSetMetrology deck mode max1 max2 e1 e2 window f sc) s

/-- Writes a channel's calibration pair (R190): a value that equals the stored one is no change (R186). -/
def State.writePair (s : State) (r : CalRequest) (c : Channel) (f : ChannelCfg → ChannelCfg) : State × Reply :=
  if f (s.chanCfg c) = s.chanCfg c then (s, s.counterReply)
  else
    let t := State.setChange s (s.modChanCfg c f) r ((s.chanCfg c).map).toList (some c)
    (t, t.counterReply)

/-- SET_CHANNEL_FACTOR (R190). -/
def serveSetChannelFactor (channel k : Nat) : Serve := fun _ s =>
  match channelOf channel with
  | none => (s, .only .badArgument)
  | some c =>
    if k < 1 ∨ Config.factorMax < k then (s, .only .badArgument)
    else if !s.sup.calSwitch then (s, .only .calLocked)
    else s.writePair .setChannelFactor c fun x => { x with factor := k }

def execSetChannelFactor (q : Sender) (channel k : Nat) (s : State) : Outcome :=
  request (.setChannelFactor q channel k) q (serveSetChannelFactor channel k) s

/-- SET_CHANNEL_ZERO (R190). -/
def serveSetChannelZero (channel z : Nat) : Serve := fun _ s =>
  match channelOf channel with
  | none => (s, .only .badArgument)
  | some c =>
    if Config.countMax < z then (s, .only .badArgument)
    else if !s.sup.calSwitch then (s, .only .calLocked)
    else s.writePair .setChannelZero c fun x => { x with zero := z }

def execSetChannelZero (q : Sender) (channel z : Nat) (s : State) : Outcome :=
  request (.setChannelZero q channel z) q (serveSetChannelZero channel z) s

/-! ### Collections -/

/-- Tests 2 to 5 of a collection's start (R191), the supply state as the engine last took it (R177). -/
def State.collectionRefusal (s : State) (d : Deck) : Option AnswerCode :=
  if !s.sup.calSwitch then some .calLocked
  else if (s.arb d).state ≠ .outOfService then some .wrongState
  else if (s.eng d).collection.isSome then some .deckBusy
  else if (s.eng d).state = .off ∨ s.lowAt (.engine d) ∨ !(s.eng d).positioned then some .deckNotReady
  else none

/-- The collection record at a start (R191). -/
def State.newCollection (s : State) (d : Deck) (k : CollectionKind) (origin : Port) : Collection :=
  { kind := k, origin := origin, windows := 0, invalidRun := 0
    sums := match k with
      | .zero => (s.channelSet d).map fun c => (c, 0)
      | .span _ => []
    weightSum := 0, after := (s.win d).serial }

/-- Starts a collection where its tests hold (R191). -/
def State.startCollection (s : State) (d : Deck) (k : CollectionKind) (origin : Port) : State × Reply :=
  match s.collectionRefusal d with
  | some code => (s, .only code)
  | none => (s.modEng d fun g => { g with collection := some (s.newCollection d k origin) }, .only .started)

/-- CAL_ZERO_DECK (R191); an accepted one clears the ZERO_LIMIT latch (R106). -/
def serveCalZeroDeck (q : Sender) (deck : Nat) : Serve := fun _ s =>
  match deckOf deck with
  | none => (s, .only .badArgument)
  | some d =>
      let r := s.startCollection d .zero q.port
      (if r.2.code = .started then r.1.modEng d fun g => { g with zeroLimit := false } else r.1, r.2)

def execCalZeroDeck (q : Sender) (deck : Nat) (s : State) : Outcome :=
  request (.calZeroDeck q deck) q (serveCalZeroDeck q deck) s

/-- CAL_SPAN_DECK (R191). -/
def serveCalSpanDeck (q : Sender) (deck : Nat) (load : Int) : Serve := fun _ s =>
  match deckOf deck with
  | none => (s, .only .badArgument)
  | some d =>
    if load < 1 ∨ ((s.deckCfg d).metrology.max2 : Int) < load then (s, .only .badArgument)
    else s.startCollection d (.span load) q.port

def execCalSpanDeck (q : Sender) (deck : Nat) (load : Int) (s : State) : Outcome :=
  request (.calSpanDeck q deck load) q (serveCalSpanDeck q deck load) s

/-- ABORT_CALIBRATION (R193). -/
def serveAbortCalibration (deck : Nat) : Serve := fun _ s =>
  match deckOf deck with
  | none => (s, .only .badArgument)
  | some d => if (s.eng d).collection.isNone then (s, .only .wrongState) else (s.failCollection d .aborted, .ok)

def execAbortCalibration (q : Sender) (deck : Nat) (s : State) : Outcome :=
  request (.abortCalibration q deck) q (serveAbortCalibration deck) s

/-- The collection record as READ_CALIBRATION gives it (R191, R196), laid out by the DESIGN CHOICE of log 15. -/
def collectionBytes (k : Collection) : List Byte :=
  (match k.kind with
    | .zero => u8 0 ++ u8 0
    | .span l => u8 1 ++ u8 1 ++ s32 l)
  ++ portByte k.origin ++ u8 k.windows ++ u8 k.invalidRun
  ++ (match k.kind with
    | .zero => u8 1 ++ items (fun x : Channel × Nat => u32 x.2) k.sums ++ u8 0
    | .span _ => u8 0 ++ u8 1 ++ s32 k.weightSum)

/-- READ_CALIBRATION (R196). Zd and the list of Z_i and K_i, in channel order without the channel numbers, stand under one
presence byte (DESIGN CHOICE, log 15). -/
def serveReadCalibration (deck : Nat) : Serve := fun _ s =>
  match deckOf deck with
  | none => (s, .only .badArgument)
  | some d =>
    let c := s.deckCfg d
    let cs := s.channelSet d
    (s, .ok (u16 s.backup.calCounter ++ calSwitchByte s.sup.calSwitch ++ metrologyBytes c.metrology ++ boolean c.mark
      ++ calibratedByte (s.calibrated d) ++ items channelByte cs ++ optional collectionBytes (s.eng d).collection
      ++ optional (fun zd => s32 zd ++ items (fun ch => u32 (s.chanCfg ch).zero ++ u32 (s.chanCfg ch).factor) cs)
          (if s.sup.calSwitch then some c.zd else none)))

def execReadCalibration (q : Sender) (deck : Nat) (s : State) : Outcome :=
  request (.readCalibration q deck) q (serveReadCalibration deck) s

/-- The calibration switch takes a reading seen on 50 consecutive ticks: CAL_SWITCH is posted, and an OPEN switch fails
the collections (R185, R193). -/
def State.takeCalSwitch (s : State) : State :=
  if s.sup.calRun < Config.calSwitchTicks then s
  else
    let closed := !s.sup.calSwitch
    let t := (((s.modSup fun v => { v with calSwitch := closed, calRun := 0 }).post .supervisor
      (.calSwitch closed s.ms)).flag .decks)
    if closed then t else (t.failCollection .a .calLocked).failCollection .b .calLocked

def execCalSwitch (s : State) : Outcome := event .calSwitch State.takeCalSwitch s

end Sys2Proof.Machine
end

