-- ==== Sys2Proof/Machine/Records.lean ====
section
/-! DEFINITION. The operations of the yard records: the entries of the yard table (R1 to R3), the tare write (R28,
R29), the issue of a ticket (R42, R43, R48), and closure with its retries (R12 to R15). -/

namespace Sys2Proof.Machine

/-! ### The yard table -/

/-- The entry of a number (R1). -/
def Records.find (r : Records) (n : Nat) : Option Entry := r.entries.find? fun e => e.number == n
/-- The entry that holds a plate (R1). -/
def Records.findPlate (r : Records) (p : Plate) : Option Entry := r.entries.find? fun e => e.plate == p

/-- Rewrites the entry of a number in its place. -/
def State.modEntry (s : State) (n : Nat) (f : Entry → Entry) : State :=
  s.modRecs fun r => { r with entries := r.entries.map fun e => if e.number = n then f e else e }

/-- Removes the entry of a number. -/
def State.dropEntry (s : State) (n : Nat) : State :=
  s.modRecs fun r => { r with entries := r.entries.filter fun e => e.number != n }

/-- A finished entry: departure CLOSED or DISCHARGED (R2). -/
def Entry.finished (e : Entry) : Bool :=
  match e.departure with
  | some (.closed _) => true
  | some .discharged => true
  | some .toYard => false
  | some .toQuarantine => false
  | none => false

/-- The number after a number, 0 left out (R3). -/
def succNumber (n : Nat) : Nat := if n < Config.u16Max then n + 1 else 1

/-- The allocation of a transaction number: the next number not in use, found within 97 steps (R3). -/
def allocate (es : List Entry) : Nat → Nat → Nat
  | 0, n => succNumber n
  | k + 1, n => if es.any (fun e => e.number == succNumber n) then allocate es k (succNumber n) else succNumber n

/-- The exit release given to the arbiter of a deck (R11). -/
def State.giveRelease (s : State) (d : Deck) (n : Option Nat) : State := s.raise [.exitReleaseAtArbiter d n]

/-- The current yard-clock date. -/
def Records.today (r : Records) : Option Date := r.clock.map DateTime.date

/-! ### The tare store -/

/-- The expiry date (R27). -/
def Tare.expiry (t : Tare) : Date := addDays t.stored t.validity

/-- The standing of a tare on a current date (R28). -/
def Tare.standing (t : Tare) : Option Date → Standing
  | none => .unknown
  | some d =>
      if dateKey d < dateKey t.stored then .notYetValid
      else if dateKey d < dateKey t.expiry then .valid
      else .expired

/-- The order of eviction: earlier expiry, then earlier date stored, then lower plate (R29). -/
def Tare.before (a b : Tare) : Bool :=
  if dateKey a.expiry ≠ dateKey b.expiry then dateKey a.expiry < dateKey b.expiry
  else if dateKey a.stored ≠ dateKey b.stored then dateKey a.stored < dateKey b.stored
  else plateLt a.plate b.plate

/-- Puts a tare in its place in the order of eviction. -/
def insertTare (t : Tare) : List Tare → List Tare
  | [] => [t]
  | u :: us => if u.before t then u :: insertTare t us else t :: u :: us

/-- The tares in the order of eviction (R32). -/
def sortTares (ts : List Tare) : List Tare := ts.foldr insertTare []

/-- The record of a plate (R27). -/
def Records.tareOf (r : Records) (p : Plate) : Option Tare := r.tares.find? fun t => t.plate == p

/-- The record the tare write evicts: the first EXPIRED record in the order of eviction (R29). -/
def Records.evictee (r : Records) : Option Tare :=
  (sortTares r.tares).find? fun t => t.standing r.today == .expired

/-- What a tare write did (R29): the store after it, whether it replaced a record, and the record it evicted. -/
structure TareWrite where
  tares : List Tare
  replaced : Bool
  evicted : Option Tare
  deriving DecidableEq, Repr

/-- The tare write (R29); none where it fails with TARE_FULL. -/
def Records.tareWrite (r : Records) (t : Tare) : Option TareWrite :=
  if (r.tareOf t.plate).isSome then
    some { tares := r.tares.map fun u => if u.plate = t.plate then t else u, replaced := true, evicted := none }
  else if r.tares.length < Config.tareMax then
    some { tares := r.tares ++ [t], replaced := false, evicted := none }
  else
    r.evictee.map fun v =>
      { tares := (r.tares.filter fun u => u.plate != v.plate) ++ [t], replaced := false, evicted := some v }

/-- Whether the store has room for a plate: a write for it would not fail (R29). -/
def Records.tareRoom (r : Records) (p : Plate) : Bool :=
  (r.tareOf p).isSome || r.tares.length < Config.tareMax || r.evictee.isSome

/-- A tare write takes effect: the store, its flag, and TARE_EVICTED for an eviction (R27, R29), which a TARE_STORED of
the same completion follows (DESIGN CHOICE, log 38). -/
def State.applyTare (s : State) (w : TareWrite) : State :=
  let s := (s.modRecs fun r => { r with tares := w.tares }).flag .tareStore
  match w.evicted with
  | some v => s.post .records (.tareEvicted v.plate v.expiry)
  | none => s

/-! ### The ticket log -/

/-- Whether the log has a free slot (R40). -/
def Records.freeSlot (r : Records) : Bool :=
  r.log.length < Config.logMax || (r.log.head?.map Ticket.collected).getD false

/-- The log with room for one more record: at 512 records the oldest goes (R42 step 1). -/
def roomInLog (log : List Ticket) : List Ticket := if Config.logMax ≤ log.length then log.drop 1 else log

/-- The number after a ticket number (R42 step 4). -/
def succTicket (n : Nat) : Nat := if n < Config.ticketMax then n + 1 else 1

/-- The number the next ticket takes (R39); with the counter UNSET none is given (R12, R44 never get there). -/
def Records.nextTicket (r : Records) : Nat := r.counter.getD Config.unsetTicket

/-- The time a ticket is issued at (R12, R44); with the clock UNSET none is given (R12, R49: never there). -/
def Records.issueTime (r : Records) : DateTime := r.clock.getD Config.unsetTime

/-- Whether a ticket body is a VOID. -/
def TicketBody.isVoid : TicketBody → Bool
  | .weight _ _ _ _ => false
  | .void _ _ => true

/-- Issues a ticket (R42): the log gives it its number and mark; TICKET_ISSUED is posted, and LOG_NEAR_FULL when the
uncollected count rises to 480 (R48), in that order (DESIGN CHOICE, log 38). The number is the one `nextTicket` gave. -/
def State.issue (s : State) (t : Ticket) : State :=
  let r := s.recs
  let t := { t with number := r.nextTicket, seqStart := r.seqStart, voided := false, collected := false,
                    issued := r.issueTime }
  let log := roomInLog r.log ++ [t]
  let s := s.modRecs fun r => { r with log := log, counter := some (succTicket r.nextTicket), seqStart := false }
  let s := s.post .records (.ticketIssued t.number t.body.isVoid t.transaction)
  if (uncollected r.log).length < Config.nearFull ∧ Config.nearFull ≤ (uncollected log).length then
    s.post .records
      (.logNearFull (uncollected log).length (((uncollected log).head?.map Ticket.number).getD t.number))
  else s

/-! ### Closure -/

/-- The first of the four closure conditions that fails (R12). -/
def Records.closureBlock (r : Records) (e : Entry) : Option BlockReason :=
  if e.hold.isSome then some .held
  else if r.counter.isNone then some .ticketUnset
  else if r.clock.isNone then some .clockUnset
  else if !r.freeSlot then some .logFull
  else none

/-- The weights that the nets are computed from: the weighings, and in STORED_TARE the snapshot after them (R15). -/
def Entry.weights (e : Entry) : List Int := e.weighings.map Weighing.weight ++ (e.snapshot.map Snapshot.weight).toList

/-- The line nets: each material line takes the difference of the weighing that opens it and the one that closes it
(R15). -/
def Entry.lineNets (e : Entry) : List (Nat × Int) := e.lines.zip (e.weights.zipWith (· - ·) e.weights.tail)

/-- The first weight and the last (R15). -/
def Entry.firstWeight (e : Entry) : Int := e.weights.head?.getD 0
def Entry.lastWeight (e : Entry) : Int := e.weights.getLast?.getD 0

/-- The total net (R15). -/
def Entry.totalNet (e : Entry) : Int := |e.firstWeight - e.lastWeight|

/-- The direction (R15). -/
def Entry.direction (e : Entry) : Direction :=
  if e.lastWeight ≤ e.firstWeight then .inboundDelivery else .outboundCollection

/-- The class of the WEIGHT ticket (R43). -/
def Entry.ticketClass (e : Entry) : WeighClass :=
  if e.weighings.any (fun w => w.cls == .indicative) || e.snapshot.any (fun t => t.cls == .indicative) then .indicative
  else .approved

/-- The ticket content closure hands over (R12); number, marks and issue time are given at the issue. -/
def Entry.content (e : Entry) : Ticket :=
  { number := 0, cls := e.ticketClass, seqStart := false, voided := false, collected := false
    transaction := e.number, plate := e.plate, account := e.account, mode := e.mode, direction := e.direction
    issued := e.admitted
    body := .weight e.weighings e.lineNets e.totalNet e.snapshot }

/-- The deck of an entry's pass, if it is on one. -/
def Entry.passDeck (e : Entry) : Option Deck := e.pass.map Pass.deck

/-- Attempts the closure of an entry that is ON_DECK or IN_YARD (R12, R13). -/
def State.attemptClosure (s : State) (e : Entry) : State :=
  match s.recs.closureBlock e with
  | some r =>
      let s := s.modEntry e.number fun e => { e with closurePending := true, blocked := some r }
      if e.blocked = some r then s else s.post .records (.closureBlocked e.number e.passDeck r)
  | none =>
      let n := s.recs.nextTicket
      let s := s.issue e.content
      match e.passDeck with
      | some d =>
          (s.modEntry e.number fun e =>
            { e with closurePending := false, blocked := none, departure := some (.closed n) }).giveRelease d
              (some e.number)
      | none => s.dropEntry e.number

/-- Whether a retry event attempts the closure of an entry (R14). -/
def Entry.retried (e : Entry) : Bool :=
  e.closurePending && (e.state == .inYard || (e.state == .onDeck && e.departure.isNone))

/-- A retry event: the pending closures are attempted in admission order, each on its own conditions (R14). -/
def State.retry (s : State) : State :=
  (s.recs.entries.filter Entry.retried).foldl (fun s e => s.attemptClosure e) s

end Sys2Proof.Machine
end

