-- ==== Sys2Proof/Machine/Capture.lean ====
section
/-! DEFINITION. The commands of the capture operation and of zero setting (R85 to R91, R95 to R98, R104). -/

namespace Sys2Proof.Machine

/-- SET_CAPTURE_OPTIONS (R85). -/
def serveSetCaptureOptions (deck attempt n accept : Nat) : Serve := fun _ s =>
  match deckOf deck, switchOf accept with
  | some d, some a =>
    let t := clampNat 2 30 attempt
    let k := clampNat 0 4 n
    ((s.modDeckCfg d fun c => { c with attempt := t, downshift := k, accept := a }).flag .decks,
      .clamped (t != attempt || k != n) (u32 t ++ u8 k))
  | _, _ => (s, .only .badArgument)

def execSetCaptureOptions (q : Sender) (deck attempt n accept : Nat) (s : State) : Outcome :=
  request (.setCaptureOptions q deck attempt n accept) q (serveSetCaptureOptions deck attempt n accept) s

/-- The capture record at a start (R91). -/
def startRecord (c : DeckCfg) (t : Current) (origin : Option Port) (positioned : Bool) : Capture :=
  { number := t.number, origin := origin, lane := t.lane, attempt := c.attempt, downshift := c.downshift
    accept := c.accept, phase := .normal, failed := 0, timer := c.attempt * 1000, paused := !positioned
    leave := if positioned then none else some 0, invalidRun := 0 }

/-- A capture starts on the deck's current transaction (R91). Its ENGINE_STATE carries no window number, also where a window
brought the engine to LOADED (R82, R89; DESIGN CHOICE, log 40). -/
def State.startCapture (s : State) (d : Deck) (origin : Option Port) : State :=
  match (s.arb d).current with
  | none => s
  | some t =>
      (s.modEng d fun g =>
        { g with capture := some (startRecord (s.deckCfg d) t origin g.positioned), stab := [] }).refreshActive d none

/-- The entry of a deck's current transaction, if its pass is on that deck (R89, R90). -/
def State.currentEntry (s : State) (d : Deck) : Option Entry :=
  ((s.arb d).current.bind fun t => s.recs.find t.number).filter fun e => e.state == .onDeck && e.passDeck == some d

/-- The conditions of an automatic start (R89), the supply state as the engine last took it (R177). -/
def State.mayStart (s : State) (d : Deck) : Bool :=
  (s.arb d).state == .occupied && !(s.arb d).tailgate
    && (s.currentEntry d).any (fun e => e.departure.isNone && e.pass.any fun p => p.status == .awaiting)
    && !(s.eng d).ended && (s.eng d).positioned && (s.eng d).state == .loaded && !s.lowAt (.engine d)

/-- CAPTURE_START (R89). -/
def execCaptureStart (d : Deck) (s : State) : Outcome :=
  event (.captureStart d) (fun s => if s.mayStart d then s.startCapture d none else s) s

/-- Whether the pass of an entry lets the console start a capture (R90 test 4). -/
def Entry.capturable (e : Entry) : Bool :=
  e.departure.isNone && e.pass.any fun p =>
    match p.status with
    | .awaiting => true
    | .failed _ => true
    | .done => e.closurePending

/-- CAPTURE (R90), the supply state as the engine last took it (R177). -/
def serveCapture (q : Sender) (deck : Nat) : Serve := fun _ s =>
  match deckOf deck with
  | none => (s, .only .badArgument)
  | some d =>
    if (s.eng d).capture.isSome then (s, .only .deckBusy)
    else if (s.arb d).state ≠ .occupied ∨ (s.arb d).tailgate ∨ (s.eng d).state = .off ∨ s.lowAt (.engine d) then
      (s, .only .deckNotReady)
    else if !(s.currentEntry d).any Entry.capturable then (s, .only .wrongState)
    else (s.startCapture d (some q.port), .only .started)

def execCapture (q : Sender) (deck : Nat) (s : State) : Outcome := request (.capture q deck) q (serveCapture q deck) s

/-- ABORT_CAPTURE (R98). -/
def serveAbortCapture (deck : Nat) : Serve := fun _ s =>
  match deckOf deck with
  | none => (s, .only .badArgument)
  | some d => if (s.eng d).capture.isNone then (s, .only .wrongState) else (s.failCapture d .aborted, .ok)

def execAbortCapture (q : Sender) (deck : Nat) (s : State) : Outcome :=
  request (.abortCapture q deck) q (serveAbortCapture deck) s

/-- The abort from the yard records (R98). -/
def State.recordsAbort (s : State) (d : Deck) (number : Nat) : State :=
  if (s.eng d).capture.any (fun c => c.number == number) then s.failCapture d .aborted else s

def execRecordsAbort (d : Deck) (number : Nat) (s : State) : Outcome :=
  event (.recordsAbort d number) (fun s => s.recordsAbort d number) s

/-- The reason a condition from outside the engine gives (R97). -/
def ExternalEnd.reason : ExternalEnd → FailReason
  | .tailgate => .tailgate
  | .engineOff => .aborted
  | .deckLeft => .aborted

/-- CAPTURE_EXTERNAL_END (R97). -/
def execCaptureExternalEnd (d : Deck) (cause : ExternalEnd) (s : State) : Outcome :=
  event (.captureExternalEnd d cause) (fun s => s.failCapture d (ExternalEnd.reason cause)) s

/-- Normal attempts allowed (R85). -/
def Capture.normalAllowed (c : Capture) : Nat := if c.downshift = 0 then 1 else c.downshift
/-- Relaxed attempts allowed (R85). -/
def Capture.relaxedAllowed (c : Capture) : Nat := if 1 ≤ c.downshift ∧ c.accept then 2 else 0

/-- The next attempt of a capture: the timer is reloaded, and runs while the deck is positioned (R95, R96). -/
def Capture.reload (c : Capture) : Capture := { c with timer := c.attempt * 1000 }

/-- The attempt timer has reached 0 (R95). -/
def State.attemptExpiry (s : State) (d : Deck) : State :=
  match (s.eng d).capture with
  | none => s
  | some c =>
    if c.timer ≠ 0 then s
    else
      let k := { c with failed := c.failed + 1 }
      let put := fun k => s.modEng d fun g => { g with capture := some k }
      match c.phase with
      | .normal =>
        if k.failed < c.normalAllowed then put k.reload
        else if c.relaxedAllowed = 2 then
          ((put { k.reload with phase := .relaxed }).post (.engine d) (.captureDownshift d c.number k.failed)).flag .decks
        else
          (put k).failCapture d
            (if !c.accept && (s.eng d).stab.any (fun x => x.timing == .backup) then .clock else .unstable)
      | .relaxed =>
        if k.failed < c.normalAllowed + 2 then put k.reload else (put k).failCapture d .unstable

def execAttemptTimerExpiry (d : Deck) (s : State) : Outcome :=
  event (.attemptTimerExpiry d) (fun s => s.attemptExpiry d) s

/-- The leave-deck timer has reached 10,000 (R96). -/
def State.leaveDeckExpiry (s : State) (d : Deck) : State :=
  if (s.eng d).capture.any (fun c => c.leave.any fun t => Config.leaveDeckMax ≤ t) then s.failCapture d .leftDeck else s

def execLeaveDeckTimerExpiry (d : Deck) (s : State) : Outcome :=
  event (.leaveDeckTimerExpiry d) (fun s => s.leaveDeckExpiry d) s

/-- The deck becomes unpositioned: the window mark is set, and a capture pauses (R86, R96). -/
def Engine.unposition (g : Engine) : Engine :=
  { g with positioned := false, windowMark := true
           capture := g.capture.map fun c => { c with paused := true, leave := some 0 }
           stab := if g.capture.isSome then [] else g.stab }

/-- The deck becomes positioned again, and a paused capture runs on (R86, R96). -/
def Engine.reposition (g : Engine) : Engine :=
  { g with positioned := true, capture := g.capture.map fun c => { c with paused := false, leave := none } }

/-- The engine takes an edge of one of its deck's beams or boom loops (R86, R127). -/
def State.positioningEdge (s : State) (d : Deck) (i : Input) (e : Edge) : State :=
  if !(positioningInputs d).contains i then s
  else
    match e with
    | .rising => if (s.eng d).positioned then s.modEng d Engine.unposition else s
    | .falling => if !(s.eng d).positioned && s.deckClear d then s.modEng d Engine.reposition else s

def execPositioningEdge (d : Deck) (i : Input) (e : Edge) (s : State) : Outcome :=
  event (.positioningEdge d i e) (fun s => s.positioningEdge d i e) s

/-- ZERO_DECK (R104). -/
def serveZeroDeck (deck : Nat) : Serve := fun _ s =>
  match deckOf deck with
  | none => (s, .only .badArgument)
  | some d =>
    if (s.eng d).capture.isSome ∨ (s.eng d).collection.isSome then (s, .only .deckBusy)
    else if (s.eng d).state ≠ .empty then (s, .only .deckNotReady)
    else
      match (s.eng d).latest.bind Reading.stable, (s.eng d).latest.bind Reading.gf with
      | some true, some gf =>
        if (s.deckCfg d).zlim < |(s.deckCfg d).zd + gf| then (s, .only .zeroRange)
        else (((s.changeZd d gf).modEng d fun g => { g with zeroLimit := false }).flag .decks, .ok)
      | _, _ => (s, .only .notStable)

def execZeroDeck (q : Sender) (deck : Nat) (s : State) : Outcome := request (.zeroDeck q deck) q (serveZeroDeck deck) s

/-- The capture record as READ_CAPTURE gives it (R88). -/
def captureBytes (c : Capture) : List Byte :=
  u16 c.number ++ originBytes c.origin ++ laneByte c.lane ++ u32 c.attempt ++ u8 c.downshift ++ switchByte c.accept
    ++ phaseByte c.phase ++ u8 c.failed ++ u32 c.timer ++ u8 (if c.paused then 1 else 0) ++ optional u32 c.leave
    ++ u8 c.invalidRun

/-- READ_CAPTURE (R88). -/
def serveReadCapture (deck : Nat) : Serve := fun _ s =>
  match deckOf deck with
  | none => (s, .only .badArgument)
  | some d =>
    let c := s.deckCfg d
    (s, .ok (u32 c.attempt ++ u8 c.downshift ++ switchByte c.accept ++ optional captureBytes (s.eng d).capture
      ++ u8 (s.eng d).stab.length))

def execReadCapture (q : Sender) (deck : Nat) (s : State) : Outcome :=
  request (.readCapture q deck) q (serveReadCapture deck) s

end Sys2Proof.Machine
end

