-- ==== Sys2Proof/Machine/Frequency.lean ====
section
/-! DEFINITION. The commands of the frequency capture unit (R53 to R63). -/

namespace Sys2Proof.Machine

/-- The decks that a change of a channel's map affects (R53). -/
def affected (old new : Option Deck) : List Deck := Deck.all.filter fun d => old == some d || new == some d

/-- The accepted change of a channel's map and polarity (R53). -/
def State.mapChannel (s : State) (c : Channel) (m : Option Deck) (p : Edge) : State :=
  let ds := affected (s.chanCfg c).map m
  let t := ds.foldl State.shortClose s
  let t := t.modChanCfg c fun x => { x with map := m, polarity := p }
  let t := t.modChan c fun w => { w with running := none, saturated := false, last := none }
  let t := ds.foldl State.maybeOpen t
  State.setChange s t .setChannelMap ds (some c)

/-- SET_CHANNEL_MAP (R53). -/
def serveSetChannelMap (channel map polarity : Nat) : Serve := fun _ s =>
  match channelOf channel, mapOf map, edgeOf polarity with
  | some c, some m, some p =>
    if !s.sup.calSwitch then (s, .only .calLocked)
    else if (affected (s.chanCfg c).map m).any (fun d => (s.arb d).state != .outOfService) then (s, .only .wrongState)
    else if (s.chanCfg c).map = m ∧ (s.chanCfg c).polarity = p then (s, .ok)
    else (s.mapChannel c m p, .ok)
  | _, _, _ => (s, .only .badArgument)

def execSetChannelMap (q : Sender) (channel map polarity : Nat) (s : State) : Outcome :=
  request (.setChannelMap q channel map polarity) q (serveSetChannelMap channel map polarity) s

/-- SET_CHANNEL_LIMITS (R54). A CLAMPED answer carries both limits (DESIGN CHOICE, log 15). -/
def serveSetChannelLimits (channel low high : Nat) : Serve := fun _ s =>
  match channelOf channel with
  | none => (s, .only .badArgument)
  | some c =>
    let lo := clampNat 0 Config.countMax low
    let hi := clampNat 0 Config.countMax high
    if hi < lo then (s, .only .badArgument)
    else
      ((s.modChanCfg c fun x => { x with low := lo, high := hi }).flag .decks,
        .clamped (lo != low || hi != high) (u32 lo ++ u32 hi))

def execSetChannelLimits (q : Sender) (channel low high : Nat) (s : State) : Outcome :=
  request (.setChannelLimits q channel low high) q (serveSetChannelLimits channel low high) s

/-- The channels a channel argument names: one, or ALL (R62). -/
def channelsOf (n : Nat) : Option (List Channel) :=
  if n = Config.namedChoice then some Channel.all else (channelOf n).map fun c => [c]

/-- CLEAR_FAULTS (R62); the count answered is a u8 (DESIGN CHOICE, log 15). -/
def serveClearFaults (channel scope : Nat) : Serve := fun _ s =>
  match channelsOf channel, scopeOf scope with
  | some cs, some count =>
    let held := cs.filter fun c => (s.chan c).latch != {}
    let changed := !held.isEmpty || (count && cs.any fun c => (s.chan c).faults != 0)
    ((s.modChans cs fun w => { w with latch := {}, faults := if count then 0 else w.faults }).flagIf changed .decks,
      .ok (u8 held.length))
  | _, _ => (s, .only .badArgument)

def execClearFaults (q : Sender) (channel scope : Nat) (s : State) : Outcome :=
  request (.clearFaults q channel scope) q (serveClearFaults channel scope) s

/-- What READ_CHANNELS gives of a deck (R63). A deck in the gap after a SHORT close is shown as running windows, by the yard
mode alone (R56; DESIGN CHOICE, log 10). -/
def State.deckWindows (s : State) (d : Deck) : List Byte :=
  u16 (s.windowLength d) ++ boolean (s.win d).runs
    ++ optional (fun w : ClosedWindow => u32 w.number ++ tickMarkByte w.timing ++ windowStatusByte w.status) (s.win d).last

/-- What READ_CHANNELS gives of a channel (R63). -/
def State.channelLine (s : State) (c : Channel) : List Byte :=
  mapByte (s.chanCfg c).map ++ edgeByte (s.chanCfg c).polarity ++ u32 (s.chanCfg c).low ++ u32 (s.chanCfg c).high
    ++ optional (fun x : LastCount => u32 x.count ++ boolean x.cause.isNone ++ optional countCauseByte x.cause) (s.chan c).last
    ++ causeSet (s.chan c).latch ++ u16 (s.chan c).faults

/-- READ_CHANNELS (R63). -/
def serveReadChannels (deck : Nat) : Serve := fun _ s =>
  let base := u48 s.ms ++ tickMarkByte s.tickSource
  if deck = Config.namedChoice then
    (s, .ok (base ++ items s.deckWindows Deck.all ++ items s.channelLine Channel.all))
  else
    match deckOf deck with
    | none => (s, .only .badArgument)
    | some d => (s, .ok (base ++ items s.deckWindows [d] ++ items s.channelLine (s.channelSet d)))

def execReadChannels (q : Sender) (deck : Nat) (s : State) : Outcome :=
  request (.readChannels q deck) q (serveReadChannels deck) s

def execWindowClose (d : Deck) (s : State) : Outcome := event (.windowClose d) (fun s => s.windowClose d) s

/-- A converter edge (R55): a mapped channel whose deck has a window open counts the edge of its polarity; at 262,143
the count saturates and the channel is marked (log 17). -/
def State.converterEdge (s : State) (c : Channel) (e : Edge) : State :=
  match (s.chanCfg c).map with
  | none => s
  | some d =>
    if (s.win d).current.isNone ∨ (s.chanCfg c).polarity ≠ e then s
    else
      s.modChan c fun w =>
        match w.running with
        | none => w
        | some n =>
          if n + 1 < Config.countMax then { w with running := some (n + 1) }
          else { w with running := some Config.countMax, saturated := true }

def execConverterEdge (c : Channel) (e : Edge) (s : State) : Outcome :=
  event (.converterEdge c e) (fun s => s.converterEdge c e) s

end Sys2Proof.Machine
end

