-- ==== Sys2Proof/Machine/Lanes.lean ====
section
/-! DEFINITION. The conditioners, the lane controllers and the signal heads: their events and the requests they serve
(R125 to R147). -/

namespace Sys2Proof.Machine

/-! ### Conditioners -/

/-- The debounced state a raw state stands for. -/
def debouncedOf (active : Bool) : Debounced := if active then .active else .clear

/-- A conditioner at a yard tick that reads its raw state (R126); on the first tick after a main reset, and where the tick
is the first to read through a new configuration (R128), the run stands at 0 toward the raw state read. -/
def ConditionerWork.tick (w : ConditionerWork) (raw first : Bool) : ConditionerWork :=
  let v := { w with raw := raw, fresh := false }
  if first then { v with run := some 0 }
  else if w.debounced = debouncedOf raw then { v with run := none }
  else
    match w.run with
    | none => { v with run := some 0 }
    | some n => { v with run := some (if raw = w.raw ∧ w.fresh = false then n + 1 else 0) }

/-- The deliveries of an edge of an input to the blocks that read it (R127). The arbiter takes an edge of an end beam as the
judgement of its deck-empty condition (R121); CLEAR_TAILGATE reads the beams when it is taken. -/
def edgeReaders (i : Input) (e : Edge) : List Instr :=
  match i with
  | .stop l => [.stopLoopEdge l e]
  | .boom b =>
      [if b.isEntry then .entryLoopEdgeAtArbiter b.deck e else .exitLoopEdgeAtArbiter b.deck e, .barrierLoopEdge b e,
        .positioningEdge b.deck i e]
  | .beam1 d => [.positioningEdge d i e, .deckEmpty d]
  | .beam2 d => [.positioningEdge d i e, .deckEmpty d]

/-- A run timer has reached its debounce time: the debounced state takes the raw state and an edge is delivered
(R126). A run begun under an earlier configuration reaches no edge: the next tick replaces or drops it (R128, log 32). -/
def State.conditionerEdge (s : State) (i : Input) : State :=
  if (s.inp i).fresh = false ∧ (s.inp i).run.any (fun n => (s.inpCfg i).debounce ≤ n) then
    (s.modInp i fun w => { w with debounced := debouncedOf w.raw, run := none }).raise
      (edgeReaders i (if (s.inp i).raw then .rising else .falling))
  else s

def execConditionerEdge (i : Input) (s : State) : Outcome :=
  event (.conditionerEdge i) (fun s => s.conditionerEdge i) s

/-- A conditioner polarity: `true` for INVERTED (R125). -/
def invertedOf : Nat → Option Bool
  | 0 => some false
  | 1 => some true
  | _ => none

/-- Whether an input may be reconfigured: its lane in MAINTENANCE, or its deck OUT_OF_SERVICE (R128). -/
def State.inputFree (s : State) : Input → Bool
  | .stop l => (s.lane l).state == .maintenance
  | .boom b => (s.arb b.deck).state == .outOfService
  | .beam1 d => (s.arb d).state == .outOfService
  | .beam2 d => (s.arb d).state == .outOfService

/-- The flag a change of an input's configuration sets (R128). -/
def inputFlag : Input → Flag
  | .stop _ => .lanes
  | .boom _ => .decks
  | .beam1 _ => .decks
  | .beam2 _ => .decks

/-- SET_CONDITIONER (R128): a run in progress stays until the next tick, which reads the raw state through the new
polarity and replaces or drops it. -/
def serveSetConditioner (input polarity debounce : Nat) : Serve := fun _ s =>
  match inputOf input, invertedOf polarity with
  | some i, some p =>
    if !s.inputFree i then (s, .only .wrongState)
    else
      let v := clampNat 10 500 debounce
      (((s.modInpCfg i fun _ => { inverted := p, debounce := v }).modInp i fun w => { w with fresh := true }).flag
        (inputFlag i), .clamped (v != debounce) (u32 v))
  | _, _ => (s, .only .badArgument)

def execSetConditioner (q : Sender) (input polarity debounce : Nat) (s : State) : Outcome :=
  request (.setConditioner q input polarity debounce) q (serveSetConditioner input polarity debounce) s

/-- A conditioner's configuration and working state (R125). -/
def State.inputLine (s : State) (i : Input) : List Byte :=
  u8 (if (s.inpCfg i).inverted then 1 else 0) ++ u32 (s.inpCfg i).debounce ++ u8 (if (s.inp i).raw then 0 else 1)
    ++ debouncedByte (s.inp i).debounced ++ optional u32 (s.inp i).run

/-- READ_INPUTS (R128). -/
def serveReadInputs : Serve := fun _ s => (s, .ok (items s.inputLine Input.all))

def execReadInputs (q : Sender) (s : State) : Outcome := request (.readInputs q) q serveReadInputs s

/-! ### Lane events -/

/-- The decks at which a lane's request stands filed. -/
def LaneFiling.decks (r : LaneFiling) : List Deck := Deck.all.filter r.filed.get

/-- A lane without its request, grant and absence timer, in a state. -/
def LaneWork.rest (w : LaneWork) (st : LaneState) : LaneWork :=
  { w with state := st, request := none, grant := none, absence := none }

/-- An edge of a stop loop (R131). -/
def State.stopLoopEdge (s : State) (l : Lane) (e : Edge) : State :=
  match (s.lane l).state, e with
  | .idle, .rising => s.changeLane l fun w => { w with state := .present }
  | .present, .falling => s.changeLane l fun w => { w with state := .idle }
  | .waiting, .rising => s.modLane l fun w => { w with absence := none }
  | .waiting, .falling => s.modLane l fun w => { w with absence := loadAbsence (s.laneCfg l) }
  | .fault, .falling => s.changeLane l fun w => { w with state := .idle }
  | .idle, .falling => s
  | .present, .rising => s
  | .go, _ => s
  | .maintenance, _ => s
  | .fault, .rising => s

def execStopLoopEdge (l : Lane) (e : Edge) (s : State) : Outcome :=
  event (.stopLoopEdge l e) (fun s => s.stopLoopEdge l e) s

/-- The stuck timer has reached 0 (R132). -/
def State.stuckExpiry (s : State) (l : Lane) : State :=
  if (s.lane l).state = .present ∧ (s.lane l).stuck = some 0 then s.changeLane l fun w => { w with state := .fault } else s

def execStuckTimerExpiry (l : Lane) (s : State) : Outcome :=
  event (.stuckTimerExpiry l) (fun s => s.stuckExpiry l) s

/-- A lane takes a filing order (R133). -/
def State.filingOrder (s : State) (l : Lane) (number : Nat) (kind : FilingKind) (priority : Nat) : State :=
  let feed := (s.laneCfg l).feed
  let file : State :=
    (s.changeLane l fun w =>
      { w with state := .waiting
               request := some { number := number, kind := kind, priority := priority, filed := ⟨feed.has .a, feed.has .b⟩ }
               absence := if s.loopActive l then none else loadAbsence (s.laneCfg l) }).raise
      (feed.decks.map fun d => .filing d l number kind priority)
  match (s.lane l).state with
  | .idle => file
  | .present => file
  | .fault => file
  | .waiting => s.raise [.withdrawalReport number .cancel]
  | .go => s.raise [.withdrawalReport number .cancel]
  | .maintenance => s.raise [.withdrawalReport number .cancel]

def execFilingOrder (l : Lane) (number : Nat) (kind : FilingKind) (priority : Nat) (s : State) : Outcome :=
  event (.filingOrder l number kind priority) (fun s => s.filingOrder l number kind priority) s

/-- Whether a lane is WAITING with its stop loop not ACTIVE, which is while its absence timer counts and may run out
(R134); UNKNOWN is not ACTIVE. -/
def LaneWork.offLoop (w : LaneWork) (active : Bool) : Bool := w.state == .waiting && !active

/-- The absence timer has reached 0 (R134). One that reached it before the loop became ACTIVE does not run out while the
loop is ACTIVE and the lane has yet to take the rising edge that drops it (DESIGN CHOICE, log 41). -/
def State.absenceExpiry (s : State) (l : Lane) : State :=
  match (s.lane l).request with
  | none => s
  | some r =>
    if (s.lane l).offLoop (s.loopActive l) ∧ (s.lane l).absence = some 0 then
      (s.changeLane l fun w => w.rest .idle).raise
        (r.decks.map (fun d => .withdrawal d l) ++ [.withdrawalReport r.number .absence])
    else s

def execAbsenceTimerExpiry (l : Lane) (s : State) : Outcome :=
  event (.absenceTimerExpiry l) (fun s => s.absenceExpiry l) s

/-- A lane takes a cancel order (R135). -/
def State.cancelOrder (s : State) (l : Lane) (number : Nat) : State :=
  match (s.lane l).request with
  | none => s
  | some r =>
    let leave := fun (ds : List Deck) =>
      (s.changeLane l fun w => w.rest (s.byLoop l)).raise
        (ds.map (fun d => .withdrawal d l) ++ [.withdrawalReport number .cancel])
    if r.number ≠ number then s
    else
      match (s.lane l).state with
      | .waiting => leave r.decks
      | .go => leave (s.lane l).grant.toList
      | .idle => s
      | .present => s
      | .maintenance => s
      | .fault => s

def execCancelOrder (l : Lane) (number : Nat) (s : State) : Outcome :=
  event (.cancelOrder l number) (fun s => s.cancelOrder l number) s

/-- Whether a lane accepts an offer (R113, R136). -/
def LaneWork.accepts (w : LaneWork) (d : Deck) (number : Nat) : Bool :=
  w.state == .waiting && w.request.any fun r => r.number == number && r.filed.get d

/-- A lane takes an offer (R136). -/
def State.offerAtLane (s : State) (l : Lane) (d : Deck) (number : Nat) : State :=
  if (s.lane l).accepts d number then
    let both := (s.lane l).request.any fun r => r.filed.get (Deck.other d)
    (s.changeLane l fun w =>
      { w with state := .go, absence := none, grant := some d
               request := w.request.map fun r => { r with filed := r.filed.mod (Deck.other d) fun _ => false } }).raise
      (.acceptance d l number :: if both then [.withdrawal (Deck.other d) l] else [])
  else s.raise [.decline d l number]

def execOfferAtLane (l : Lane) (d : Deck) (number : Nat) (s : State) : Outcome :=
  event (.offerAtLane l d number) (fun s => s.offerAtLane l d number) s

/-- A lane is told that its grant is withdrawn (R137). -/
def State.grantWithdrawn (s : State) (l : Lane) (d : Deck) (number : Nat) (cause : WithdrawCause) : State :=
  if (s.lane l).state = .go ∧ (s.lane l).grant = some d then
    (s.changeLane l fun w => w.rest (s.byLoop l)).raise
      [.withdrawalReport (((s.lane l).request.map LaneFiling.number).getD number) cause]
  else s

def execGrantWithdrawnAtLane (l : Lane) (d : Deck) (number : Nat) (cause : WithdrawCause) (s : State) : Outcome :=
  event (.grantWithdrawnAtLane l d number cause) (fun s => s.grantWithdrawn l d number cause) s

/-- A lane takes the entry passage report (R138). -/
def State.entryPassageAtLane (s : State) (l : Lane) (d : Deck) : State :=
  if (s.lane l).state = .go ∧ (s.lane l).grant = some d then s.changeLane l fun w => w.rest (s.byLoop l) else s

def execEntryPassageAtLane (l : Lane) (d : Deck) (number : Nat) (s : State) : Outcome :=
  event (.entryPassageAtLane l d number) (fun s => s.entryPassageAtLane l d) s

/-- Rewrites the working state of one lamp. -/
def State.modLamp (s : State) (l : Lane) (k : Lamp) (f : LampWork → LampWork) : State :=
  s.modLane l fun w => { w with lamps := Bank.mod w.lamps k f }

/-- The stretch timer has reached 0 (R146). -/
def execStretchTimerExpiry (l : Lane) (k : Lamp) (s : State) : Outcome :=
  event (.stretchTimerExpiry l k)
    (fun s => s.modLamp l k fun w => if w.stretch = some 0 then { w with stretch := none } else w) s

/-! ### Lane requests -/

/-- SET_LANE_TIMERS (R130). -/
def serveSetLaneTimers (lane absence stuck : Nat) : Serve := fun _ s =>
  match laneOf lane with
  | none => (s, .only .badArgument)
  | some l =>
    let a := clampNat 1 30 absence
    let k := clampNat 30 600 stuck
    (s.modLaneCfg l fun c => { c with absence := a, stuck := k }, .clamped (a != absence || k != stuck) (u32 a ++ u32 k))

def execSetLaneTimers (q : Sender) (lane absence stuck : Nat) (s : State) : Outcome :=
  request (.setLaneTimers q lane absence stuck) q (serveSetLaneTimers lane absence stuck) s

/-- A WAITING lane brings its filings into line with a new feed (R139). -/
def State.realign (s : State) (l : Lane) (r : LaneFiling) (f : Feed) : State :=
  (s.modLane l fun w => { w with request := some { r with filed := ⟨f.has .a, f.has .b⟩ } }).raise
    (Deck.all.flatMap fun d =>
      if r.filed.get d && !f.has d then [.withdrawal d l]
      else if f.has d && !r.filed.get d then [.filing d l r.number r.kind r.priority]
      else [])

/-- SET_LANE_FEED (R139). -/
def serveSetLaneFeed (lane feed : Nat) : Serve := fun _ s =>
  match laneOf lane, feedOf feed with
  | some l, some f =>
    if (s.lane l).state = .go then (s, .only .wrongState)
    else if (s.laneCfg l).feed = f then (s, .ok)
    else
      let t := s.modLaneCfg l fun c => { c with feed := f }
      match (s.lane l).state, (s.lane l).request with
      | .waiting, some r => (t.realign l r f, .ok)
      | _, _ => (t, .ok)
  | _, _ => (s, .only .badArgument)

def execSetLaneFeed (q : Sender) (lane feed : Nat) (s : State) : Outcome :=
  request (.setLaneFeed q lane feed) q (serveSetLaneFeed lane feed) s

/-- SET_LANE_MODE (R141): MAINTENANCE is the first value, NORMAL the second. -/
def serveSetLaneMode (lane mode : Nat) : Serve := fun _ s =>
  match laneOf lane, switchOf mode with
  | some l, some true =>
    match (s.lane l).state with
    | .idle => (s.changeLane l fun w => { w with state := .maintenance }, .ok)
    | .present => (s.changeLane l fun w => { w with state := .maintenance }, .ok)
    | .maintenance => (s, .ok)
    | .waiting => (s, .only .wrongState)
    | .go => (s, .only .wrongState)
    | .fault => (s, .only .wrongState)
  | some l, some false =>
    if (s.lane l).state = .maintenance then (s.changeLane l fun w => { w with state := s.byLoop l }, .ok)
    else (s, .only .wrongState)
  | _, _ => (s, .only .badArgument)

def execSetLaneMode (q : Sender) (lane mode : Nat) (s : State) : Outcome :=
  request (.setLaneMode q lane mode) q (serveSetLaneMode lane mode) s

/-- SET_LAMP (R147). -/
def serveSetLamp (lane lamp source blink stretch : Nat) : Serve := fun _ s =>
  match laneOf lane, lampOf lamp, sourceOf source, switchOf blink with
  | some l, some k, some x, some b =>
    let v := clampNat 0 2000 stretch
    (((s.modLaneCfg l fun c =>
        { c with lamps := Bank.mod c.lamps k fun _ => { source := x, blink := b, stretch := v } }).modLamp l k
          fun _ => { value := s.lampSource l x, stretch := none }).flag .lanes,
      .clamped (v != stretch) (u32 v))
  | _, _, _, _ => (s, .only .badArgument)

def execSetLamp (q : Sender) (lane lamp source blink stretch : Nat) (s : State) : Outcome :=
  request (.setLamp q lane lamp source blink stretch) q (serveSetLamp lane lamp source blink stretch) s

/-- SET_SIGNAL_HEAD (R147). -/
def serveSetSignalHead (lane period : Nat) : Serve := fun _ s =>
  match laneOf lane with
  | none => (s, .only .badArgument)
  | some l =>
    let v := clampNat 250 2000 period
    ((s.modLaneCfg l fun c => { c with blinkPeriod := v }).flag .lanes, .clamped (v != period) (u32 v))

def execSetSignalHead (q : Sender) (lane period : Nat) (s : State) : Outcome :=
  request (.setSignalHead q lane period) q (serveSetSignalHead lane period) s

/-- SET_LAMP_INVERT (R147). -/
def serveSetLampInvert (flag : Nat) : Serve := fun _ s =>
  match switchOf flag with
  | none => (s, .only .badArgument)
  | some v => ((s.modBackup fun b => { b with lampInvert := v }).flag .lanes, .ok)

def execSetLampInvert (q : Sender) (flag : Nat) (s : State) : Outcome :=
  request (.setLampInvert q flag) q (serveSetLampInvert flag) s

/-- A lane's request with its filed set, as a flag set of the decks (R142). -/
def filingBytes (r : LaneFiling) : List Byte :=
  u16 r.number ++ filingKindByte r.kind ++ u8 r.priority ++ flagSet [r.filed.a, r.filed.b]

/-- One lamp in READ_LANE (R142); the three stand as a list with its count (DESIGN CHOICE, log 15). -/
def State.lampLineBytes (s : State) (l : Lane) (k : Lamp) : List Byte :=
  let c := (s.laneCfg l).lamps.get k
  let w := (s.lane l).lamps.get k
  lampSourceByte c.source ++ switchByte c.blink ++ u32 c.stretch ++ boolean w.value ++ boolean w.stretch.isSome
    ++ u8 (if s.lampOutput l k then 0 else 1)

/-- READ_LANE (R142). -/
def serveReadLane (lane : Nat) : Serve := fun _ s =>
  match laneOf lane with
  | none => (s, .only .badArgument)
  | some l =>
    let w := s.lane l
    let c := s.laneCfg l
    (s, .ok (laneStateByte w.state ++ feedByte c.feed ++ optional filingBytes w.request ++ optional deckByte w.grant
      ++ optional u32 w.absence ++ optional u32 w.stuck ++ u32 c.absence ++ u32 c.stuck ++ u16 c.tareValidity
      ++ s.inputLine (.stop l) ++ items (s.lampLineBytes l) Lamp.all ++ u32 c.blinkPeriod
      ++ switchByte s.backup.lampInvert))

def execReadLane (q : Sender) (lane : Nat) (s : State) : Outcome := request (.readLane q lane) q (serveReadLane lane) s

end Sys2Proof.Machine
end

