-- ==== Sys2Proof/Machine/Supervisor.lean ====
section
/-! DEFINITION. The supervisor: the yard tick, the yard mode and its drain, the reference and supply monitors, and the
requests it serves (R50, R51, R169 to R178, R182 to R184). -/

namespace Sys2Proof.Machine

/-! ### The yard tick -/

/-- The clock's sub-second count at a tick (R36). -/
def Records.tick (r : Records) (m : TickMark) : Records :=
  match r.clock with
  | none => r
  | some t =>
      if t = lastSecond then r
      else { r with subSecond := r.subSecond + 1, subBackup := r.subBackup || m == .backup }

/-- A countdown at a tick. -/
def countDown (t : Option Nat) : Option Nat := t.map (· - 1)

/-- A capture's timers at a tick (R95, R96). -/
def Capture.tick (c : Capture) : Capture :=
  { c with timer := if c.paused then c.timer else c.timer - 1, leave := c.leave.map (· + 1) }

/-- An engine at a tick. -/
def Engine.tick (g : Engine) : Engine := { g with capture := g.capture.map Capture.tick }

/-- An arbiter's proceed timer at a tick (R115). -/
def Arbiter.tick (a : Arbiter) : Arbiter := { a with grant := a.grant.map fun g => { g with timer := countDown g.timer } }

/-- A lane's timers at a tick that finds its stop loop ACTIVE or not (R132, R134, R146): the absence timer counts while the
loop is not ACTIVE, and keeps its time from the moment the loop is ACTIVE until the lane takes the rising edge that drops it
(R131, log 41). -/
def LaneWork.tick (w : LaneWork) (active : Bool) : LaneWork :=
  { w with absence := if w.offLoop active then countDown w.absence else w.absence
           stuck := countDown w.stuck
           lamps := w.lamps.map fun x => { x with stretch := countDown x.stretch } }

/-- A limit run at a tick: a reading that differs from the limit state counts, any other ends the run (R151). -/
def limitRun (state reading : Bool) (run : Nat) : Nat := if reading = state then 0 else run + 1

/-- A barrier's timers and limit runs at a tick (R151, R158, R160, R165). -/
def BarrierWork.tick (w : BarrierWork) (upper lower : Bool) : BarrierWork :=
  { w with closeDelay := countDown w.closeDelay, motion := countDown w.motion, half := countDown w.half
           upperRun := limitRun w.upper upper w.upperRun, lowerRun := limitRun w.lower lower w.lowerRun }

/-- A port's timers at a tick (R199, R209). -/
def PortWork.tick (p : PortWork) : PortWork :=
  { p with quiet := countDown p.quiet
           receiver := match p.receiver with
             | .hunting => .hunting
             | .collecting bs g => .collecting bs (g + 1) }

/-- Whether a tick's reference edges make it a good tick (R175). -/
def goodTick (n : Nat) : Bool := Config.goodEdgesMin ≤ n && n ≤ Config.goodEdgesMax

/-- The supervisor at a tick: the count (R51), the start timer (R176), the restore timer (R178), the calibration switch
run, or on the first tick after a main reset its state without waiting (R185), and on BACKUP ticks outside LOCKED the
qualification count (R175). -/
def Supervisor.tick (v : Supervisor) (x : Lines) : Supervisor :=
  { v with
    ms := if v.ms < Config.msMax then v.ms + 1 else v.ms
    startTimer := countDown v.startTimer
    restore := v.restore.map fun n =>
      if x.supply = .aboveRestore then (if n < Config.restoreTicks then n + 1 else n) else 0
    calSwitch := if v.firstTick then x.calSwitch else v.calSwitch
    calRun := if v.firstTick then 0 else limitRun v.calSwitch x.calSwitch v.calRun
    qualification :=
      if v.monitor = .locked then v.qualification
      else if goodTick x.refEdges then
        (if v.qualification < Config.qualificationTicks then v.qualification + 1 else v.qualification)
      else 0
    firstTick := false
    lines := x }

/-- All conditioners sample their lines (R126). -/
def State.sample (s : State) (x : Lines) : State :=
  Input.all.foldl (fun t i =>
    t.modInp i fun w => w.tick (x.inputs.get i != (s.inpCfg i).inverted) s.sup.firstTick) s

/-- A window at a tick: a BACKUP tick marks it (R59). -/
def WindowWork.tick (w : WindowWork) (m : TickMark) : WindowWork :=
  { w with current := w.current.map fun o => { o with backup := o.backup || m == .backup } }

/-- On the first tick after a main reset a barrier takes its limit states from the levels read, without waiting (R151);
where they are not those it was placed by, it is placed by them (R168). -/
def State.firstLimits (s : State) (x : Lines) (b : Barrier) : State :=
  if (s.bar b).upper = x.upper.get b ∧ (s.bar b).lower = x.lower.get b then s
  else
    (s.modBar b fun w => { w with upper := x.upper.get b, lower := x.lower.get b, upperRun := 0, lowerRun := 0 }).place b

/-- One yard tick with a mark and the lines it finds (R50): every timer and count, the samples, and the opening of windows
at their boundaries (R56). What falls due at the tick is taken by its own command (log 5). -/
def State.tick (s : State) (m : TickMark) (x : Lines) : State :=
  let t := (s.modRecs fun r => r.tick m).sample x
  let t := t.modMain fun v =>
    { v with
      windows := ⟨v.windows.a.tick m, v.windows.b.tick m⟩
      engines := ⟨v.engines.a.tick, v.engines.b.tick⟩
      arbiters := ⟨v.arbiters.a.tick, v.arbiters.b.tick⟩
      lanes := Vector.ofFn fun l => (s.lane l).tick (s.loopActive l)
      barriers :=
        ⟨v.barriers.aEntry.tick x.upper.aEntry x.lower.aEntry, v.barriers.aExit.tick x.upper.aExit x.lower.aExit,
          v.barriers.bEntry.tick x.upper.bEntry x.lower.bEntry, v.barriers.bExit.tick x.upper.bExit x.lower.bExit⟩
      ports := v.ports.map PortWork.tick
      sup := v.sup.tick x }
  let t := (t.maybeOpen .a).maybeOpen .b
  if s.sup.firstTick then Barrier.all.foldl (fun t b => t.firstLimits x b) t else t

/-- YARD_TICK (R50, R51): with the main domain stopped only the yard clock counts, on the backup oscillator (R38). -/
def execYardTick (x : Lines) (s : State) : Outcome :=
  .next
    (if s.running then State.settle s ((s.consume (.yardTick x)).tick s.tickSource x)
      else (s.modRecs fun r => r.tick .backup).seal)

/-! ### The yard mode -/

/-- The readers of the yard mode, in the order of R170. -/
def modeReaders : List ModeReader :=
  .records :: .captureUnit :: Deck.all.map .engine ++ Deck.all.map .arbiter ++ Deck.all.map .entryBarrier
    ++ Lane.all.map .lane

/-- A change of yard mode: YARD_MODE is posted with its cause, and the change is delivered to every reader (R170). -/
def State.changeMode (s : State) (m : YardMode) (drain : Bool) : State :=
  ((s.modBackup fun b => { b with mode := m }).post .supervisor (.yardMode s.mode m drain)).raise
    (modeReaders.map fun r => .yardModeTaken { reader := r, mode := m })

/-- The drain condition is judged; in CLOSING the yard becomes CLOSED where it holds (R172). -/
def State.judgeDrain (s : State) : State :=
  if s.mode = .closing ∧ s.drainCondition then s.changeMode .closed true else s

/-- Whether a deck stands in the way of a forced CLOSED (R171). -/
def State.deckInUse (s : State) (d : Deck) : Bool :=
  (s.arb d).state == .granted || (s.arb d).state == .occupied || (s.arb d).offer.isSome

/-- SET_YARD_MODE (R171). -/
def serveSetYardMode (mode : Nat) : Serve := fun _ s =>
  match yardModeOf mode with
  | none => (s, .only .badArgument)
  | some m =>
    if s.mode = m then (s, .ok)
    else
      match m with
      | .open => (s.changeMode .open false, .ok)
      | .closing =>
        if s.mode = .closed then (s, .only .wrongState) else ((s.changeMode .closing false).judgeDrain, .ok)
      | .closed =>
        if Deck.all.any s.deckInUse then (s, .only .deckBusy) else (s.changeMode .closed false, .ok)

def execSetYardMode (q : Sender) (mode : Nat) (s : State) : Outcome :=
  request (.setYardMode q mode) q (serveSetYardMode mode) s

/-- DRAIN (R172). -/
def execDrain (s : State) : Outcome := event .drain State.judgeDrain s

/-- What a yard mode that the frequency capture unit takes makes of a deck (R56): in CLOSED the open window is abandoned;
else the deck runs windows. -/
def State.modeAtCapture (s : State) (d : Deck) (m : YardMode) : State :=
  if m = .closed then (s.dropCounts d).modWin d fun w => { w with runs := false, current := none }
  else if (s.win d).runs then s
  else (s.modWin d fun w => { w with runs := true }).maybeOpen d

/-- A reader takes a change of yard mode and goes by it from then on (R170): admissions and recalls are refused by it (R6,
R7), the windows of both decks are started or abandoned by the one unit that runs them (R56, log 7), the engine is turned
on or off (R80), records become eligible or not (R111), the entry permissive's condition holds or not (R152), and the
lamps judge their sources (R144). An arbiter's choice and a change of a permissive follow as commands of their own. -/
def State.modeTaken (s : State) (r : ModeReader) (m : YardMode) : State :=
  let t := s.setModeAt r m
  match r with
  | .records => t
  | .captureUnit => Deck.all.foldl (fun u d => u.modeAtCapture d m) t
  | .engine d => t.refreshEngine d none
  | .arbiter _ => t
  | .entryBarrier _ => t
  | .lane l => t.judgeLamps l

def execYardModeTaken (x : ModeDelivery) (s : State) : Outcome :=
  event (.yardModeTaken x) (fun s => s.modeTaken x.reader x.mode) s

/-! ### The reference monitor -/

/-- WATCH_EXPIRY (R174): the tick in progress ends as a BACKUP tick, and the monitor enters SUBSTITUTE. -/
def State.watchExpiry (s : State) (x : Lines) : State :=
  if s.sup.monitor ≠ .locked then s
  else
    let t := (s.tick .backup x).modSup fun v => { v with monitor := .substitute, qualification := 0 }
    t.post .supervisor (.clockSubstitute t.ms)

def execWatchExpiry (x : Lines) (s : State) : Outcome := event (.watchExpiry x) (fun s => s.watchExpiry x) s

/-- QUALIFICATION (R175, R176). -/
def State.qualify (s : State) : State :=
  if s.sup.monitor = .locked ∨ s.sup.qualification < Config.qualificationTicks then s
  else
    let t := s.modSup fun v => { v with monitor := .locked, qualification := 0, startTimer := none }
    if s.sup.monitor = .substitute then t.post .supervisor (.clockRestored s.ms) else t

def execQualification (s : State) : Outcome := event .qualification State.qualify s

/-- START_TIMER_EXPIRY (R176). -/
def State.startExpiry (s : State) : State :=
  if s.sup.monitor = .start ∧ s.sup.startTimer = some 0 then
    (s.modSup fun v => { v with monitor := .substitute, startTimer := none }).post .supervisor (.clockSubstitute s.ms)
  else s

def execStartTimerExpiry (s : State) : Outcome := event .startTimerExpiry State.startExpiry s

/-! ### The supply monitor -/

/-- The readers of the supply state (R177). -/
def supplyReaders : List SupplyReader :=
  Deck.all.map .engine ++ Deck.all.map .arbiter ++ Barrier.all.map .barrier

/-- SUPPLY_LOW (R177): the first tick that finds the supply below the warning threshold. -/
def State.enterSupplyLow (s : State) : State :=
  if s.sup.supply = .normal ∧ s.sup.lines.supply = .belowWarning then
    ((s.modSup fun v => { v with supply := .supplyLow, restore := some 0 }).post .supervisor .supplyLow).raise
      (supplyReaders.map fun r => .supplyStateTaken r .supplyLow)
  else s

def execSupplyLow (s : State) : Outcome := event .supplyLow State.enterSupplyLow s

/-- SUPPLY_RESTORED (R178). -/
def State.restoreSupply (s : State) : State :=
  if s.sup.supply = .supplyLow ∧ s.sup.restore.any (fun n => Config.restoreTicks ≤ n) then
    ((s.modSup fun v => { v with supply := .normal, restore := none }).post .supervisor .supplyRestored).raise
      (supplyReaders.map fun r => .supplyStateTaken r .normal)
  else s

def execSupplyRestored (s : State) : Outcome := event .supplyRestored State.restoreSupply s

/-- A reader takes the supply state and goes by it from then on (R177, R178): on SUPPLY_LOW an engine's capture and
collection fail, an arbiter's grant in its proceed interval is withdrawn, and a barrier's keepalive line holds; on NORMAL
the line toggles from a full half-period. The permissives, a choice and an automatic capture start follow as commands of
their own. -/
def State.supplyTaken (s : State) (r : SupplyReader) (st : SupplyState) : State :=
  let t := s.setSupplyAt r st
  match r with
  | .engine d => if st = .supplyLow then (t.failCapture d .supply).failCollection d .supply else t
  | .arbiter d => if st = .supplyLow ∧ (s.arb d).state = .granted then t.withdrawGrant d .supply else t
  | .barrier b => t.judgeKeepalive b

def execSupplyStateTaken (r : SupplyReader) (st : SupplyState) (s : State) : Outcome :=
  event (.supplyStateTaken r st) (fun s => s.supplyTaken r st) s

/-! ### Requests -/

/-- YARD_RESET (R180): the reset takes effect when the answer at the first accepting port has been sent. -/
def serveYardReset (q : Sender) : Serve := fun _ s =>
  (s.modSup fun v => { v with reset := if v.reset = .none then .accepted q.port else v.reset }, .ok)

def execYardReset (q : Sender) (s : State) : Outcome := request (.yardReset q) q (serveYardReset q) s

/-- A set of alarm sources from a flag set: none if it is empty or names a bit beyond the eight (R183). -/
def sourcesOf (n : Nat) : Option SourceSet :=
  if n = 0 ∨ 256 ≤ n then none
  else
    some { barrierFault := n.testBit 0, channelFault := n.testBit 1, clockSubstitute := n.testBit 2
           supplyLow := n.testBit 3, zeroLimit := n.testBit 4, logNearFull := n.testBit 5, tailgate := n.testBit 6
           closurePending := n.testBit 7 }

/-- The sources of either set. -/
def SourceSet.plus (x m : SourceSet) : SourceSet :=
  { barrierFault := x.barrierFault || m.barrierFault
    channelFault := x.channelFault || m.channelFault
    clockSubstitute := x.clockSubstitute || m.clockSubstitute
    supplyLow := x.supplyLow || m.supplyLow
    zeroLimit := x.zeroLimit || m.zeroLimit
    logNearFull := x.logNearFull || m.logNearFull
    tailgate := x.tailgate || m.tailgate
    closurePending := x.closurePending || m.closurePending }

/-- SET_ALARM_MASK (R183): MASKED is the first setting, UNMASKED the second. -/
def serveSetAlarmMask (sources setting : Nat) : Serve := fun _ s =>
  match sourcesOf sources, switchOf setting with
  | some x, some masked =>
    let m := if masked then s.backup.mask.plus x else s.backup.mask.minus x
    (s.modBackup fun b => { b with mask := m }, .ok (sourceSet m))
  | _, _ => (s, .only .badArgument)

def execSetAlarmMask (q : Sender) (sources setting : Nat) (s : State) : Outcome :=
  request (.setAlarmMask q sources setting) q (serveSetAlarmMask sources setting) s

/-- READ_SUPERVISOR (R184): the drain condition is an optional, absent unless the yard is CLOSING, and the sources that are
true and those that are MASKED are one flag set each (DESIGN CHOICE, log 15). -/
def serveReadSupervisor : Serve := fun _ s =>
  (s, .ok (yardModeByte s.mode ++ optional boolean (if s.mode = .closing then some s.drainCondition else none)
    ++ monitorByte s.sup.monitor ++ tickMarkByte s.tickSource ++ u16 s.sup.qualification
    ++ optional u32 s.sup.startTimer ++ supplyByte s.sup.supply ++ optional u32 s.sup.restore
    ++ resetCauseByte s.sup.cause ++ u48 s.ms ++ sourceSet s.sources ++ sourceSet s.backup.mask
    ++ u8 (if s.sup.alarm then 0 else 1)))

def execReadSupervisor (q : Sender) (s : State) : Outcome := request (.readSupervisor q) q serveReadSupervisor s

end Sys2Proof.Machine
end

