-- ==== Sys2Proof/Machine/YardTable.lean ====
section
/-! DEFINITION. The commands of the yard table: IDENTIFY, the reads, the console's record requests, and the reports
that reach the records (R4 to R11, R16 to R24, R34). -/

namespace Sys2Proof.Machine

/-! ### Admission and recall -/

/-- The clamped priority of an IDENTIFY: at most 1 from a kiosk and 3 from a console (R5). -/
def clampPriority (role : Role) (p : Nat) : Nat :=
  match role with
  | .kiosk => clampNat 0 1 p
  | .none => clampNat 0 3 p
  | .office => clampNat 0 3 p
  | .console => clampNat 0 3 p

/-- The first test an admission fails (R6); the records go by the yard mode they last took (R170). -/
def State.admissionRefusal (s : State) (l : Lane) (p : Plate) (m : Mode) : Option AnswerCode :=
  if (s.lane l).state ≠ .present then some .noVehicle
  else if s.modeAt .records = .closing then some .yardClosing
  else if s.modeAt .records = .closed then some .yardClosed
  else if Config.tableMax ≤ s.recs.entries.length then some .tableFull
  else if s.recs.clock.isNone then some .clockUnset
  else if m = .storedTare ∧ (s.recs.tareOf p).all (fun t => t.standing s.recs.today != .valid) then some .tareInvalid
  else if m = .tareOnly ∧ s.recs.tareRoom p = false then some .tareFull
  else none

/-- The entry an admission creates (R6); the clock is set, as R6 tested. -/
def admittedEntry (r : Records) (l : Lane) (p : Plate) (tag : Option Nat) (m : Mode) (account material priority : Nat)
    (now : DateTime) : Entry :=
  { number := allocate r.entries 96 r.lastNumber
    plate := p, tag := tag, account := account, mode := m, state := .admitted, hold := none, interrupted := false
    closurePending := false, cancelling := false, blocked := none
    request := some { lane := l, priority := priority }
    recallIntent := none, pass := none, departure := none, weighings := [], lines := [material]
    snapshot := if m = .storedTare then
        (r.tareOf p).map fun t => { weight := t.weight, cls := t.cls, stored := t.stored }
      else none
    admitted := now }

/-- The answer of an accepted IDENTIFY: the number, ADMITTED or RECALLED, and a clamped priority (R5, R206). The two are
carried as 00h and 01h, the order in which R5 names them, and the clamped priority stands behind them (DESIGN CHOICE,
log 15). -/
def identifyReply (n kind priority : Nat) (clamped : Bool) : Reply :=
  if clamped then { code := .clamped, payload := u16 n ++ u8 kind ++ u8 priority } else .ok (u16 n ++ u8 kind)

/-- An admission (R6). -/
def State.admission (s : State) (l : Lane) (p : Plate) (tag : Option Nat) (m : Mode) (account material priority : Nat)
    (clamped : Bool) : State × Reply :=
  match s.admissionRefusal l p m with
  | some code => (s, .only code)
  | none =>
    match s.recs.clock with
    | none => (s, .only .clockUnset)
    | some now =>
      let e := admittedEntry s.recs l p tag m account material priority now
      (((s.modRecs fun r => { r with entries := r.entries ++ [e], lastNumber := e.number }).raise
          [.filingOrder l e.number .admission priority]),
        identifyReply e.number 0 priority clamped)

/-- The state an entry may be recalled from (R7). -/
def recallOrigin : EntryState → Option Origin
  | .inYard => some .inYard
  | .quarantine => some .quarantine
  | .admitted => none
  | .onDeck => none
  | .recalled => none

/-- The state a withdrawn recall returns to (R8). -/
def Origin.state : Origin → EntryState
  | .inYard => .inYard
  | .quarantine => .quarantine

/-- The first test a recall fails (R7); the records go by the yard mode they last took (R170). -/
def State.recallRefusal (s : State) (l : Lane) (e : Entry) (i : Intent) : Option AnswerCode :=
  if (s.lane l).state ≠ .present then some .noVehicle
  else if s.modeAt .records = .closed then some .yardClosed
  else if (recallOrigin e.state).isNone ∨ e.closurePending then some .wrongState
  else if e.mode ≠ .twoPass ∧ i ≠ .final then some .badArgument
  else if i = .final ∧ e.hold.isSome then some .held
  else if i ≠ .final ∧ Config.linesMax ≤ e.lines.length then some .linesFull
  else none

/-- A recall (R7). -/
def State.recallEntry (s : State) (l : Lane) (e : Entry) (tag : Option Nat) (i : Intent) (priority : Nat)
    (clamped : Bool) : State × Reply :=
  match s.recallRefusal l e i, recallOrigin e.state with
  | some code, _ => (s, .only code)
  | none, none => (s, .only .wrongState)
  | none, some o =>
      ((s.modEntry e.number fun e =>
          { e with state := .recalled, request := some { lane := l, priority := priority }
                   recallIntent := some { intent := i, origin := o }, tag := e.tag <|> tag }).raise
          [.filingOrder l e.number .recall priority],
        identifyReply e.number 1 priority clamped)

/-- The lane an IDENTIFY acts for: a kiosk's binding, or the lane a console names (R140). -/
def State.identifyLane (s : State) (role : Role) (q : Sender) (lane : Nat) : Lane ⊕ AnswerCode :=
  match role with
  | .kiosk =>
    match (s.portCfg q.port).binding with
    | some l => .inl l
    | none => .inr .notBound
  | .none | .office | .console =>
    match laneOf lane with
    | some l => .inl l
    | none => .inr .badArgument

/-- IDENTIFY (R5 to R7, R140). -/
def serveIdentify (q : Sender) (lane : Nat) (plate : List Byte) (tag : Option Nat)
    (mode account material intent priority : Nat) : Serve := fun role s =>
  match s.identifyLane role q lane with
  | .inr code => (s, .only code)
  | .inl l =>
    match modeOf mode, intentOf material intent with
    | some m, some i =>
      if !plateOk (trimPlate plate) || !accountOk account || !materialOk material then (s, .only .badArgument)
      else
        let pr := clampPriority role priority
        match s.recs.findPlate (trimPlate plate) with
        | none => s.admission l (trimPlate plate) tag m account material pr (pr != priority)
        | some e => s.recallEntry l e tag i pr (pr != priority)
    | _, _ => (s, .only .badArgument)

def execIdentify (q : Sender) (lane : Nat) (plate : List Byte) (tag : Option Nat)
    (mode account material intent priority : Nat) (s : State) : Outcome :=
  request (.identify q lane plate tag mode account material intent priority) q
    (serveIdentify q lane plate tag mode account material intent priority) s

/-! ### Reads (R4) -/

/-- LIST_YARD. -/
def serveListYard : Serve := fun _ s => (s, .ok (items entryLine s.recs.entries))

def execListYard (q : Sender) (s : State) : Outcome := request (.listYard q) q serveListYard s

/-- READ_TRANSACTION. -/
def serveReadTransaction (number : Nat) : Serve := fun _ s =>
  match s.recs.find number with
  | none => (s, .only .notFound)
  | some e => (s, .ok (entryBytes e))

def execReadTransaction (q : Sender) (number : Nat) (s : State) : Outcome :=
  request (.readTransaction q number) q (serveReadTransaction number) s

/-- FIND_PLATE. -/
def serveFindPlate (plate : List Byte) : Serve := fun _ s =>
  match s.recs.findPlate (trimPlate plate) with
  | none => (s, .only .notFound)
  | some e => (s, .ok (u16 e.number))

def execFindPlate (q : Sender) (plate : List Byte) (s : State) : Outcome :=
  request (.findPlate q plate) q (serveFindPlate plate) s

/-! ### The console's record requests (R16) -/

/-- A record request: a number no entry holds, or a finished entry, is answered NOT_FOUND (R16). -/
def onEntry (number : Nat) (f : Entry → State → State × Reply) : Serve := fun _ s =>
  match s.recs.find number with
  | none => (s, .only .notFound)
  | some e => if e.finished then (s, .only .notFound) else f e s

/-- HOLD (R17). -/
def serveHold (q : Sender) (number reason : Nat) : Serve := onEntry number fun _ s =>
  if holdReasonOk reason then
    (s.modEntry number fun e => { e with hold := some { reason := reason, port := q.port } }, .ok)
  else (s, .only .badArgument)

def execHold (q : Sender) (number reason : Nat) (s : State) : Outcome :=
  request (.hold q number reason) q (serveHold q number reason) s

/-- RELEASE_HOLD (R18): an accepted one is a retry event (R14). -/
def serveReleaseHold (number : Nat) : Serve := onEntry number fun e s =>
  if e.hold.isNone then (s, .only .wrongState)
  else ((s.modEntry number fun e => { e with hold := none }).retry, .ok)

def execReleaseHold (q : Sender) (number : Nat) (s : State) : Outcome :=
  request (.releaseHold q number) q (serveReleaseHold number) s

/-- Whether a recall intent is SPLIT, so that the line one beyond the list names its next material (R19). -/
def Entry.splitting (e : Entry) : Bool :=
  match e.recallIntent with
  | some { intent := .split _, origin := _ } => true
  | some { intent := .final, origin := _ } => false
  | none => false

/-- Whether an AMEND line index names a material of the entry (R19). -/
def Entry.lineOk (e : Entry) (i : Nat) : Bool :=
  1 ≤ i && (i ≤ e.lines.length || (e.state == .recalled && e.splitting && i == e.lines.length + 1))

/-- Replaces the material a line index names (R19). -/
def Entry.amendLine (e : Entry) (i m : Nat) : Entry :=
  if i ≤ e.lines.length then { e with lines := e.lines.set (i - 1) m }
  else { e with recallIntent := e.recallIntent.map fun r => { r with intent := .split m } }

/-- AMEND (R19). -/
def serveAmend (number : Nat) (account : Option Nat) (line : Option (Nat × Nat)) : Serve := onEntry number fun e s =>
  if e.state = .onDeck then (s, .only .wrongState)
  else if (account.isNone && line.isNone) || !account.all accountOk || !line.all (fun p => materialOk p.2)
      || !line.all (fun p => e.lineOk p.1) then (s, .only .badArgument)
  else
    (s.modEntry number fun e =>
      let e := { e with account := account.getD e.account }
      match line with
      | some p => e.amendLine p.1 p.2
      | none => e, .ok)

def execAmend (q : Sender) (number : Nat) (account : Option Nat) (line : Option (Nat × Nat)) (s : State) : Outcome :=
  request (.amend q number account line) q (serveAmend number account line) s

/-- The cancel of an ON_DECK entry: departure DISCHARGED, the release if none was given before, and an abort to the
engine while the pass is not DONE (R20). -/
def State.cancelOnDeck (s : State) (e : Entry) : State :=
  let s := s.modEntry e.number fun e =>
    { e with departure := some .discharged, closurePending := false, blocked := none, cancelling := false }
  match e.pass with
  | none => s
  | some p =>
      let s := if e.departure.isNone then s.giveRelease p.deck (some e.number) else s
      if p.status = .done then s else s.raise [.recordsAbort p.deck e.number]

/-- CANCEL_TRANSACTION (R20). -/
def serveCancel (number : Nat) : Serve := onEntry number fun e s =>
  match e.state with
  | .inYard => (s.dropEntry number, .ok)
  | .quarantine => (s.dropEntry number, .ok)
  | .onDeck => (s.cancelOnDeck e, .ok)
  | .admitted | .recalled =>
      if e.cancelling then (s, .only .wrongState)
      else
        let s := s.modEntry number fun e => { e with cancelling := true }
        match e.request with
        | some r => (s.raise [.cancelOrder r.lane number], .ok)
        | none => (s, .ok)

def execCancelTransaction (q : Sender) (number : Nat) (s : State) : Outcome :=
  request (.cancelTransaction q number) q (serveCancel number) s

/-- Whether a capture is in flight on the deck of an entry's pass (R22, R24). -/
def State.capturing (s : State) (e : Entry) : Bool := e.passDeck.any fun d => (s.eng d).capture.isSome

/-- QUARANTINE (R22). -/
def serveQuarantine (number : Nat) : Serve := onEntry number fun e s =>
  if e.state ≠ .onDeck then (s, .only .wrongState)
  else if s.capturing e then (s, .only .deckBusy)
  else if e.departure = some .toQuarantine then (s, .only .wrongState)
  else
    let s := s.modEntry number fun e => { e with departure := some .toQuarantine }
    match e.departure, e.passDeck with
    | none, some d => (s.giveRelease d (some number), .ok)
    | _, _ => (s, .ok)

def execQuarantine (q : Sender) (number : Nat) (s : State) : Outcome :=
  request (.quarantine q number) q (serveQuarantine number) s

/-- The answer code of a failed closure condition (R23). -/
def BlockReason.code : BlockReason → AnswerCode
  | .held => .held
  | .ticketUnset => .ticketUnset
  | .clockUnset => .clockUnset
  | .logFull => .logFull

/-- CLOSE (R23). -/
def serveClose (number : Nat) : Serve := onEntry number fun e s =>
  if e.state ≠ .quarantine then (s, .only .wrongState)
  else if !e.closurePending then (s, .only .incomplete)
  else
    match s.recs.closureBlock e with
    | some r => (s, .only r.code)
    | none => ((s.issue e.content).dropEntry number, .ok (u32 s.recs.nextTicket))

def execClose (q : Sender) (number : Nat) (s : State) : Outcome := request (.close q number) q (serveClose number) s

/-- FORCE_EXIT (R24). -/
def serveForceExit (number : Nat) : Serve := onEntry number fun e s =>
  if e.state ≠ .onDeck ∨ e.departure.isSome then (s, .only .wrongState)
  else if s.capturing e then (s, .only .deckBusy)
  else
    let s := s.modEntry number fun e =>
      { e with departure := some (if e.weighings.isEmpty then .discharged else .toYard) }
    match e.passDeck with
    | some d => ((s.giveRelease d (some number)).raise [.forceExitNoticeAtArbiter d number], .ok)
    | none => (s, .ok)

def execForceExit (q : Sender) (number : Nat) (s : State) : Outcome :=
  request (.forceExit q number) q (serveForceExit number) s

/-! ### Reports -/

/-- The records take a lane's withdrawal report (R8); the cause makes no difference to the table. -/
def State.withdrawalReport (s : State) (number : Nat) : State :=
  match s.recs.find number with
  | none => s
  | some e =>
    match e.state with
    | .admitted => s.dropEntry number
    | .recalled =>
        if e.cancelling then s.dropEntry number
        else
          s.modEntry number fun e =>
            { e with state := (e.recallIntent.map fun r => r.origin.state).getD .inYard
                     recallIntent := none, request := none }
    | .onDeck => s
    | .inYard => s
    | .quarantine => s

def execWithdrawalReport (number : Nat) (cause : WithdrawCause) (s : State) : Outcome :=
  event (.withdrawalReport number cause) (fun s => s.withdrawalReport number) s

/-- The purpose of a pass (R9). -/
def Entry.purpose (e : Entry) : Purpose :=
  match e.mode with
  | .tareOnly => .tare
  | .storedTare => .gross
  | .twoPass =>
    if e.weighings.isEmpty then .first
    else
      match e.recallIntent with
      | some { intent := .split m, origin := _ } => .split m
      | some { intent := .final, origin := _ } => .final
      | none => .final

/-- An entry that has passed onto a deck (R9). -/
def Entry.onto (e : Entry) (d : Deck) : Entry :=
  { e with state := .onDeck, request := none, recallIntent := none, interrupted := false
           pass := some { purpose := e.purpose, deck := d, status := .awaiting } }

/-- The records take an entry passage report (R9); a CANCELLING entry is cancelled at once (R20). -/
def State.entryPassageReport (s : State) (d : Deck) (number : Nat) : State :=
  match s.recs.find number with
  | none => s.giveRelease d none
  | some e =>
    if e.state = .admitted ∨ e.state = .recalled then
      let s := s.modEntry number fun e => e.onto d
      if e.cancelling then s.cancelOnDeck (e.onto d) else s
    else s.giveRelease d none

def execEntryPassageReport (d : Deck) (number : Nat) (s : State) : Outcome :=
  event (.entryPassageReport d number) (fun s => s.entryPassageReport d number) s

/-- The weighing of a capture completion, stamped with the yard clock (R10). -/
def State.weighing (s : State) (r : CaptureResult) : Weighing :=
  { weight := r.weight, cls := r.cls, division := r.division, deck := r.deck, time := s.recs.clock }

/-- Why a TARE_ONLY completion is not stored (R34), in the order in which STORE_TARE makes the same tests (log 16).
TARE_STORED is posted behind the TARE_EVICTED of the same write (DESIGN CHOICE, log 38). -/
def State.tareCompletion (s : State) (e : Entry) (r : CaptureResult) : State :=
  if r.weight < 1 ∨ Config.tareWeightMax < r.weight then s.post .records (.tareNotStored e.number e.plate .badArgument)
  else
    match s.recs.today with
    | none => s.post .records (.tareNotStored e.number e.plate .clockUnset)
    | some day =>
      let t : Tare :=
        { plate := e.plate, tag := e.tag, weight := r.weight, cls := r.cls, stored := day
          validity := (s.laneCfg r.lane).tareValidity, account := e.account }
      match s.recs.tareWrite t with
      | none => s.post .records (.tareNotStored e.number e.plate .tareFull)
      | some w => (s.applyTare w).post .records (.tareStored e.number e.plate t.weight t.cls t.expiry)

/-- What follows an appended weighing, by the purpose of the pass (R10); `e` is the entry with the weighing. -/
def State.afterWeighing (s : State) (e : Entry) (r : CaptureResult) (p : Purpose) : State :=
  match p with
  | .first => (s.modEntry e.number fun e => { e with departure := some .toYard }).giveRelease r.deck (some e.number)
  | .split m =>
      (s.modEntry e.number fun e => { e with lines := e.lines ++ [m], departure := some .toYard }).giveRelease r.deck
        (some e.number)
  | .final => s.attemptClosure e
  | .gross => s.attemptClosure e
  | .tare =>
      ((s.tareCompletion e r).modEntry e.number fun e => { e with departure := some .discharged }).giveRelease r.deck
        (some e.number)

/-- The records take a capture completion (R10). -/
def State.captureCompletion (s : State) (r : CaptureResult) : State :=
  match s.recs.find r.number with
  | none => s
  | some e =>
    match e.pass with
    | none => s
    | some p =>
      if e.state ≠ .onDeck ∨ p.deck ≠ r.deck ∨ e.departure.isSome then s
      else if p.status = .done then
        if e.closurePending then
          let e' := { e with weighings := e.weighings.dropLast ++ [s.weighing r] }
          (s.modEntry e.number fun _ => e').attemptClosure e'
        else s
      else
        let e' := { e with weighings := e.weighings ++ [s.weighing r], pass := some { p with status := .done } }
        (s.modEntry e.number fun _ => e').afterWeighing e' r p.purpose

def execRecordsCaptureCompletion (r : CaptureResult) (s : State) : Outcome :=
  event (.recordsCaptureCompletion r) (fun s => s.captureCompletion r) s

/-- An entry on which a capture failure is entered (R10). -/
def Entry.failable (e : Entry) : Bool :=
  e.state == .onDeck && e.departure.isNone && e.pass.any fun p => p.status != .done

/-- The records take a capture failure (R10). -/
def State.captureFailure (s : State) (number : Nat) (reason : FailReason) : State :=
  s.modEntry number fun e =>
    if e.failable then { e with pass := e.pass.map fun p => { p with status := .failed reason } } else e

def execRecordsCaptureFailure (d : Deck) (number : Nat) (reason : FailReason) (s : State) : Outcome :=
  event (.recordsCaptureFailure d number reason) (fun s => s.captureFailure number reason) s

/-- The records take an exit passage report (R11). -/
def State.exitPassageReport (s : State) (number : Nat) : State :=
  match (s.recs.find number).bind Entry.departure with
  | none => s
  | some .toYard => s.modEntry number fun e => { e with state := .inYard, pass := none, departure := none }
  | some .toQuarantine => s.modEntry number fun e => { e with state := .quarantine, pass := none, departure := none }
  | some (.closed _) => s.dropEntry number
  | some .discharged => s.dropEntry number

def execExitPassageReport (d : Deck) (number : Nat) (s : State) : Outcome :=
  event (.exitPassageReport d number) (fun s => s.exitPassageReport number) s

end Sys2Proof.Machine
end

