-- ==== Sys2Proof/Machine/Reset.lean ====
section
/-! DEFINITION. Stopping and starting the main domain: MAIN_DOMAIN_STOP, MAIN_RESET and YARD_RESET_EFFECT (R179 to R181),
with what each block holds afterwards (R25, R65, R84, R124, R126, R148, R168, R176, R178, R185, R187, R212). -/

namespace Sys2Proof.Machine

/-- An entry across a main reset (R25); none where it is removed. -/
def Entry.restart (e : Entry) : Option Entry :=
  let e' := { e with pass := none, departure := none }
  match e.state with
  | .admitted => none
  | .recalled =>
      if e.cancelling then none
      else
        some { e' with state := (e.recallIntent.map fun r => r.origin.state).getD .inYard, recallIntent := none
                       request := none }
  | .onDeck =>
    match e.departure with
    | some (.closed _) => none
    | some .discharged => none
    | some .toQuarantine => some { e' with state := .quarantine, interrupted := true }
    | some .toYard => some { e' with state := .inYard, interrupted := true }
    | none => some { e' with state := .inYard, interrupted := true }
  | .inYard => some e'
  | .quarantine => some e'

/-- Whether the backup domain passes its check at a start: its contents were held, and the check value recomputed over them
is the one kept (R181). -/
def State.backupOk (s : State) (x : Start) : Bool := x.backupHeld && checkValue s.backup == s.check

/-- The backup domain across a start: kept with the adjustments of R25, or every item at its backup-loss value (R181). -/
def Backup.restart (b : Backup) (ok : Bool) : Backup :=
  if ok then { b with records := { b.records with entries := b.records.entries.filterMap Entry.restart } } else {}

/-- The default floor of a role (R208). -/
def defaultFloor : Role → Nat
  | .console => 1
  | .office => 2
  | .kiosk => 3
  | .none => 3

/-- A conditioner at a start: UNKNOWN, with a run at 0 toward the raw state of the first tick (R126). -/
def startInput (level : Bool) (c : ConditionerCfg) : ConditionerWork :=
  { raw := level != c.inverted, debounced := .unknown, run := some 0 }

/-- The main domain at a start, before windows open and barriers are placed. -/
def startMain (b : Backup) (x : Lines) (cause : ResetCause) : Main :=
  { windows := ⟨{ runs := b.mode != .closed }, { runs := b.mode != .closed }⟩
    inputs :=
      { stop := Vector.ofFn fun l => startInput (x.inputs.stop.get l) (b.inputs.stop.get l)
        boom := ⟨startInput x.inputs.boom.aEntry b.inputs.boom.aEntry, startInput x.inputs.boom.aExit b.inputs.boom.aExit,
          startInput x.inputs.boom.bEntry b.inputs.boom.bEntry, startInput x.inputs.boom.bExit b.inputs.boom.bExit⟩
        beam1 := ⟨startInput x.inputs.beam1.a b.inputs.beam1.a, startInput x.inputs.beam1.b b.inputs.beam1.b⟩
        beam2 := ⟨startInput x.inputs.beam2.a b.inputs.beam2.a, startInput x.inputs.beam2.b b.inputs.beam2.b⟩ }
    barriers :=
      ⟨{ upper := x.upper.aEntry, lower := x.lower.aEntry }, { upper := x.upper.aExit, lower := x.lower.aExit },
        { upper := x.upper.bEntry, lower := x.lower.bEntry }, { upper := x.upper.bExit, lower := x.lower.bExit }⟩
    sup := { cause := cause, calSwitch := x.calSwitch, lines := x }
    ports := Vector.ofFn fun p =>
      { floor := defaultFloor (b.ports.get p).role, rate := (b.ports.get p).rate }
    modes := ModeViews.all b.mode }

/-- The engine state at a start (R84). -/
def State.startEngine (s : State) (d : Deck) : State :=
  s.modEng d fun g => { g with state := if s.mode = .closed ∨ s.calibrated d = false then .off else .warmup }

/-- The lamps of a lane at a start: their sources judged, no stretch timers (R148). -/
def State.startLamps (s : State) (l : Lane) : State :=
  s.modLane l fun w =>
    { w with lamps := Vector.ofFn fun k =>
        { value := s.lampSource l ((s.laneCfg l).lamps.get k).source, stretch := none } }

/-- Every reader goes by the states that placement has given the barriers (R166, R168). -/
def State.takeBooms (s : State) : State :=
  s.modMain fun m =>
    { m with
      booms := BarrierViews.all
        ⟨m.barriers.aEntry.state, m.barriers.aExit.state, m.barriers.bEntry.state, m.barriers.bExit.state⟩ }

/-- CAL_STATE at a backup loss, for a deck that was CALIBRATED (R187). -/
def State.calLost (s old : State) (d : Deck) : State :=
  if old.calibrated d = s.calibrated d then s
  else s.post (.engine d) (.calState d (s.calibrated d) s.backup.calCounter)

/-- The main domain starts (R179): the backup domain as its check found it, every block at its reset values, windows
opened at count 0 (R56), barriers placed (R168) and their states with the readers, lamps and the alarm line judged; the
check value is written over what the backup domain then holds (R181). -/
def State.restart (s : State) (x : Start) (cause : ResetCause) : State :=
  let b := s.backup.restart (s.backupOk x)
  let t : State := { backup := b, check := checkValue b, main := startMain b x.first cause, running := true, pending := s.pending }
  let t := Deck.all.foldl (fun t d => ((t.startEngine d).calLost s d).maybeOpen d) t
  let t := (Barrier.all.foldl State.place t).takeBooms
  (Lane.all.foldl State.startLamps t).judgeAlarm

/-- The cause of a start that is no yard reset (R179). -/
def State.startCause (s : State) (x : Start) : ResetCause :=
  if !s.backupOk x then .powerOnBackupLost
  else if s.sup.dip && !x.fellBelowStop then .supplyDip
  else .powerOn

/-- MAIN_DOMAIN_STOP (R179): the supply fell below the reset threshold. -/
def execMainDomainStop (s : State) : Outcome :=
  .next { s.modSup (fun v => { v with dip := true }) with running := false }

/-- MAIN_RESET (R179). -/
def execMainReset (x : Start) (s : State) : Outcome := .next (s.restart x (s.startCause x))

/-- YARD_RESET_EFFECT (R180): once the last byte of the first accepted YARD_RESET's answer has left its port. -/
def execYardResetEffect (x : Start) (s : State) : Outcome :=
  .next
    (if s.running ∧ s.sup.reset = .due then s.restart x (if s.backupOk x then .yardReset else .powerOnBackupLost) else s)

end Sys2Proof.Machine
end

