-- ==== Sys2Proof/Machine/Ports.lean ====
section
/-! DEFINITION. The station ports: reception, the judging of frames, sending, the admission of notices, and the requests
they serve (R198 to R211). -/

namespace Sys2Proof.Machine

/-! ### Reception (R199, R200) -/

/-- A frame is discarded: the frame-error counter advances and the receiver hunts (R199). -/
def PortWork.discard (p : PortWork) : PortWork := { p with receiver := .hunting, errors := satInc p.errors }

/-- Whether a collected frame has all the bytes its count gives: the count, the body and the check (R199, R213). -/
def frameFull : List Byte → Bool
  | [] => false
  | n :: bs => bs.length == n.toNat + 2

/-- Whether the two check bytes of a full frame match (R199, R213). -/
def checkOk (bs : List Byte) : Bool :=
  let n := bs.length - 2
  u16 (crc16 (bs.take n)).toNat == bs.drop n

/-- A complete frame is judged busy, by kind, by role and by payload, and handed on (R200). -/
def State.judgeFrame (s : State) (p : Port) (body : List Byte) : State :=
  match body with
  | kind :: tag :: payload =>
    if (s.port p).hand.isSome then s.modPort p fun w => w.early tag kind .portBusy
    else if kind.toNat = 0 ∨ lastRequestCode < kind.toNat then s.modPort p fun w => w.early tag kind .unknownRequest
    else if !permitted (s.portCfg p).role p kind.toNat then s.modPort p fun w => w.early tag kind .notPermitted
    else
      match decodeRequest { port := p, tag := tag } kind.toNat payload with
      | none => s.modPort p fun w => w.early tag kind .badArgument
      | some c =>
          (s.modPort p fun w => { w with hand := some { tag := tag, role := (s.portCfg p).role } }).raise [c]
  | _ => s

/-- A full frame: it is discarded where its check does not match, else judged; the receiver hunts (R199). -/
def State.frameComplete (s : State) (p : Port) : State :=
  match (s.port p).receiver with
  | .hunting => s
  | .collecting bs _ =>
    if !frameFull bs then s
    else if !checkOk bs then s.modPort p PortWork.discard
    else
      (s.modPort p fun w => { w with receiver := .hunting }).judgeFrame p ((bs.drop 1).take (bs.length - 3))

def execFrameComplete (p : Port) (s : State) : Outcome :=
  event (.frameComplete p) (fun s => s.frameComplete p) s

/-- A character at a receiver that holds no complete frame (R199). -/
def PortWork.take (w : PortWork) (c : Byte) (error : Bool) : PortWork :=
  match w.receiver with
  | .hunting => if !error && c == Config.marker then { w with receiver := .collecting [] 0 } else w
  | .collecting bs _ =>
    if error then w.discard
    else if bs.isEmpty && (c.toNat < Config.bodyMin || Config.bodyMax < c.toNat) then w.discard
    else { w with receiver := .collecting (bs ++ [c]) 0 }

/-- A character of a station (R198, R199); a complete frame is judged before the next character is taken. -/
def State.character (s : State) (p : Port) (c : Byte) (error : Bool) : State :=
  (s.frameComplete p).modPort p fun w => w.take c error

def execCharacterReceived (p : Port) (c : Byte) (error : Bool) (s : State) : Outcome :=
  event (.characterReceived p c error) (fun s => s.character p c error) s

/-- The gap timer has reached 20 before the next character (R199). -/
def PortWork.gapExpiry (w : PortWork) : PortWork :=
  match w.receiver with
  | .hunting => w
  | .collecting bs g => if Config.gapMax ≤ g && !frameFull bs then w.discard else w

def execGapTimerExpiry (p : Port) (s : State) : Outcome :=
  event (.gapTimerExpiry p) (fun s => s.modPort p PortWork.gapExpiry) s

/-! ### Sending (R198, R202) -/

/-- A rate takes effect: a frame being collected is dropped without a count (R198), and so is a whole one that
FRAME_COMPLETE has not judged yet (DESIGN CHOICE, log 27). -/
def PortWork.applyRate (w : PortWork) (rate : Nat) : PortWork :=
  { w with rate := rate, rateWait := .none, receiver := .hunting }

/-- Whether the rate that waits takes effect at the end of the frame on the line (R198). -/
def PortWork.rateDue (w : PortWork) (x : Sending) : Bool :=
  match w.rateWait with
  | .none => false
  | .frameEnd => true
  | .answerEnd => x.answersHand && x.rest.isEmpty

/-- The frame on the line has been sent: the next part of the same answer goes out, or the request in hand ends with its
answer; then the transmitter chooses (R200, R202, R214). -/
def PortWork.sent (w : PortWork) (x : Sending) : PortWork :=
  match x.rest with
  | f :: fs => { w with sending := some { x with frame := f, rest := fs } }
  | [] =>
    if x.answersHand then
      PortWork.kick { w with sending := none, hand := none, answers := w.answers ++ w.held, held := [] }
    else PortWork.kick { w with sending := none }

/-- A frame has been sent (R202). The answer to the first accepted YARD_RESET makes the reset due (R180). -/
def State.frameSent (s : State) (p : Port) : State :=
  match (s.port p).sending with
  | none => s
  | some x =>
    let t := s.modPort p fun w => (if w.rateDue x then w.applyRate (s.portCfg p).rate else w).sent x
    if x.answersHand && x.rest.isEmpty && s.sup.reset == .accepted p then t.modSup fun v => { v with reset := .due } else t

def execFrameSent (p : Port) (s : State) : Outcome := event (.frameSent p) (fun s => s.frameSent p) s

/-! ### Notices (R207) -/

/-- The first notice of a block among those on their way to a port, and the others. -/
def takeNotice (b : Block) : List Notice → Option (Notice × List Notice)
  | [] => none
  | n :: ns => if n.block = b then some (n, ns) else (takeNotice b ns).map fun r => (r.1, n :: r.2)

/-- Whether a port admits a notice (R207). -/
def admits (role : Role) (p : Port) (floor : Nat) (n : Notice) : Bool :=
  role != .none && (floor ≤ n.body.level || n.origin == some p)

/-- A port takes a notice it admits: the number, the stamp, and its place or its loss (R207). -/
def PortWork.enqueue (w : PortWork) (n : Notice) : PortWork :=
  let k := if w.number < Config.u16Max then w.number + 1 else 0
  if w.queue.length < Config.queueMax then
    PortWork.kick { w with number := k, queue := w.queue ++ [{ number := k, notice := n }] }
  else { w with number := k, latch := w.latch.set .noticeLost }

/-- A port takes the oldest notice a block has posted to it (R207). -/
def State.admitNotice (s : State) (p : Port) (b : Block) : State :=
  s.modPort p fun w =>
    match takeNotice b w.incoming with
    | none => w
    | some (n, rest) =>
      let w := { w with incoming := rest }
      if admits (s.portCfg p).role p w.floor n then w.enqueue n else w

def execNoticeAdmission (p : Port) (b : Block) (s : State) : Outcome :=
  event (.noticeAdmission p b) (fun s => s.admitNotice p b) s

/-- The quiet timer has reached 0 (R209). -/
def PortWork.quietExpiry (w : PortWork) : PortWork :=
  if w.quiet = some 0 then PortWork.kick { w with quiet := none } else w

def execQuietTimerExpiry (p : Port) (s : State) : Outcome :=
  event (.quietTimerExpiry p) (fun s => s.modPort p PortWork.quietExpiry) s

/-! ### Requests -/

/-- The legal rates (R197). -/
def rates : List Nat := [9600, 19200, 38400, 57600, 115200]

/-- The difference of two rates in baud. -/
def rateGap (a b : Nat) : Nat := (a - b) + (b - a)

/-- The nearest legal rate, the higher of two that lie equally near (R198). -/
def nearestRate (r : Nat) : Nat :=
  rates.foldl (fun best x => if rateGap x r ≤ rateGap best r then x else best) 9600

/-- SET_PORT_RATE (R198): the rate takes effect at once at a port that sends nothing, else at the end of the frame being
sent; the answer of a port that changes its own rate goes out at the old one, and the next frame at the new. -/
def serveSetPortRate (q : Sender) (port rate : Nat) : Serve := fun _ s =>
  match portOf port with
  | none => (s, .only .badArgument)
  | some p =>
    let r := nearestRate rate
    let t := s.modPortCfg p fun c => { c with rate := r }
    let t := t.modPort p fun w =>
      if p = q.port then { w with rateWait := .answerEnd }
      else if w.sending.isNone then w.applyRate r
      else { w with rateWait := .frameEnd }
    (t.flag .supervision, .clamped (r != rate) (u32 r))

def execSetPortRate (q : Sender) (port rate : Nat) (s : State) : Outcome :=
  request (.setPortRate q port rate) q (serveSetPortRate q port rate) s

/-- A change latch set whole, with RESTARTED clear (R203). -/
def wholeLatch : Latch := { restarted := false }

/-- SET_PORT_ROLE (R203). -/
def serveSetPortRole (port role : Nat) : Serve := fun _ s =>
  match portOf port, roleOf role with
  | some p, some r =>
    if p = 0 then (s, .only .badArgument)
    else if (s.portCfg p).role = r then (s, .ok)
    else
      (((s.modPortCfg p fun c => { c with role := r, binding := none }).modPort p fun w =>
          { w with floor := defaultFloor r, latch := wholeLatch
                   queue := if r = .none then [] else w.queue
                   quiet := if r = .none then none else w.quiet }).flag .supervision, .ok)
  | _, _ => (s, .only .badArgument)

def execSetPortRole (q : Sender) (port role : Nat) (s : State) : Outcome :=
  request (.setPortRole q port role) q (serveSetPortRole port role) s

/-- A lane or NONE (R204). -/
def bindingOf (n : Nat) : Option (Option Lane) :=
  if n = Config.namedChoice then some none else (laneOf n).map some

/-- BIND_KIOSK (R204). -/
def serveBindKiosk (port lane : Nat) : Serve := fun _ s =>
  match portOf port, bindingOf lane with
  | some p, some b =>
    if p = 0 then (s, .only .badArgument)
    else if (s.portCfg p).role ≠ .kiosk then (s, .only .wrongState)
    else ((s.modPortCfg p fun c => { c with binding := b }).flag .supervision, .ok)
  | _, _ => (s, .only .badArgument)

def execBindKiosk (q : Sender) (port lane : Nat) (s : State) : Outcome :=
  request (.bindKiosk q port lane) q (serveBindKiosk port lane) s

/-- SET_NOTICE_FLOOR (R208); the floor answered is a u8 (DESIGN CHOICE, log 15). -/
def serveSetNoticeFloor (q : Sender) (floor : Nat) : Serve := fun _ s =>
  let v := clampNat 0 3 floor
  (s.modPort q.port fun w => { w with floor := v }, .clamped (v != floor) (u8 v))

def execSetNoticeFloor (q : Sender) (floor : Nat) (s : State) : Outcome :=
  request (.setNoticeFloor q floor) q (serveSetNoticeFloor q floor) s

/-- QUIET (R209). -/
def serveQuiet (q : Sender) (n : Nat) : Serve := fun _ s =>
  let v := clampNat 0 Config.quietMax n
  (s.modPort q.port fun w => { w with quiet := if v = 0 then none else some (v * 100) }, .clamped (v != n) (u32 v))

def execQuiet (q : Sender) (n : Nat) (s : State) : Outcome := request (.quiet q n) q (serveQuiet q n) s

/-- READ_STATUS (R210): taking it empties the change latch of its port. The floor is a u8 (DESIGN CHOICE, log 15). -/
def serveReadStatus (q : Sender) : Serve := fun _ s =>
  let w := s.port q.port
  let c := s.portCfg q.port
  (s.modPort q.port fun w => { w with latch := emptyLatch },
    .ok (latchSet w.latch ++ roleByte c.role ++ optional laneByte c.binding ++ u32 c.rate ++ u8 w.floor
      ++ u8 w.queue.length ++ u16 w.number ++ optional u32 w.quiet ++ u16 w.errors))

def execReadStatus (q : Sender) (s : State) : Outcome := request (.readStatus q) q (serveReadStatus q) s

/-- One port in READ_PORTS (R211). The floor is a u8 (DESIGN CHOICE, log 15). -/
def State.portLine (s : State) (p : Port) : List Byte :=
  let w := s.port p
  let c := s.portCfg p
  roleByte c.role ++ optional laneByte c.binding ++ u32 c.rate ++ u8 w.floor ++ u8 w.queue.length ++ u16 w.number
    ++ optional u32 w.quiet ++ latchSet w.latch ++ u16 w.errors

/-- READ_PORTS (R211). -/
def serveReadPorts : Serve := fun _ s => (s, .ok (items s.portLine Port.all))

def execReadPorts (q : Sender) (s : State) : Outcome := request (.readPorts q) q serveReadPorts s

end Sys2Proof.Machine
end

