-- ==== Sys2Proof/Machine/Tares.lean ====
section
/-! DEFINITION. The commands of the tare store and the yard clock (R30 to R37). -/

namespace Sys2Proof.Machine

/-- A tare record with its standing (R32). -/
def Records.tareLine (r : Records) (t : Tare) : List Byte := tareBytes t ++ standingByte (t.standing r.today)

/-- STORE_TARE (R30). A CLAMPED answer carries the stored validity, as u16, behind REPLACED or ADDED and the evicted plate
(DESIGN CHOICE, log 15). -/
def serveStoreTare (plate : List Byte) (tag : Option Nat) (weight : Int) (cls validity account : Nat) : Serve :=
  fun _ s =>
    let p := trimPlate plate
    match classOf cls with
    | none => (s, .only .badArgument)
    | some c =>
      if !plateOk p || weight < 1 || Config.tareWeightMax < weight || !accountOk account then (s, .only .badArgument)
      else
        match s.recs.today with
        | none => (s, .only .clockUnset)
        | some d =>
          let v := clampNat 1 Config.validityMax validity
          match s.recs.tareWrite
            { plate := p, tag := tag, weight := weight, cls := c, stored := d, validity := v, account := account } with
          | none => (s, .only .tareFull)
          | some w =>
            let out := u8 (if w.replaced then 0 else 1) ++ optional (fun t : Tare => text t.plate) w.evicted
            (s.applyTare w,
              if v = validity then .ok out else { code := .clamped, payload := out ++ u16 v })

def execStoreTare (q : Sender) (plate : List Byte) (tag : Option Nat) (weight : Int) (cls validity account : Nat)
    (s : State) : Outcome :=
  request (.storeTare q plate tag weight cls validity account) q
    (serveStoreTare plate tag weight cls validity account) s

/-- DELETE_TARE (R31). -/
def serveDeleteTare (plate : List Byte) : Serve := fun _ s =>
  match s.recs.tareOf (trimPlate plate) with
  | none => (s, .only .notFound)
  | some t =>
      ((s.modRecs fun r => { r with tares := r.tares.filter fun u => u.plate != t.plate }).flag .tareStore, .ok)

def execDeleteTare (q : Sender) (plate : List Byte) (s : State) : Outcome :=
  request (.deleteTare q plate) q (serveDeleteTare plate) s

/-- READ_TARE (R32). -/
def serveReadTare (plate : List Byte) : Serve := fun _ s =>
  match s.recs.tareOf (trimPlate plate) with
  | none => (s, .only .notFound)
  | some t => (s, .ok (s.recs.tareLine t))

def execReadTare (q : Sender) (plate : List Byte) (s : State) : Outcome :=
  request (.readTare q plate) q (serveReadTare plate) s

/-- LIST_TARES (R32). -/
def serveListTares (start : Nat) : Serve := fun _ s =>
  (s, .ok (u16 s.recs.tares.length ++ items s.recs.tareLine (((sortTares s.recs.tares).drop start).take 6)))

def execListTares (q : Sender) (start : Nat) (s : State) : Outcome :=
  request (.listTares q start) q (serveListTares start) s

/-- SET_TARE_VALIDITY (R35). -/
def serveSetTareValidity (lane days : Nat) : Serve := fun _ s =>
  match laneOf lane with
  | none => (s, .only .badArgument)
  | some l =>
      let v := clampNat 1 Config.validityMax days
      (s.modLaneCfg l fun c => { c with tareValidity := v }, .clamped (v != days) (u16 v))

def execSetTareValidity (q : Sender) (lane days : Nat) (s : State) : Outcome :=
  request (.setTareValidity q lane days) q (serveSetTareValidity lane days) s

/-- SET_CLOCK (R37): an accepted one is a retry event (R14). -/
def serveSetClock (year month day hour minute second : Nat) : Serve := fun _ s =>
  let t : DateTime := { date := { year := year, month := month, day := day }, hour := hour, minute := minute, second := second }
  if !timeExists t then (s, .only .badArgument)
  else
    (((s.modRecs fun r =>
      { r with clock := some t, clockMark := false, subSecond := 0, subBackup := false }).flag .supervision).retry, .ok)

def execSetClock (q : Sender) (year month day hour minute second : Nat) (s : State) : Outcome :=
  request (.setClock q year month day hour minute second) q (serveSetClock year month day hour minute second) s

/-- READ_CLOCK (R37). -/
def serveReadClock : Serve := fun _ s => (s, .ok (optional dateTime s.recs.clock ++ boolean s.recs.clockMark))

def execReadClock (q : Sender) (s : State) : Outcome := request (.readClock q) q serveReadClock s

/-- The second of the yard clock: at 1,000 counted ticks the sub-second count returns to 0 and the clock advances by
one second; a second that counted a BACKUP tick sets the backup-timed mark (R36, R38). -/
def Records.second (r : Records) : Records :=
  match r.clock with
  | none => r
  | some t =>
      if r.subSecond < Config.ticksPerSecond then r
      else
        { r with clock := some (nextSecond t), clockMark := r.clockMark || r.subBackup, subBackup := false
                 subSecond := if nextSecond t = lastSecond then 0 else r.subSecond - Config.ticksPerSecond }

/-- YARD_CLOCK_SECOND (R36): the clock goes on while the main domain is stopped (R38). -/
def execYardClockSecond (s : State) : Outcome := .next ((s.consume .yardClockSecond).modRecs Records.second).seal

end Sys2Proof.Machine
end

