-- ==== Sys2Proof/Machine/Tickets.lean ====
section
/-! DEFINITION. The commands of the ticket counter and the ticket log (R39, R44 to R46). -/

namespace Sys2Proof.Machine

/-- The record of a ticket number (R40). -/
def Records.ticket (r : Records) (n : Nat) : Option Ticket := r.log.find? fun t => t.number == n

/-- SET_TICKET_BASE (R39): an accepted one is a retry event (R14). A number out of range is refused before uncollected
records are looked for (DESIGN CHOICE, log 22). -/
def serveSetTicketBase (n : Nat) : Serve := fun _ s =>
  if n < 1 ∨ Config.ticketMax < n then (s, .only .badArgument)
  else if s.recs.counter.isSome && !(uncollected s.recs.log).isEmpty then (s, .only .uncollected)
  else
    (((s.modRecs fun r => { r with counter := some n, seqStart := true, log := [] }).flag .ticketLog).retry, .ok)

def execSetTicketBase (q : Sender) (n : Nat) (s : State) : Outcome :=
  request (.setTicketBase q n) q (serveSetTicketBase n) s

/-- The ticket that voids a ticket (R44). -/
def Ticket.voiding (t : Ticket) (reason : Nat) : Ticket := { t with body := .void t.number reason }

/-- VOID_TICKET (R44). -/
def serveVoidTicket (number reason : Nat) : Serve := fun _ s =>
  if !holdReasonOk reason then (s, .only .badArgument)
  else
    match s.recs.ticket number with
    | none => (s, .only .notFound)
    | some t =>
      if t.body.isVoid then (s, .only .wrongKind)
      else if t.voided then (s, .only .alreadyVoid)
      else if !s.recs.freeSlot then (s, .only .logFull)
      else
        ((s.modRecs fun r =>
          { r with log := r.log.map fun u => if u.number = number then { u with voided := true } else u }).issue
            (t.voiding reason),
          .ok (u32 s.recs.nextTicket))

def execVoidTicket (q : Sender) (number reason : Nat) (s : State) : Outcome :=
  request (.voidTicket q number reason) q (serveVoidTicket number reason) s

/-- COLLECT_NEXT (R45); the uncollected count behind the ticket is a u16 (DESIGN CHOICE, log 15). -/
def serveCollectNext : Serve := fun _ s =>
  match uncollected s.recs.log with
  | [] => (s, .only .nonePending)
  | t :: rest => (s, .ok (ticketBytes t ++ u16 (rest.length + 1)))

def execCollectNext (q : Sender) (s : State) : Outcome := request (.collectNext q) q serveCollectNext s

/-- READ_TICKET (R45). -/
def serveReadTicket (number : Nat) : Serve := fun _ s =>
  match s.recs.ticket number with
  | none => (s, .only .notFound)
  | some t => (s, .ok (ticketBytes t))

def execReadTicket (q : Sender) (number : Nat) (s : State) : Outcome :=
  request (.readTicket q number) q (serveReadTicket number) s

/-- Marks the uncollected records up to a number as collected, in log order (R46). -/
def collectTo (n : Nat) : List Ticket → List Ticket
  | [] => []
  | t :: ts => { t with collected := true } :: (if t.number = n then ts else collectTo n ts)

/-- CONFIRM_COLLECTED (R46): an accepted one is a retry event (R14). -/
def serveConfirmCollected (n : Nat) : Serve := fun _ s =>
  match s.recs.ticket n with
  | none => (s, { code := .notFound, payload := u16 0 })
  | some t =>
      if t.collected then (s, { code := .alreadyCollected, payload := u16 0 })
      else
        let log := collectTo n s.recs.log
        ((s.modRecs fun r => { r with log := log }).retry,
          .ok (u16 ((uncollected s.recs.log).length - (uncollected log).length)))

def execConfirmCollected (q : Sender) (n : Nat) (s : State) : Outcome :=
  request (.confirmCollected q n) q (serveConfirmCollected n) s

end Sys2Proof.Machine
end

