-- ==== Sys2Proof/Machine/WeighEngine.lean ====
section
/-! DEFINITION. The weigh engine: the ten stages from a window record to a deck reading (R69 to R81), what a capture
(R92 to R94, R100), zero tracking (R105) and a calibration collection (R192, R194, R195) make of it, SET_OCCUPANCY (R68)
and READ_DECK (R83). -/

namespace Sys2Proof.Machine

/-! ### The stages -/

/-- Stages 2 and 3: the exact sum of the channel differences times their factors, in 1/65,536 g (R70, R71). -/
def State.exactSum (s : State) (es : List WindowEntry) : Int :=
  es.foldl (fun t e => t + ((e.count : Int) - (s.chanCfg e.channel).zero) * (s.chanCfg e.channel).factor) 0

/-- Stage 4: the raw gross weight in grams (R72). -/
def State.gRaw (s : State) (es : List WindowEntry) : Int := roundDiv (s.exactSum es) 65536

/-- Keeps the newest `n` items of a list. -/
def keepLast {α : Type} (n : Nat) (xs : List α) : List α := xs.drop (xs.length - n)

/-- Stage 6: the filtered weight, once the filter history holds F entries (R73). -/
def filtered (f : Nat) (filter : List Int) : Option Int :=
  if filter.length < f then none else some (roundDiv filter.sum f)

/-- Stage 7: the division (R74). -/
def Metrology.division (m : Metrology) (gf : Int) : Nat := if gf ≤ (m.max1 : Int) * 1000 then m.e1 else m.e2

/-- Stage 8: the deck weight in kg (R75). -/
def deckWeight (gf : Int) (e : Nat) : Int := roundDiv gf (e * 1000) * e

/-- Stage 9: the range condition (R76). -/
def Metrology.range (m : Metrology) (gd : Int) : RangeCond :=
  if (m.max2 : Int) + 9 * m.e2 < gd then .overload
  else if gd < -(20 * (m.e1 : Int)) then .underload
  else .inRange

/-- The largest of some weights. -/
def largest : List Int → Int
  | [] => 0
  | x :: xs => xs.foldl max x

/-- The smallest of some weights. -/
def smallest : List Int → Int
  | [] => 0
  | x :: xs => xs.foldl min x

/-- Stage 10: the spread, once the stability history holds S entries (R77). -/
def spreadOf (n : Nat) (stab : List StabEntry) : Option Int :=
  if stab.length < n then none else some (largest (stab.map StabEntry.gf) - smallest (stab.map StabEntry.gf))

/-- The effective threshold in kg (R67). -/
def DeckCfg.occupancyKg (c : DeckCfg) : Nat := c.threshold.getD (20 * c.metrology.e1)

/-- The occupancy reading after a filtered weight (R81). -/
def DeckCfg.occupancy (c : DeckCfg) (before : Occupancy) (gf : Int) : Occupancy :=
  if gf < (c.occupancyKg : Int) * 500 then .empty
  else if (c.occupancyKg : Int) * 1000 ≤ gf then .loaded
  else
    match before with
    | .unknown => .loaded
    | .empty => .empty
    | .loaded => .loaded

/-- The reading of an invalid window: every weight field absent (R69). -/
def invalidReading (w : WindowRecord) : Reading :=
  { number := w.number, closing := w.closing, timing := w.timing, status := w.status }

/-- The reading a valid window gives, with the histories it leaves; the engine state is filled in later (R70 to R79). -/
def State.compute (s : State) (d : Deck) (w : WindowRecord) : Reading × List Int × List StabEntry × Occupancy :=
  let c := s.deckCfg d
  let m := c.metrology
  let g := s.eng d
  let raw := s.gRaw w.channels
  let gz := raw - c.zd
  let filter := keepLast m.f (g.filter ++ [gz])
  let base := { invalidReading w with graw := some raw, gz := some gz }
  match filtered m.f filter with
  | none => ({ base with occupancy := g.occupancy }, filter, g.stab, g.occupancy)
  | some gf =>
      let e := m.division gf
      let gd := deckWeight gf e
      let range := m.range gd
      let stab := keepLast m.s (g.stab ++ [{ gf := gf, e := e, timing := w.timing }])
      let spread := spreadOf m.s stab
      let occ := c.occupancy g.occupancy gf
      ({ base with gf := some gf, e := some e, gd := if range = .inRange then some gd else none, range := some range
                   spread := spread, stable := spread.map fun x => x ≤ (e : Int) * 1000, occupancy := occ },
        filter, stab, occ)

/-- The engine takes a window record: the reading it completes and makes its latest (R69, R79). DECK_RANGE is posted before
ENGINE_STATE (R76, R82; DESIGN CHOICE, log 38). -/
def State.takeWindow (s : State) (w : WindowRecord) : State × Reading :=
  let d := w.deck
  let g := s.eng d
  let c : Reading × List Int × List StabEntry × Occupancy :=
    if w.status = .valid then s.compute d w else (invalidReading w, [], [], .unknown)
  let t := s.modEng d fun g => { g with filter := c.2.1, stab := c.2.2.1, occupancy := c.2.2.2 }
  let before : Option RangeCond := g.latest.bind Reading.range
  let t := t.flagIf (g.occupancy != c.2.2.2 || before != c.1.range) .decks
  let t :=
    match c.1.range with
    | some .overload => if before = some RangeCond.overload then t else t.post (.engine d) (.deckRange d .overload w.number)
    | some .underload => if before = some RangeCond.underload then t else t.post (.engine d) (.deckRange d .underload w.number)
    | some .inRange => t
    | none => t
  let t := t.refreshActive d (some w.number)
  let r := { c.1 with state := (t.eng d).state }
  (t.modEng d fun g => { g with latest := some r }, r)

/-! ### The capture takes a reading -/

/-- A capture completes with a weight, a division and a class (R99, R100). -/
def State.completeCapture (s : State) (d : Deck) (c : Capture) (weight : Int) (e : Nat) (cls : WeighClass)
    (window : Nat) : State :=
  let r : CaptureResult :=
    { deck := d, number := c.number, lane := c.lane, weight := weight, division := e, cls := cls, window := window }
  let t := s.modEng d fun g => { g with capture := none, ended := true }
  let t := t.raise [.recordsCaptureCompletion r, .captureCompletionAtArbiter r]
  let t := t.post (.engine d) (.weighingDone d c.number weight cls e c.phase c.failed c.origin) c.origin
  (t.flag .decks).refreshActive d (some window)

/-- The band limit of a phase in grams (R93). -/
def bandLimit (p : Phase) (e : Nat) : Int :=
  match p with
  | .normal => (e : Int) * 1000
  | .relaxed => 2 * (e : Int) * 1000

/-- The class of a candidate result (R94). -/
def candidateClass (c : Capture) (stab : List StabEntry) : WeighClass :=
  if c.phase = .normal ∧ stab.all (fun x => x.timing == .reference) then .approved else .indicative

/-- The stability test, and what follows a passing one (R93). -/
def State.testStability (s : State) (d : Deck) (c : Capture) (r : Reading) : State :=
  match r.e, r.spread, r.range with
  | some e, some spread, some range =>
    if bandLimit c.phase e < spread then s
    else
      match range, r.gd with
      | .overload, _ => s.failCapture d .overload (some r.number)
      | .inRange, some gd =>
          let cls := candidateClass c (s.eng d).stab
          if cls = .approved ∨ c.accept then s.completeCapture d c gd e cls r.number else s
      | .inRange, none => s
      | .underload, _ => s
  | _, _, _ => s

/-- Rewrites the capture in flight. -/
def State.modCapture (s : State) (d : Deck) (f : Capture → Capture) : State :=
  s.modEng d fun g => { g with capture := g.capture.map f }

/-- A capture in flight takes a reading, in the steps of R92; with none in flight a reading is not offered. -/
def State.offerCapture (s : State) (d : Deck) (r : Reading) (marked : Bool) : State :=
  match (s.eng d).capture with
  | none => s
  | some c =>
    if r.status ≠ .valid then
      let t := s.modCapture d fun c => { c with invalidRun := c.invalidRun + 1 }
      if Config.invalidRunMax ≤ c.invalidRun + 1 then t.failCapture d .channelFault (some r.number) else t
    else
      let t := s.modCapture d fun c => { c with invalidRun := 0 }
      if r.occupancy = .empty then
        t.failCapture d (if r.range = some .underload then .underload else .leftDeck) (some r.number)
      else if marked then t.modEng d fun g => { g with stab := [] }
      else if r.gf.isNone ∨ r.spread.isNone then t
      else t.testStability d { c with invalidRun := 0 } r

/-! ### Zero tracking -/

/-- The tracking step on a reading (R105). -/
def State.trackZero (s : State) (d : Deck) (r : Reading) : State :=
  match r.stable, r.gf with
  | some true, some gf =>
    let c := s.deckCfg d
    let e1 : Int := c.metrology.e1
    if r.state ≠ .empty ∨ e1 * 500 < |gf| then s
    else
      let step := clampInt (-(e1 * 250)) (e1 * 250) gf
      let zd := clampInt (-c.zlim) c.zlim (c.zd + step)
      let t := if zd = c.zd then s else s.changeZd d (zd - c.zd)
      if zd = c.zd + step then t else t.latchZeroLimit d (0 ≤ zd) (some r.number)
  | _, _ => s

/-! ### The collection takes a window -/

/-- A collection that starts again from nothing (R192). -/
def Collection.restart (k : Collection) : Collection :=
  { k with windows := 0, weightSum := 0, sums := k.sums.map fun x => (x.1, 0) }

/-- A collection with one window added (R192). -/
def Collection.add (k : Collection) (es : List WindowEntry) (gz : Int) : Collection :=
  match k.kind with
  | .zero =>
      { k with
        windows := k.windows + 1
        sums := k.sums.map fun x => (x.1, x.2 + ((es.find? fun e => e.channel == x.1).map WindowEntry.count).getD 0) }
  | .span _ => { k with windows := k.windows + 1, weightSum := k.weightSum + gz }

/-- The completion of a ZERO collection (R194), at a window (R82); CAL_DONE is posted last (DESIGN CHOICE, log 38). -/
def State.zeroCompletion (s : State) (d : Deck) (k : Collection) (window : Nat) : State :=
  let zs := k.sums.map fun x => (x.1, (roundDiv x.2 16).toNat)
  let t := zs.foldl (fun t z => t.modChanCfg z.1 fun c => { c with zero := z.2 }) s
  let t := t.modDeckCfg d fun c => { c with zd := 0 }
  let t := t.modEng d fun g => { g with collection := none, zeroLimit := false }
  let t := State.metroChange s t [d] (some window)
  t.post (.engine d) (.calDoneZero d zs t.backup.calCounter k.origin) (some k.origin)

/-- The new factor of a channel in a span, with its CLAMPED mark (R195). -/
def spanFactor (factor : Nat) (load m : Int) : Nat × Bool :=
  let x := roundDiv (factor * load * 1000) m.toNat
  ((clampInt 1 Config.factorMax x).toNat, clampInt 1 Config.factorMax x != x)

/-- The completion of a SPAN collection, or its failure with SPAN_RANGE (R195), at a window (R82); CAL_DONE is posted last
(DESIGN CHOICE, log 38). -/
def State.spanCompletion (s : State) (d : Deck) (k : Collection) (load : Int) (window : Nat) : State :=
  let m := roundDiv k.weightSum 16
  if m ≤ 0 ∨ 2 * (load * 1000) < m ∨ 2 * m < load * 1000 then s.failCollection d .spanRange
  else
    let ks := (s.channelSet d).map fun c => (c, spanFactor (s.chanCfg c).factor load m)
    let t := ks.foldl (fun t x => t.modChanCfg x.1 fun c => { c with factor := x.2.1 }) s
    let t := t.modEng d fun g => { g with collection := none }
    let t := State.metroChange s t [d] (some window)
    t.post (.engine d) (.calDoneSpan d load m ks t.backup.calCounter k.origin) (some k.origin)

/-- Stores a collection record as it stands. -/
def State.putCollection (s : State) (d : Deck) (k : Collection) : State :=
  s.modEng d fun g => { g with collection := some k }

/-- A collection in flight takes a window (R192); windows opened before the request are not used (R191). -/
def State.offerCollection (s : State) (d : Deck) (w : WindowRecord) (r : Reading) : State :=
  match (s.eng d).collection with
  | none => s
  | some k =>
    if w.serial ≤ k.after then s
    else if w.status ≠ .valid then
      let k := { k.restart with invalidRun := k.invalidRun + 1 }
      let t := s.putCollection d k
      if Config.invalidRunMax ≤ k.invalidRun then t.failCollection d .channelFault else t
    else if w.marked ∨ (k.kind ≠ .zero ∧ r.occupancy = .empty) then
      s.putCollection d { k.restart with invalidRun := 0 }
    else
      let k := { k.add w.channels (r.gz.getD 0) with invalidRun := 0 }
      let t := s.putCollection d k
      if k.windows < Config.collectionWindows then t
      else
        match k.kind with
        | .zero => t.zeroCompletion d k w.number
        | .span load => t.spanCompletion d k load w.number

/-- The engine takes a window record (R69): an engine that is OFF sets it aside; else the completed reading goes to a
capture in flight, to zero tracking, and to a collection. A ZERO_LIMIT that tracking posts stands before the notices of a
collection at the same window (DESIGN CHOICE, log 38). -/
def State.engineWindow (s : State) (w : WindowRecord) : State :=
  if (s.eng w.deck).state = .off then s
  else
    let t := s.takeWindow w
    ((t.1.offerCapture w.deck t.2 w.marked).trackZero w.deck t.2).offerCollection w.deck w t.2

def execEngineWindow (w : WindowRecord) (s : State) : Outcome := event (.engineWindow w) (fun s => s.engineWindow w) s

/-! ### Requests -/

/-- SET_OCCUPANCY (R68). A legal SINGLE set may have Max1 below 2 × e1, and no threshold lies in the range then: a value
below 2 × e1 is stored as 2 × e1, and any other above Max1 as Max1 (DESIGN CHOICE, log 39). -/
def serveSetOccupancy (deck threshold : Nat) : Serve := fun _ s =>
  match deckOf deck with
  | none => (s, .only .badArgument)
  | some d =>
    if threshold = Config.namedChoice then
      ((s.modDeckCfg d fun c => { c with threshold := none }).flag .decks, .ok)
    else if !s.calibrated d then (s, .only .wrongState)
    else
      let m := (s.deckCfg d).metrology
      let v := clampNat (2 * m.e1) m.max1 threshold
      ((s.modDeckCfg d fun c => { c with threshold := some v }).flag .decks, .clamped (v != threshold) (u32 v))

def execSetOccupancy (q : Sender) (deck threshold : Nat) (s : State) : Outcome :=
  request (.setOccupancy q deck threshold) q (serveSetOccupancy deck threshold) s

/-- The latest reading in the deck readout (R216). -/
def readingBytes (r : Reading) : List Byte :=
  u32 r.number ++ u48 r.closing ++ tickMarkByte r.timing ++ windowStatusByte r.status ++ optional u8 r.e
    ++ optional s32 r.gd ++ optional rangeByte r.range ++ optional (fun x : Int => u32 x.toNat) r.spread
    ++ optional boolean r.stable

/-- The service values of the deck readout (R83, R216). -/
def serviceBytes (zd : Int) (r : Option Reading) : List Byte :=
  s32 zd ++ optional s32 (r.bind Reading.graw) ++ optional s32 (r.bind Reading.gz) ++ optional s32 (r.bind Reading.gf)

/-- The deck readout (R83, R216). -/
def State.readout (s : State) (d : Deck) : List Byte :=
  let c := s.deckCfg d
  let g := s.eng d
  engineStateByte g.state ++ occupancyByte g.occupancy ++ calibratedByte (s.calibrated d) ++ metrologyBytes c.metrology
    ++ u32 c.occupancyKg ++ boolean c.threshold.isNone ++ u8 g.filter.length ++ u8 g.stab.length ++ boolean g.zeroLimit
    ++ optional readingBytes g.latest
    ++ optional (fun zd => serviceBytes zd g.latest) (if s.sup.calSwitch then some c.zd else none)

/-- READ_DECK (R83). -/
def serveReadDeck (deck : Nat) : Serve := fun _ s =>
  match deckOf deck with
  | none => (s, .only .badArgument)
  | some d => (s, .ok (s.readout d))

def execReadDeck (q : Sender) (deck : Nat) (s : State) : Outcome := request (.readDeck q deck) q (serveReadDeck deck) s

end Sys2Proof.Machine
end

