-- ==== Sys2Proof/Machine/Dispatch.lean ====
section
/-! DEFINITION. One arm for each command: the direct call of its meaning. -/

namespace Sys2Proof.Machine

/-- The effect of a command on everything but the queue of waiting commands. -/
def exec (i : Instr) (s : State) : Host.Outcome State Fault Refusal :=
  match i with
  | .identify q lane plate tag mode account material intent priority => Sys2Proof.Machine.execIdentify q lane plate tag mode account material intent priority s
  | .listYard q => Sys2Proof.Machine.execListYard q s
  | .readTransaction q number => Sys2Proof.Machine.execReadTransaction q number s
  | .findPlate q plate => Sys2Proof.Machine.execFindPlate q plate s
  | .hold q number reason => Sys2Proof.Machine.execHold q number reason s
  | .releaseHold q number => Sys2Proof.Machine.execReleaseHold q number s
  | .amend q number account line => Sys2Proof.Machine.execAmend q number account line s
  | .cancelTransaction q number => Sys2Proof.Machine.execCancelTransaction q number s
  | .quarantine q number => Sys2Proof.Machine.execQuarantine q number s
  | .close q number => Sys2Proof.Machine.execClose q number s
  | .forceExit q number => Sys2Proof.Machine.execForceExit q number s
  | .storeTare q plate tag weight cls validity account => Sys2Proof.Machine.execStoreTare q plate tag weight cls validity account s
  | .deleteTare q plate => Sys2Proof.Machine.execDeleteTare q plate s
  | .readTare q plate => Sys2Proof.Machine.execReadTare q plate s
  | .listTares q start => Sys2Proof.Machine.execListTares q start s
  | .setTareValidity q lane days => Sys2Proof.Machine.execSetTareValidity q lane days s
  | .setClock q year month day hour minute second => Sys2Proof.Machine.execSetClock q year month day hour minute second s
  | .setTicketBase q n => Sys2Proof.Machine.execSetTicketBase q n s
  | .voidTicket q number reason => Sys2Proof.Machine.execVoidTicket q number reason s
  | .readClock q => Sys2Proof.Machine.execReadClock q s
  | .collectNext q => Sys2Proof.Machine.execCollectNext q s
  | .readTicket q number => Sys2Proof.Machine.execReadTicket q number s
  | .confirmCollected q n => Sys2Proof.Machine.execConfirmCollected q n s
  | .setChannelMap q channel map polarity => Sys2Proof.Machine.execSetChannelMap q channel map polarity s
  | .setChannelLimits q channel low high => Sys2Proof.Machine.execSetChannelLimits q channel low high s
  | .clearFaults q channel scope => Sys2Proof.Machine.execClearFaults q channel scope s
  | .readChannels q deck => Sys2Proof.Machine.execReadChannels q deck s
  | .setOccupancy q deck threshold => Sys2Proof.Machine.execSetOccupancy q deck threshold s
  | .readDeck q deck => Sys2Proof.Machine.execReadDeck q deck s
  | .setCaptureOptions q deck attempt n accept => Sys2Proof.Machine.execSetCaptureOptions q deck attempt n accept s
  | .capture q deck => Sys2Proof.Machine.execCapture q deck s
  | .abortCapture q deck => Sys2Proof.Machine.execAbortCapture q deck s
  | .zeroDeck q deck => Sys2Proof.Machine.execZeroDeck q deck s
  | .readCapture q deck => Sys2Proof.Machine.execReadCapture q deck s
  | .setProceedTime q deck seconds => Sys2Proof.Machine.execSetProceedTime q deck seconds s
  | .clearTailgate q deck => Sys2Proof.Machine.execClearTailgate q deck s
  | .setDeckService q deck setting => Sys2Proof.Machine.execSetDeckService q deck setting s
  | .readDeckState q deck => Sys2Proof.Machine.execReadDeckState q deck s
  | .setConditioner q input polarity debounce => Sys2Proof.Machine.execSetConditioner q input polarity debounce s
  | .setLaneTimers q lane absence stuck => Sys2Proof.Machine.execSetLaneTimers q lane absence stuck s
  | .setLaneFeed q lane feed => Sys2Proof.Machine.execSetLaneFeed q lane feed s
  | .setLaneMode q lane mode => Sys2Proof.Machine.execSetLaneMode q lane mode s
  | .setLamp q lane lamp source blink stretch => Sys2Proof.Machine.execSetLamp q lane lamp source blink stretch s
  | .setSignalHead q lane period => Sys2Proof.Machine.execSetSignalHead q lane period s
  | .setLampInvert q flag => Sys2Proof.Machine.execSetLampInvert q flag s
  | .readInputs q => Sys2Proof.Machine.execReadInputs q s
  | .readLane q lane => Sys2Proof.Machine.execReadLane q lane s
  | .setBarrier q barrier failAction motionLimit closeDelay halfPeriod => Sys2Proof.Machine.execSetBarrier q barrier failAction motionLimit closeDelay halfPeriod s
  | .barrierReset q barrier => Sys2Proof.Machine.execBarrierReset q barrier s
  | .barrierCommand q barrier action => Sys2Proof.Machine.execBarrierCommand q barrier action s
  | .readBarriers q => Sys2Proof.Machine.execReadBarriers q s
  | .setYardMode q mode => Sys2Proof.Machine.execSetYardMode q mode s
  | .yardReset q => Sys2Proof.Machine.execYardReset q s
  | .setAlarmMask q sources setting => Sys2Proof.Machine.execSetAlarmMask q sources setting s
  | .readSupervisor q => Sys2Proof.Machine.execReadSupervisor q s
  | .setMetrology q deck mode max1 max2 e1 e2 window f n => Sys2Proof.Machine.execSetMetrology q deck mode max1 max2 e1 e2 window f n s
  | .setChannelFactor q channel k => Sys2Proof.Machine.execSetChannelFactor q channel k s
  | .setChannelZero q channel z => Sys2Proof.Machine.execSetChannelZero q channel z s
  | .calZeroDeck q deck => Sys2Proof.Machine.execCalZeroDeck q deck s
  | .calSpanDeck q deck load => Sys2Proof.Machine.execCalSpanDeck q deck load s
  | .abortCalibration q deck => Sys2Proof.Machine.execAbortCalibration q deck s
  | .readCalibration q deck => Sys2Proof.Machine.execReadCalibration q deck s
  | .setPortRole q port role => Sys2Proof.Machine.execSetPortRole q port role s
  | .bindKiosk q port lane => Sys2Proof.Machine.execBindKiosk q port lane s
  | .setPortRate q port rate => Sys2Proof.Machine.execSetPortRate q port rate s
  | .readPorts q => Sys2Proof.Machine.execReadPorts q s
  | .setNoticeFloor q floor => Sys2Proof.Machine.execSetNoticeFloor q floor s
  | .quiet q n => Sys2Proof.Machine.execQuiet q n s
  | .readStatus q => Sys2Proof.Machine.execReadStatus q s
  | .withdrawalReport number cause => Sys2Proof.Machine.execWithdrawalReport number cause s
  | .entryPassageReport d number => Sys2Proof.Machine.execEntryPassageReport d number s
  | .recordsCaptureCompletion r => Sys2Proof.Machine.execRecordsCaptureCompletion r s
  | .recordsCaptureFailure d number reason => Sys2Proof.Machine.execRecordsCaptureFailure d number reason s
  | .exitPassageReport d number => Sys2Proof.Machine.execExitPassageReport d number s
  | .yardClockSecond => Sys2Proof.Machine.execYardClockSecond s
  | .windowClose d => Sys2Proof.Machine.execWindowClose d s
  | .engineWindow w => Sys2Proof.Machine.execEngineWindow w s
  | .captureStart d => Sys2Proof.Machine.execCaptureStart d s
  | .recordsAbort d number => Sys2Proof.Machine.execRecordsAbort d number s
  | .captureExternalEnd d cause => Sys2Proof.Machine.execCaptureExternalEnd d cause s
  | .attemptTimerExpiry d => Sys2Proof.Machine.execAttemptTimerExpiry d s
  | .leaveDeckTimerExpiry d => Sys2Proof.Machine.execLeaveDeckTimerExpiry d s
  | .positioningEdge d x e => Sys2Proof.Machine.execPositioningEdge d x e s
  | .filing d l number kind priority => Sys2Proof.Machine.execFiling d l number kind priority s
  | .withdrawal d l => Sys2Proof.Machine.execWithdrawal d l s
  | .choice d => Sys2Proof.Machine.execChoice d s
  | .acceptance d l number => Sys2Proof.Machine.execAcceptance d l number s
  | .decline d l number => Sys2Proof.Machine.execDecline d l number s
  | .proceedTimeout d => Sys2Proof.Machine.execProceedTimeout d s
  | .entryLoopEdgeAtArbiter d e => Sys2Proof.Machine.execEntryLoopEdgeAtArbiter d e s
  | .exitLoopEdgeAtArbiter d e => Sys2Proof.Machine.execExitLoopEdgeAtArbiter d e s
  | .exitReleaseAtArbiter d number => Sys2Proof.Machine.execExitReleaseAtArbiter d number s
  | .captureCompletionAtArbiter r => Sys2Proof.Machine.execCaptureCompletionAtArbiter r s
  | .captureFailureAtArbiter d number reason => Sys2Proof.Machine.execCaptureFailureAtArbiter d number reason s
  | .forceExitNoticeAtArbiter d number => Sys2Proof.Machine.execForceExitNoticeAtArbiter d number s
  | .barrierStateTaken reader b st => Sys2Proof.Machine.execBarrierStateTaken reader b st s
  | .deckEmpty d => Sys2Proof.Machine.execDeckEmpty d s
  | .conditionerEdge x => Sys2Proof.Machine.execConditionerEdge x s
  | .stopLoopEdge l e => Sys2Proof.Machine.execStopLoopEdge l e s
  | .stuckTimerExpiry l => Sys2Proof.Machine.execStuckTimerExpiry l s
  | .filingOrder l number kind priority => Sys2Proof.Machine.execFilingOrder l number kind priority s
  | .absenceTimerExpiry l => Sys2Proof.Machine.execAbsenceTimerExpiry l s
  | .cancelOrder l number => Sys2Proof.Machine.execCancelOrder l number s
  | .offerAtLane l d number => Sys2Proof.Machine.execOfferAtLane l d number s
  | .grantWithdrawnAtLane l d number cause => Sys2Proof.Machine.execGrantWithdrawnAtLane l d number cause s
  | .entryPassageAtLane l d number => Sys2Proof.Machine.execEntryPassageAtLane l d number s
  | .stretchTimerExpiry l lamp => Sys2Proof.Machine.execStretchTimerExpiry l lamp s
  | .limitEvent b which => Sys2Proof.Machine.execLimitEvent b which s
  | .permissiveRise b => Sys2Proof.Machine.execPermissiveRise b s
  | .permissiveFall b => Sys2Proof.Machine.execPermissiveFall b s
  | .barrierLoopEdge b e => Sys2Proof.Machine.execBarrierLoopEdge b e s
  | .closeDelayExpiry b => Sys2Proof.Machine.execCloseDelayExpiry b s
  | .motionTimeout b => Sys2Proof.Machine.execMotionTimeout b s
  | .keepaliveToggle b => Sys2Proof.Machine.execKeepaliveToggle b s
  | .yardModeTaken taken => Sys2Proof.Machine.execYardModeTaken taken s
  | .drain => Sys2Proof.Machine.execDrain s
  | .yardResetEffect start => Sys2Proof.Machine.execYardResetEffect start s
  | .watchExpiry lines => Sys2Proof.Machine.execWatchExpiry lines s
  | .qualification => Sys2Proof.Machine.execQualification s
  | .startTimerExpiry => Sys2Proof.Machine.execStartTimerExpiry s
  | .supplyLow => Sys2Proof.Machine.execSupplyLow s
  | .supplyRestored => Sys2Proof.Machine.execSupplyRestored s
  | .supplyStateTaken reader st => Sys2Proof.Machine.execSupplyStateTaken reader st s
  | .mainDomainStop => Sys2Proof.Machine.execMainDomainStop s
  | .mainReset start => Sys2Proof.Machine.execMainReset start s
  | .calSwitch => Sys2Proof.Machine.execCalSwitch s
  | .frameComplete p => Sys2Proof.Machine.execFrameComplete p s
  | .gapTimerExpiry p => Sys2Proof.Machine.execGapTimerExpiry p s
  | .frameSent p => Sys2Proof.Machine.execFrameSent p s
  | .noticeAdmission p block => Sys2Proof.Machine.execNoticeAdmission p block s
  | .quietTimerExpiry p => Sys2Proof.Machine.execQuietTimerExpiry p s
  | .yardTick lines => Sys2Proof.Machine.execYardTick lines s
  | .converterEdge ch e => Sys2Proof.Machine.execConverterEdge ch e s
  | .characterReceived p c error => Sys2Proof.Machine.execCharacterReceived p c error s

end Sys2Proof.Machine
end

