-- ==== Sys2Proof/Safety.lean ====
section
/-! DEFINITION. The terms in which statements about the part are made: what a command changes and what it leaves, the
answer a request gets, the notices a step posts, and the laws that hold between steps. -/

namespace Sys2Proof.Machine

/-! ### What a command changes -/

/-- A lane without its lamps' working state. -/
def LaneWork.unlit (w : LaneWork) : LaneWork := { w with lamps := Vector.replicate 3 {} }

/-- The whole state but for the ports, the lamps' working state, the level of the alarm line and the check value. Two
states with the same inner state agree on every register, table, timer, latch, setting and waiting event, and on the
queue. -/
def State.inner (s : State) : State :=
  { s with
    check := 0
    main :=
      { s.main with
        lanes := s.main.lanes.map LaneWork.unlit
        sup := { s.main.sup with alarm := false }
        ports := Vector.replicate 6 {} } }

/-- A port without its change latch and without the notices on their way to it. -/
def PortWork.bare (w : PortWork) : PortWork := { w with latch := {}, incoming := [] }

/-- Whether a flag stands in a change latch. -/
def Latch.holds (x : Latch) : Flag → Bool
  | .lanes => x.lanes
  | .decks => x.decks
  | .yardTable => x.yardTable
  | .tareStore => x.tareStore
  | .ticketLog => x.ticketLog
  | .supervision => x.supervision
  | .noticeLost => x.noticeLost
  | .restarted => x.restarted

/-- The change-latch flags that follow from a difference between two states: the yard table (R4), the ticket log (R40),
an arbiter's offer, pending records, current transaction or tailgate latch (R107), a lane's request, feed or timer settings
(R129), and the yard mode, the monitor, the supply state, the alarm line, its sources and its mask (R169, R182). -/
def State.follows (old new : State) : Flag → Bool
  | .yardTable => old.recs.entries != new.recs.entries
  | .ticketLog => old.recs.log != new.recs.log
  | .decks => Deck.all.any fun d => arbiterMarks (old.arb d) != arbiterMarks (new.arb d)
  | .lanes => Lane.all.any fun l => laneMarks old l != laneMarks new l
  | .supervision => supervisorMarks old != supervisorMarks new
  | .tareStore => false
  | .noticeLost => false
  | .restarted => false

/-- The lamps of a lane with each lamp's source judged afresh in a state (R144, R146). -/
def State.judged (s : State) (l : Lane) : Bank 3 LampWork :=
  Vector.ofFn fun k =>
    ((s.lane l).lamps.get k).take ((s.laneCfg l).lamps.get k).stretch (s.lampSource l ((s.laneCfg l).lamps.get k).source)

/-- The state after an event command that a running main domain takes: the delivered event waits no longer, its effect `u`
is made, and the close of the step follows. -/
def State.after (s : State) (c : Instr) (u : State → State) : State := State.settle s (u (s.consume c))

/-- The engine state that an occupancy reading gives an engine that is not OFF and takes no capture (R80). -/
def Occupancy.engineState : Occupancy → EngineState
  | .unknown => .warmup
  | .empty => .empty
  | .loaded => .loaded

/-- What a failed capture leaves (R99, R101): no record, the ended mark, the failure at the records, at the arbiter and at
the ports, and the engine state of the occupancy reading. -/
def State.captureFailed (s : State) (d : Deck) (c : Capture) (reason : FailReason) (window : Option Nat) : State :=
  let t := ((s.modEng d fun g => { g with capture := none, ended := true }).raise
      [.recordsCaptureFailure d c.number reason, .captureFailureAtArbiter d c.number reason]).post
    (.engine d) (.weighingFailed d c.number reason c.failed c.origin) c.origin
  ((t.flag .decks).modEng d fun g => { g with state := g.occupancy.engineState }).post (.engine d)
    (.engineState d .capturing (s.eng d).occupancy.engineState window) |>.flag .decks

/-! ### Requests -/

/-- A request is taken: the main domain runs, and either a port has it in hand (R200 step 5) and it is judged under the
role kept with it, or it comes as a command of its own to a port with no request in hand whose role permits it. -/
abbrev State.Taken (s : State) (c : Instr) (q : Sender) (role : Role) : Prop :=
  s.running = true ∧
    (c ∈ s.main.raised ∧ role = ((s.port q.port).hand.map InHand.role).getD (s.portCfg q.port).role ∨
      c ∉ s.main.raised ∧ (s.port q.port).hand = none ∧
        permitted (s.portCfg q.port).role q.port c.requestCode = true ∧ role = (s.portCfg q.port).role)

/-- The state in which the owning block takes a request: the request waits no longer, or is in hand. -/
def State.handed (s : State) (c : Instr) (q : Sender) : State :=
  if s.main.raised.contains c then s.consume c
  else s.modPort q.port fun p => { p with hand := some { tag := q.tag, role := (s.portCfg q.port).role } }

/-- The state after a request that is taken: its effect `u`, its answer `r` at its port, and the close of the step. -/
def State.answered (s : State) (c : Instr) (q : Sender) (u : State → State) (r : Reply) : State :=
  State.settle s ((u (s.handed c q)).reply q c.requestCode r)

/-- The state after a request that is refused with a code, or answered by a code alone: nothing but its answer. -/
def State.refusal (s : State) (c : Instr) (q : Sender) (code : AnswerCode) : State := s.answered c q id (.only code)

/-! ### Laws that hold between steps -/

/-- The next material of a SPLIT recall (R7) or of a SPLIT pass that has no weighing yet (R9), if any. -/
def Entry.nextMaterial (e : Entry) : Option Nat :=
  match e.recallIntent, e.pass with
  | some { intent := .split m, origin := _ }, _ => some m
  | _, some { purpose := .split m, deck := _, status := .awaiting } => some m
  | _, some { purpose := .split m, deck := _, status := .failed _ } => some m
  | _, _ => none

/-- A transaction entry (R2): its ranges, the fields that its state and its flags give it, and the counts of its weighings
and material lines, which the purposes of its passes keep in step (R9, R10): a TWO_PASS entry that has not been weighed
holds one material line, and an entry with CLOSURE_PENDING holds every weighing that its closure needs. -/
structure Entry.Law (e : Entry) : Prop where
  number : 1 ≤ e.number ∧ e.number ≤ 65535
  plate : plateOk e.plate = true
  account : e.account ≤ 999999
  hold : ∀ h, e.hold = some h → 1 ≤ h.reason ∧ h.reason ≤ 255
  lines : 1 ≤ e.lines.length ∧ e.lines.length + (if e.nextMaterial.isSome then 1 else 0) ≤ 5
  materials : ∀ m ∈ e.lines ++ e.nextMaterial.toList, 1 ≤ m ∧ m ≤ 9999
  blocked : e.blocked.isSome = true ↔ e.closurePending = true
  request : e.request.isSome = true ↔ e.state = .admitted ∨ e.state = .recalled
  intent : e.recallIntent.isSome = true ↔ e.state = .recalled
  pass : e.pass.isSome = true ↔ e.state = .onDeck
  departure : e.departure.isSome = true → e.state = .onDeck
  snapshot : e.snapshot.isSome = true ↔ e.mode = .storedTare
  calm : e.state = .admitted ∨ e.state = .recalled → e.closurePending = false
  weighings : e.weighings = [] ∨ (e.mode = .twoPass ∧ e.weighings.length = e.lines.length) ∨
    ((e.closurePending = true ∨ e.finished = true) ∧
      e.weighings.length = if e.mode = .twoPass then e.lines.length + 1 else 1)
  unweighed : e.mode = .twoPass → e.weighings = [] → e.lines.length = 1
  pending : e.closurePending = true → e.weighings.length = if e.mode = .twoPass then e.lines.length + 1 else 1
  split : e.mode ≠ .twoPass → e.nextMaterial = none
  purpose : ∀ ps, e.pass = some ps → ps.status ≠ .done → e.closurePending = false ∧
    (match ps.purpose with
    | .first => e.mode = .twoPass ∧ e.weighings = []
    | .split _ => e.mode = .twoPass ∧ e.weighings.length = e.lines.length
    | .final => e.mode = .twoPass ∧ e.weighings.length = e.lines.length
    | .gross => e.mode = .storedTare ∧ e.weighings = []
    | .tare => e.mode = .tareOnly ∧ e.weighings = [])

/-- The yard records (R1, R3, R27, R40): the tables keep to their sizes, no two entries share a number or a plate, no two
tares share a plate, the collected tickets are the oldest, and ticket numbers follow one another up to the counter. -/
structure Records.Law (r : Records) : Prop where
  table : r.entries.length ≤ 96
  numbers : (r.entries.map Entry.number).Nodup
  plates : (r.entries.map Entry.plate).Nodup
  store : r.tares.length ≤ 256
  tarePlates : (r.tares.map Tare.plate).Nodup
  log : r.log.length ≤ 512
  oldest : r.log.Pairwise fun a b => b.collected = true → a.collected = true
  consecutive : r.log.IsChain fun a b => b.number = succTicket a.number
  next : ∀ t, r.log.getLast? = some t → r.counter = some (succTicket t.number)

/-- A tare goes no later than another in the order of eviction (R29): by the expiry date, then by the date stored, then by
the plate, character by character, a shorter plate below a longer one that begins with it. -/
def Tare.goesFirst (a b : Tare) : Prop :=
  dateKey a.expiry < dateKey b.expiry ∨
    (dateKey a.expiry = dateKey b.expiry ∧
      (dateKey a.stored < dateKey b.stored ∨
        (dateKey a.stored = dateKey b.stored ∧ a.plate.map BitVec.toNat ≤ b.plate.map BitVec.toNat)))

/-- A deck arbiter (R107): an offer stands only in FREE, a grant exactly in GRANTED and a current transaction exactly in
OCCUPIED; the proceed timer runs exactly until the arrival (R115). -/
structure Arbiter.Law (a : Arbiter) : Prop where
  offer : a.offer.isSome = true → a.state = .free
  grant : a.grant.isSome = true ↔ a.state = .granted
  current : a.current.isSome = true ↔ a.state = .occupied
  timer : ∀ g, a.grant = some g → g.arrived = g.timer.isNone

/-- A lane controller (R129, R136): which items are present in which states, and where a request stands filed. -/
structure LaneWork.Law (w : LaneWork) : Prop where
  request : w.request.isSome = true ↔ w.state = .waiting ∨ w.state = .go
  grant : w.grant.isSome = true ↔ w.state = .go
  absence : w.absence.isSome = true → w.state = .waiting
  stuck : w.stuck.isSome = true ↔ w.state = .present
  filed : ∀ r, w.request = some r → r.filed.a = true ∨ r.filed.b = true
  held : ∀ r d, w.request = some r → w.grant = some d → r.filed.get d = true ∧ r.filed.get (Deck.other d) = false

/-- A barrier controller (R149, R165): which items are present in which states. -/
structure BarrierWork.Law (w : BarrierWork) : Prop where
  cause : w.cause.isSome = true ↔ w.state = .fault
  motion : w.motion.isSome = true ↔ w.state = .raising ∨ w.state = .lowering
  reversal : w.reversal = true → w.state = .raising
  closeDelay : w.closeDelay.isSome = true → w.state = .up ∨ w.state = .stopped
  latch : w.latch = true → w.state = .raising ∨ w.state = .up
  keepalive : w.half.isSome = true → w.state ≠ .fault

/-- A weigh engine (R80, R87): OFF holds no history, no reading, no capture and no collection, and any other state is the
one that the capture and the occupancy reading give. -/
structure Engine.Law (g : Engine) : Prop where
  active : g.state ≠ .off → g.state = g.activeState
  off : g.state = .off →
    g.filter = [] ∧ g.stab = [] ∧ g.occupancy = .unknown ∧ g.latest = none ∧ g.capture = none ∧ g.collection = none

/-- The deck zero stays within the zero limit (R103). -/
abbrev DeckCfg.ZeroLaw (c : DeckCfg) : Prop := |c.zd| ≤ c.zlim

/-- A station port (R197): its lists and counters keep to their ranges, and answers are held back only while the request in
hand is unanswered (R202, log 37). -/
structure PortWork.Law (w : PortWork) : Prop where
  held : w.held ≠ [] → w.unanswered = true
  queue : w.queue.length ≤ 32
  early : w.earlyWaiting ≤ 4
  number : w.number ≤ 65535
  floor : w.floor ≤ 3
  quiet : ∀ n, w.quiet = some n → n ≤ 6553500
  errors : w.errors ≤ 65535

/-- The answers of the ports (R197, R200): a port has its answer to the request in hand, among the answers waiting or on the
line, exactly when the owning block has answered that request; the answers held back are of steps 1 to 4 of R200; and
exactly the requests in hand that have no answer yet wait for their blocks. -/
structure State.AnswersLaw (s : State) : Prop where
  own : ∀ p, ((s.port p).answers.filter fun a => !a.early).length
      + (if (s.port p).sending.any Sending.answersHand then 1 else 0) =
    if (s.port p).hand.any InHand.answered then 1 else 0
  held : ∀ p, ∀ a ∈ (s.port p).held, a.early = true
  handed : ∀ p, (s.main.raised.filter fun c => c.spelling.any fun x => x.1.port == p).length =
    if (s.port p).unanswered then 1 else 0

/-- The alarm line (R182): ASSERTED exactly while a source is both true and UNMASKED. -/
abbrev State.AlarmLaw (s : State) : Prop := s.running = true → s.sup.alarm = s.alarming.any

/-- The check value is that of the contents of the backup domain (R181). -/
abbrev State.CheckLaw (s : State) : Prop := s.check = checkValue s.backup

/-- All the laws together. -/
structure State.Law (s : State) : Prop where
  records : s.recs.Law
  entries : ∀ e ∈ s.recs.entries, e.Law
  arbiters : ∀ d, (s.arb d).Law
  lanes : ∀ l, (s.lane l).Law
  barriers : ∀ b, (s.bar b).Law
  engines : ∀ d, (s.eng d).Law
  zero : ∀ d, (s.deckCfg d).ZeroLaw
  ports : ∀ p, (s.port p).Law
  answers : s.AnswersLaw
  alarm : s.AlarmLaw
  check : s.CheckLaw

end Sys2Proof.Machine
end

