-- ==== Sys2Proof/WellFormed.lean ====
section
/-! DEFINITION. Well-formed commands: a request's arguments fit the fields that carry them (R213, R215), and an
event's values lie in the ranges the spec gives them. -/

namespace Sys2Proof

/-- A numeric argument fits 32 bits (R213). -/
def fitsU32 (n : Nat) : Bool := n < 4294967296
/-- A signed numeric argument fits 32 bits in two's complement (R213, R215). -/
def fitsS32 (i : Int) : Bool := -2147483648 ≤ i && i < 2147483648
/-- An enumeration or a flag set is one byte (R215). -/
def fitsByte (n : Nat) : Bool := n < 256
/-- A text argument is at most 12 characters long (R213). -/
def fitsText (t : List Byte) : Bool := t.length ≤ 12
/-- An optional number fits where it is present. -/
def fitsOptU32 (o : Option Nat) : Bool := o.all fitsU32
/-- A transaction number is 0 to 65,535. -/
def fitsU16 (n : Nat) : Bool := n ≤ Config.u16Max
/-- Priorities are 0 to 3 (R2). -/
def fitsPriority (n : Nat) : Bool := n ≤ 3

/-- A window record's numbers lie in the ranges of R51, R55 and R56. -/
def WindowRecord.wf (w : WindowRecord) : Bool :=
  w.number < Config.windowNumbers && w.closing ≤ Config.msMax && w.length ≤ 400
    && w.channels.length ≤ 16 && w.channels.all (fun c => c.count ≤ Config.countMax)

/-- A capture result's numbers lie in their ranges: the number of R2, a division of R67. -/
def CaptureResult.wf (r : CaptureResult) : Bool :=
  fitsU16 r.number && fitsS32 r.weight && [5, 10, 20, 50, 100].contains r.division && r.window < Config.windowNumbers

/-- The input an edge is taken from is one the engine of the deck reads (R86, R127). -/
def positioningInput (d : Deck) : Input → Bool
  | .stop _ => false
  | .boom b => b.deck == d
  | .beam1 d' => d' == d
  | .beam2 d' => d' == d

/-- The well-formed commands. -/
def Instr.wf : Instr → Bool
  | .identify _ lane plate tag mode account material intent priority =>
      fitsU32 lane && fitsText plate && fitsOptU32 tag && fitsByte mode && fitsU32 account && fitsU32 material
        && fitsByte intent && fitsU32 priority
  | .listYard _ => true
  | .readTransaction _ n => fitsU32 n
  | .findPlate _ t => fitsText t
  | .hold _ n r => fitsU32 n && fitsU32 r
  | .releaseHold _ n => fitsU32 n
  | .amend _ n a l => fitsU32 n && fitsOptU32 a && l.all (fun p => fitsU32 p.1 && fitsU32 p.2)
  | .cancelTransaction _ n => fitsU32 n
  | .quarantine _ n => fitsU32 n
  | .close _ n => fitsU32 n
  | .forceExit _ n => fitsU32 n
  | .storeTare _ t tag w c v a => fitsText t && fitsOptU32 tag && fitsS32 w && fitsByte c && fitsU32 v && fitsU32 a
  | .deleteTare _ t => fitsText t
  | .readTare _ t => fitsText t
  | .listTares _ n => fitsU32 n
  | .setTareValidity _ l d => fitsU32 l && fitsU32 d
  | .setClock _ y mo d h mi s =>
      (2000 ≤ y && y ≤ 2255) && fitsByte mo && fitsByte d && fitsByte h && fitsByte mi && fitsByte s
  | .setTicketBase _ n => fitsU32 n
  | .voidTicket _ n r => fitsU32 n && fitsU32 r
  | .readClock _ => true
  | .collectNext _ => true
  | .readTicket _ n => fitsU32 n
  | .confirmCollected _ n => fitsU32 n
  | .setChannelMap _ c m p => fitsU32 c && fitsByte m && fitsByte p
  | .setChannelLimits _ c l h => fitsU32 c && fitsU32 l && fitsU32 h
  | .clearFaults _ c s => fitsU32 c && fitsByte s
  | .readChannels _ d => fitsU32 d
  | .setOccupancy _ d t => fitsU32 d && fitsU32 t
  | .readDeck _ d => fitsU32 d
  | .setCaptureOptions _ d a n x => fitsU32 d && fitsU32 a && fitsU32 n && fitsByte x
  | .capture _ d => fitsU32 d
  | .abortCapture _ d => fitsU32 d
  | .zeroDeck _ d => fitsU32 d
  | .readCapture _ d => fitsU32 d
  | .setProceedTime _ d s => fitsU32 d && fitsU32 s
  | .clearTailgate _ d => fitsU32 d
  | .setDeckService _ d s => fitsU32 d && fitsByte s
  | .readDeckState _ d => fitsU32 d
  | .setConditioner _ i p d => fitsByte i && fitsByte p && fitsU32 d
  | .setLaneTimers _ l a s => fitsU32 l && fitsU32 a && fitsU32 s
  | .setLaneFeed _ l f => fitsU32 l && fitsByte f
  | .setLaneMode _ l m => fitsU32 l && fitsByte m
  | .setLamp _ l p s b t => fitsU32 l && fitsU32 p && fitsByte s && fitsByte b && fitsU32 t
  | .setSignalHead _ l p => fitsU32 l && fitsU32 p
  | .setLampInvert _ f => fitsByte f
  | .readInputs _ => true
  | .readLane _ l => fitsU32 l
  | .setBarrier _ b f m c h => fitsByte b && fitsByte f && fitsU32 m && fitsU32 c && fitsU32 h
  | .barrierReset _ b => fitsByte b
  | .barrierCommand _ b a => fitsByte b && fitsByte a
  | .readBarriers _ => true
  | .setYardMode _ m => fitsByte m
  | .yardReset _ => true
  | .setAlarmMask _ s m => fitsByte s && fitsByte m
  | .readSupervisor _ => true
  | .setMetrology _ d m a b e1 e2 w f s =>
      fitsU32 d && fitsByte m && fitsU32 a && fitsU32 b && fitsU32 e1 && fitsU32 e2 && fitsU32 w && fitsU32 f && fitsU32 s
  | .setChannelFactor _ c k => fitsU32 c && fitsU32 k
  | .setChannelZero _ c z => fitsU32 c && fitsU32 z
  | .calZeroDeck _ d => fitsU32 d
  | .calSpanDeck _ d l => fitsU32 d && fitsS32 l
  | .abortCalibration _ d => fitsU32 d
  | .readCalibration _ d => fitsU32 d
  | .setPortRole _ p r => fitsU32 p && fitsByte r
  | .bindKiosk _ p l => fitsU32 p && fitsU32 l
  | .setPortRate _ p r => fitsU32 p && fitsU32 r
  | .readPorts _ => true
  | .setNoticeFloor _ f => fitsU32 f
  | .quiet _ n => fitsU32 n
  | .readStatus _ => true
  | .withdrawalReport n _ => fitsU16 n
  | .entryPassageReport _ n => fitsU16 n
  | .recordsCaptureCompletion r => r.wf
  | .recordsCaptureFailure _ n _ => fitsU16 n
  | .exitPassageReport _ n => fitsU16 n
  | .yardClockSecond => true
  | .windowClose _ => true
  | .engineWindow w => w.wf
  | .captureStart _ => true
  | .recordsAbort _ n => fitsU16 n
  | .captureExternalEnd _ _ => true
  | .attemptTimerExpiry _ => true
  | .leaveDeckTimerExpiry _ => true
  | .positioningEdge d i _ => positioningInput d i
  | .filing _ _ n _ p => fitsU16 n && fitsPriority p
  | .withdrawal _ _ => true
  | .choice _ => true
  | .acceptance _ _ n => fitsU16 n
  | .decline _ _ n => fitsU16 n
  | .proceedTimeout _ => true
  | .entryLoopEdgeAtArbiter _ _ => true
  | .exitLoopEdgeAtArbiter _ _ => true
  | .exitReleaseAtArbiter _ n => n.all fitsU16
  | .captureCompletionAtArbiter r => r.wf
  | .captureFailureAtArbiter _ n _ => fitsU16 n
  | .forceExitNoticeAtArbiter _ n => fitsU16 n
  | .barrierStateTaken reader b _ =>
      match reader with
      | .lane _ => b.isEntry
      | .arbiter => true
      | .supervisor => true
  | .deckEmpty _ => true
  | .conditionerEdge _ => true
  | .stopLoopEdge _ _ => true
  | .stuckTimerExpiry _ => true
  | .filingOrder _ n _ p => fitsU16 n && fitsPriority p
  | .absenceTimerExpiry _ => true
  | .cancelOrder _ n => fitsU16 n
  | .offerAtLane _ _ n => fitsU16 n
  | .grantWithdrawnAtLane _ _ n _ => fitsU16 n
  | .entryPassageAtLane _ _ n => fitsU16 n
  | .stretchTimerExpiry _ _ => true
  | .limitEvent _ _ => true
  | .permissiveRise _ => true
  | .permissiveFall _ => true
  | .barrierLoopEdge _ _ => true
  | .closeDelayExpiry _ => true
  | .motionTimeout _ => true
  | .keepaliveToggle _ => true
  | .yardModeTaken _ => true
  | .drain => true
  | .yardResetEffect _ => true
  | .watchExpiry _ => true
  | .qualification => true
  | .startTimerExpiry => true
  | .supplyLow => true
  | .supplyRestored => true
  | .supplyStateTaken _ _ => true
  | .mainDomainStop => true
  | .mainReset _ => true
  | .calSwitch => true
  | .frameComplete _ => true
  | .gapTimerExpiry _ => true
  | .frameSent _ => true
  | .noticeAdmission _ _ => true
  | .quietTimerExpiry _ => true
  | .yardTick _ => true
  | .converterEdge _ _ => true
  | .characterReceived _ _ _ => true

end Sys2Proof
end

