-- ==== Sys2Proof/Certificates/Slice0/Obligations.lean ====
section
/-! DEFINITION. The statements for the provers. Most have one form: for every state and every operand under which a
command is taken, `exec` answers a next state, and that state is spelled out: `State.after` for an event and
`State.answered` for a request, whose argument is the whole effect written from the rules, so that all it does not name is
left as it was (the close of a step, `CloseOfAStep`, says what follows of itself). -/

section

open Sys2Proof Sys2Proof.Machine

/-! ### The whole part -/

/-- The queue is first in, first out: a step takes the command at its front and runs it with the rest of the queue; with
nothing waiting the part idles (DESIGN CHOICE, log 1). -/
def Obligations.StepTakesTheFront : Prop :=
  (∀ (s : State) (c : Instr) (rest : List Instr), s.pending = c :: rest →
    step s = exec c { s with pending := rest }) ∧
  ∀ s : State, s.pending = [] → step s = .next s

/-- Every command answers a next state, in every state and with every operand, and leaves the queue alone. No rule gives a
command that stops the part; that none does is the model's reading (log 6), and so is that a restart keeps the queue (log
19). -/
def Obligations.EveryCommandCompletes : Prop :=
  ∀ (c : Instr) (s : State), ∃ t, exec c s = .next t ∧ t.pending = s.pending

/-- While the main domain is stopped nothing in it moves: of all commands, only a main reset makes it run again, a further
stop is remembered, and the yard clock counts in the backup domain on the backup oscillator, with the check value kept up to
date (R38, R179, R181). That a tick counts past 999 there, that the mark of the second is kept with the count, and that the
second is carried by a command of its own, which takes 1,000 from the count, are the model's choices (log 9). -/
def Obligations.StoppedMainDomain : Prop :=
  ∀ (c : Instr) (s : State), s.running = false →
    match c with
    | .mainReset _ => ∃ t, exec c s = .next t ∧ t.running = true
    | .mainDomainStop => exec c s = .next (s.modSup fun v => { v with dip := true })
    | .yardClockSecond => exec c s = .next ((s.consume c).modRecs Records.second).seal
    | .yardTick _ =>
        exec c s = .next (s.modRecs fun r =>
          match r.clock with
          | none => r
          | some now => if now = lastSecond then r else { r with subSecond := r.subSecond + 1, subBackup := true }).seal
    | _ => exec c s = .next s

/-- The close of every step: the effect is kept whole; the lamps that read a changed lane state, feed or deck state judge
their sources (R144, R146); the alarm line is ASSERTED exactly while a source is true and UNMASKED, and a change of it
posts ALARM_LINE (R182); the change latches take exactly the flags that follow from the step (R4, R40, R107, R129, R169);
and the check value is that of the contents of the backup domain (R181). That lamps, line and flags follow in the same
step, and that a source set or cleared while the line stays RELEASED sets the supervision flag, are the model's choices
(log 8), and so is that lamps reading the yard mode or a barrier FAULT wait for its delivery (log 7). That ALARM_LINE
stands behind the other notices of the step is the model's choice (log 38).

What a lamp's source reads, what its output is, and how the line of a lamp is driven (R144, R145, R146); and the drives of
a boom (R149). That the YARD_CLOSED and FAULT sources go by the yard mode and the barrier states that the lane last took
is the model's choice (log 7). -/
def Obligations.CloseOfAStep : Prop :=
  (
    ∀ old new : State,
      let t := State.settle old new
      t.inner = new.inner ∧ t.check = checkValue new.backup ∧
      (∀ l, (t.lane l).lamps = if lampsStale old new l then new.judged l else (new.lane l).lamps) ∧
      t.sup.alarm = new.alarming.any ∧
      (∀ p, (t.port p).bare = (new.port p).bare) ∧
      (∀ p, (t.port p).incoming = (new.port p).incoming ++
        (if new.sup.alarm = new.alarming.any then [] else
          [{ block := .supervisor, body := .alarmLine new.alarming.any new.alarming, at_ := new.ms, origin := none }])) ∧
      ∀ p f, (t.port p).latch.holds f = ((new.port p).latch.holds f || old.follows t f)) ∧
  (
    ∀ (s : State) (l : Lane),
      (∀ x, s.lampSource l x = true ↔
        match x with
        | .stop => (s.lane l).state ≠ .go
        | .go => (s.lane l).state = .go
        | .waiting => (s.lane l).state = .waiting
        | .present => (s.lane l).state = .present
        | .fault =>
            (s.lane l).state = .fault ∨ ∃ d, (s.laneCfg l).feed.has d = true ∧ s.boomAtLane l (Deck.entry d) = .fault
        | .deckBusy => ∀ d, (s.laneCfg l).feed.has d = true → (s.arb d).state ≠ .free
        | .yardClosed => s.modeAt (.lane l) = .closed
        | .on => True
        | .off => False) ∧
      (∀ k, s.lampOutput l k =
        if ((s.lane l).lamps.get k).value = true then
          if ((s.laneCfg l).lamps.get k).blink = true then
            decide (s.ms % (s.laneCfg l).blinkPeriod < (s.laneCfg l).blinkPeriod / 2)
          else true
        else ((s.lane l).lamps.get k).stretch.isSome) ∧
      (∀ k, s.lampLine l k = if s.backup.lampInvert = true then !s.lampOutput l k else s.lampOutput l k) ∧
      (∀ (w : LampWork) (stretch : Nat) (v : Bool), w.take stretch v =
        if v = w.value then w
        else if v = true then { value := true, stretch := none }
        else { value := false, stretch := if 0 < stretch then some stretch else none }) ∧
      ∀ b, ((s.bar b).raiseDrive = true ↔ (s.bar b).state = .raising) ∧
        ((s.bar b).lowerDrive = true ↔ (s.bar b).state = .lowering))

/-- The state after a reset that lost the backup domain holds every law of the part. -/
def Obligations.ResetIsLawful : Prop := State.reset.Law

/-! ### Laws that every step keeps -/

/-- The yard records keep their sizes, keys and order at every step (R1, R3, R27, R40, R42). -/
def Obligations.RecordsLawKept : Prop :=
  ∀ s t : State, s.recs.Law → step s = .next t → t.recs.Law

/-- An entry keeps its fields to the states that R2 gives them at every step: request, intent, pass, departure and
snapshot where they belong, the last blocked reason with CLOSURE_PENDING, and the counts of its weighings and material
lines, one line for a TWO_PASS entry that has not been weighed and every weighing that its closure needs for one with
CLOSURE_PENDING (R2, R7, R9, R10, R13). -/
def Obligations.EntryLawKept : Prop :=
  ∀ s t : State, s.recs.Law → (∀ e ∈ s.recs.entries, e.Law) → step s = .next t → ∀ e ∈ t.recs.entries, e.Law

/-- A ticket that has not been collected stays in the log, uncollected and with its content unchanged, over every step but a
start that loses the backup domain and a confirmation that reaches it (R40, R46). -/
def Obligations.UncollectedTicketsStay : Prop :=
  ∀ (s t : State) (k : Ticket), s.recs.Law → step s = .next t → k ∈ s.recs.log → k.collected = false →
    (∀ c rest, s.pending = c :: rest →
      match c with
      | .mainReset x => s.backupOk x = true
      | .yardResetEffect x => s.backupOk x = true
      | .confirmCollected _ n => ∃ older last newer, s.recs.log = older ++ last :: newer ∧ last.number = n ∧ k ∈ newer
      | _ => True) →
      ∃ k' ∈ t.recs.log, { k' with voided := k.voided } = k

/-- A deck has at most one offer and one grant and never both: an offer stands only in FREE, a grant exactly in GRANTED, a
current transaction exactly in OCCUPIED (R107). -/
def Obligations.ArbiterLawKept : Prop :=
  ∀ (s t : State) (d : Deck), (s.arb d).Law → step s = .next t → (t.arb d).Law

/-- What is present in which barrier state is kept at every step (R149).

What is present in which lane state is kept at every step (R129, R136). -/
def Obligations.BarrierAndLaneLawsKept : Prop :=
  (
    ∀ (s t : State) (b : Barrier), (s.bar b).Law → step s = .next t → (t.bar b).Law) ∧
  (
    ∀ (s t : State) (l : Lane), (s.lane l).Law → step s = .next t → (t.lane l).Law)

/-- No boom starts down on a vehicle: a step that finds a barrier out of LOWERING and leaves it LOWERING leaves its boom
loop clear (R158, R164). -/
def Obligations.NoBoomComesDownOnAVehicle : Prop :=
  ∀ (s t : State) (b : Barrier), step s = .next t → (s.bar b).state ≠ .lowering → (t.bar b).state = .lowering →
    (t.inp (.boom b)).debounced = .clear

/-- A deck has at most one capture in flight, and its engine is CAPTURING exactly while the record exists; an engine that is
OFF holds no histories, reading, capture or collection (R80, R87).

A deck's zero offset stays within 2 percent of Max2 (R103). -/
def Obligations.EngineAndZeroLawsKept : Prop :=
  (
    ∀ (s t : State) (d : Deck), (s.eng d).Law → step s = .next t → (t.eng d).Law) ∧
  (
    ∀ (s t : State) (d : Deck), (s.deckCfg d).ZeroLaw → step s = .next t → (t.deckCfg d).ZeroLaw)

/-- The lists and counters of a station port keep to their ranges (R197, R200, R207, R209). That answers are held back
behind a request in hand that its block has not answered yet, and the list that holds them, are the model's choice (log
37).

A port has its answer to the request in hand, waiting or on the line, exactly when the owning block has answered it; the
answers held back are of steps 1 to 4 of R200; and exactly the requests in hand that have no answer yet wait for their
blocks (R200; that they wait in a list of delivered events is the model's choice, log 3). A port that keeps these laws has
at most 5 answers waiting, at most one of them to the request in hand (R197). -/
def Obligations.PortLawKept : Prop :=
  (∀ (s t : State) (p : Port), (s.port p).Law → step s = .next t → (t.port p).Law) ∧
  (∀ s t : State, s.AnswersLaw → step s = .next t → t.AnswersLaw) ∧
  ∀ (s : State) (p : Port), s.AnswersLaw → (s.port p).Law →
    ((s.port p).answers ++ (s.port p).held).length ≤ 5 ∧
      (((s.port p).answers ++ (s.port p).held).filter fun a => !a.early).length ≤ 1

/-- The alarm line is ASSERTED exactly while a source is both true and UNMASKED (R182). That it is so after every step is
the model's choice (log 8).

The eight alarm sources, each with its condition, and the line: ASSERTED while a source is both true and UNMASKED (R182).
That the sources, a barrier's FAULT and the supply among them, go by what stands, and not by a state delivered to the
supervisor, is the model's choice (log 7).

The check value is that of the contents of the backup domain after every step (R181). Its function is not stated, and the
statement holds for any (FREE VALUE, log 29). -/
def Obligations.AlarmLineFollowsItsSources : Prop :=
  (
    ∀ s t : State, s.AlarmLaw → step s = .next t → t.AlarmLaw) ∧
  (
    ∀ s : State,
      (s.sources.barrierFault = true ↔ ∃ b, (s.bar b).state = .fault) ∧
      (s.sources.channelFault = true ↔ ∃ c, (s.chan c).latch ≠ {}) ∧
      (s.sources.clockSubstitute = true ↔ s.sup.monitor = .substitute) ∧
      (s.sources.supplyLow = true ↔ s.sup.supply = .supplyLow) ∧
      (s.sources.zeroLimit = true ↔ ∃ d, (s.eng d).zeroLimit = true) ∧
      (s.sources.logNearFull = true ↔ 480 ≤ (s.recs.log.filter fun t => !t.collected).length) ∧
      (s.sources.tailgate = true ↔ ∃ d, (s.arb d).tailgate = true) ∧
      (s.sources.closurePending = true ↔ ∃ e ∈ s.recs.entries, e.closurePending = true) ∧
      s.alarming =
        { barrierFault := s.sources.barrierFault && !s.backup.mask.barrierFault
          channelFault := s.sources.channelFault && !s.backup.mask.channelFault
          clockSubstitute := s.sources.clockSubstitute && !s.backup.mask.clockSubstitute
          supplyLow := s.sources.supplyLow && !s.backup.mask.supplyLow
          zeroLimit := s.sources.zeroLimit && !s.backup.mask.zeroLimit
          logNearFull := s.sources.logNearFull && !s.backup.mask.logNearFull
          tailgate := s.sources.tailgate && !s.backup.mask.tailgate
          closurePending := s.sources.closurePending && !s.backup.mask.closurePending } ∧
      (s.alarming.any = false ↔ s.alarming = {})) ∧
  (
    ∀ s t : State, s.CheckLaw → step s = .next t → t.CheckLaw)

/-! ### Requests -/

/-- A request, spelled as its station sends it, is read back from its frame with every argument (R205, R213, R215).
That the threshold of SET_OCCUPANCY is unsigned is the model's choice (log 15). -/
def Obligations.RequestRoundTrip : Prop :=
  ∀ (c : Instr) (q : Sender) (kind : Nat) (args : List Arg), c.wf = true → c.spelling = some (q, kind, args) →
    decodeRequest q kind (writeArgs args) = some c

/-- Every request that is taken is given one answer at its port under its own tag and kind; a refused one changes nothing
else (R200, R206).

A request that comes to a port with one in hand is answered PORT_BUSY, and one its role does not permit NOT_PERMITTED;
where 4 such answers wait, it is an overrun and counts as a frame error (R200). That a request command its port has not
handed on is judged so is the model's choice (log 4), and so is that an answer given while the request in hand has not
been answered waits behind that answer (R202, log 37).

The permission table, row by row: what a kiosk, an office and a console port may send, what is permitted on P0 alone, and
that a port of role NONE is refused everything (R200, R205). -/
def Obligations.RequestsAreAnswered : Prop :=
  (
    ∀ (c : Instr) (q : Sender) (kind : Nat) (args : List Arg) (role : Role) (s : State),
      c.spelling = some (q, kind, args) → s.Taken c q role →
        ∃ (u : State → State) (r : Reply), exec c s = .next (s.answered c q u r) ∧
          (r.code ∈ [AnswerCode.ok, .clamped, .started] ∨ ∀ x, u x = x)) ∧
  (
    ∀ (c : Instr) (q : Sender) (kind : Nat) (args : List Arg) (s : State),
      c.spelling = some (q, kind, args) → s.running = true → c ∉ s.main.raised →
        (((s.port q.port).hand.isSome = true →
          exec c s = .next (State.settle s (s.modPort q.port fun p => p.early q.tag (BitVec.ofNat 8 kind) .portBusy))) ∧
        ((s.port q.port).hand = none → permitted (s.portCfg q.port).role q.port kind = false →
          exec c s =
            .next (State.settle s (s.modPort q.port fun p => p.early q.tag (BitVec.ofNat 8 kind) .notPermitted)))) ∧
        ∀ (p : PortWork) (code : AnswerCode),
          p.early q.tag (BitVec.ofNat 8 kind) code =
            (let a : Answer := { tag := q.tag, kind := BitVec.ofNat 8 kind, code := code, payload := [], early := true }
            if (p.answers.filter Answer.early).length + (p.held.filter Answer.early).length < 4 then
              if ∃ h, p.hand = some h ∧ h.answered = false then PortWork.kick { p with held := p.held ++ [a] }
              else PortWork.kick { p with answers := p.answers ++ [a] }
            else { p with errors := if p.errors < 65535 then p.errors + 1 else p.errors })) ∧
  (
    ∀ (c : Instr) (q : Sender) (kind : Nat) (args : List Arg) (role : Role) (p : Port), c.spelling = some (q, kind, args) →
      permitted role p kind =
        match role with
        | .none => false
        | .kiosk =>
          (match c with
          | .identify .. | .findPlate .. | .readClock .. | .readDeck .. | .readLane .. | .readSupervisor ..
          | .setNoticeFloor .. | .quiet .. | .readStatus .. => true
          | _ => false)
        | .office =>
          (match c with
          | .listYard .. | .readTransaction .. | .findPlate .. | .storeTare .. | .deleteTare .. | .readTare .. | .listTares ..
          | .readClock .. | .collectNext .. | .readTicket .. | .confirmCollected .. | .readChannels .. | .readDeck ..
          | .readCapture .. | .readDeckState .. | .readInputs .. | .readLane .. | .readBarriers .. | .readSupervisor ..
          | .readCalibration .. | .setNoticeFloor .. | .quiet .. | .readStatus .. => true
          | _ => false)
        | .console =>
          match c with
          | .setPortRole .. | .bindKiosk .. | .setPortRate .. => decide (p = 0)
          | _ => true)

/-! ### The yard table -/

/-- IDENTIFY is judged first by its lane (R140) and its arguments (R5): a kiosk port acts for the lane bound to it, a
console port for the lane it names.

IDENTIFY of a plate that an entry holds is a recall of that entry: its six tests in their order, and the change it makes
(R5, R7). The byte 01h that stands for RECALLED in the answer, and the place of a clamped priority behind the number and
that byte, are the model's choices (log 15), and the records go by the yard mode they last took (R170, log 7). -/
def Obligations.IdentifyRefusesOrRecalls : Prop :=
  (
    ∀ (s : State) (q : Sender) (lane : Nat) (plate : List Byte) (tag : Option Nat)
      (mode account material intent priority : Nat) (role : Role),
      let c := Instr.identify q lane plate tag mode account material intent priority
      s.Taken c q role →
        (role = .kiosk → (s.portCfg q.port).binding = none → exec c s = .next (s.refusal c q .notBound)) ∧
        (role ≠ .kiosk → 4 ≤ lane → exec c s = .next (s.refusal c q .badArgument)) ∧
        ((role = .kiosk ∧ (s.portCfg q.port).binding.isSome = true ∨ role ≠ .kiosk ∧ lane < 4) →
          (3 ≤ mode ∨ 2 ≤ intent ∨ plateOk (trimPlate plate) = false ∨ 999999 < account ∨ material = 0 ∨ 9999 < material) →
            exec c s = .next (s.refusal c q .badArgument))) ∧
  (
    ∀ (s : State) (q : Sender) (lane : Nat) (plate : List Byte) (tag : Option Nat)
      (mode account material intent priority : Nat) (role : Role) (l : Lane) (e : Entry),
      let c := Instr.identify q lane plate tag mode account material intent priority
      let pr := min priority (if role = .kiosk then 1 else 3)
      s.Taken c q role → s.identifyLane role q lane = .inl l → mode < 3 → intent < 2 → plateOk (trimPlate plate) = true →
      account ≤ 999999 → 1 ≤ material → material ≤ 9999 → s.recs.findPlate (trimPlate plate) = some e →
        exec c s = .next
          (if (s.lane l).state ≠ .present then s.refusal c q .noVehicle
            else if s.modeAt .records = .closed then s.refusal c q .yardClosed
            else if (e.state ≠ .inYard ∧ e.state ≠ .quarantine) ∨ e.closurePending = true then s.refusal c q .wrongState
            else if e.mode ≠ .twoPass ∧ intent = 1 then s.refusal c q .badArgument
            else if intent = 0 ∧ e.hold.isSome then s.refusal c q .held
            else if intent = 1 ∧ 5 ≤ e.lines.length then s.refusal c q .linesFull
            else
              s.answered c q
                (fun r =>
                  (r.modEntry e.number fun x =>
                    { x with
                      state := .recalled, request := some { lane := l, priority := pr }
                      recallIntent := some
                        { intent := if intent = 0 then .final else .split material
                          origin := if e.state = .inYard then .inYard else .quarantine }
                      tag := if x.tag.isSome then x.tag else tag }).raise [.filingOrder l e.number .recall pr])
                (if pr = priority then .ok (u16 e.number ++ u8 1)
                  else { code := .clamped, payload := u16 e.number ++ u8 1 ++ u8 pr })))

/-- IDENTIFY of a plate that no entry holds is an admission: its six tests in their order, and the entry it creates (R5,
R6). That a clamped priority stands behind the number and the byte 00h for ADMITTED is the model's choice (log 15), and
the records go by the yard mode they last took (R170, log 7).

The number an admission allocates is the first after the last-allocated one that no entry uses, and it lies in 1 to 65,535
(R3). -/
def Obligations.IdentifyAdmitsAnUnknownPlate : Prop :=
  (
    ∀ (s : State) (q : Sender) (lane : Nat) (plate : List Byte) (tag : Option Nat)
      (mode account material intent priority : Nat) (role : Role) (l : Lane) (m : Mode),
      let c := Instr.identify q lane plate tag mode account material intent priority
      let p := trimPlate plate
      let pr := min priority (if role = .kiosk then 1 else 3)
      let n := allocate s.recs.entries 96 s.recs.lastNumber
      s.Taken c q role → s.identifyLane role q lane = .inl l → modeOf mode = some m → intent < 2 → plateOk p = true →
      account ≤ 999999 → 1 ≤ material → material ≤ 9999 → (∀ e ∈ s.recs.entries, e.plate ≠ p) →
        exec c s = .next
          (if (s.lane l).state ≠ .present then s.refusal c q .noVehicle
            else if s.modeAt .records = .closing then s.refusal c q .yardClosing
            else if s.modeAt .records = .closed then s.refusal c q .yardClosed
            else if 96 ≤ s.recs.entries.length then s.refusal c q .tableFull
            else
              match s.recs.clock with
              | none => s.refusal c q .clockUnset
              | some now =>
                if m = .storedTare ∧ ((s.recs.tareOf p).map fun t => t.standing (some now.date)) ≠ some .valid then
                  s.refusal c q .tareInvalid
                else if m = .tareOnly ∧ s.recs.tareRoom p = false then s.refusal c q .tareFull
                else
                  s.answered c q
                    (fun r =>
                      (r.modRecs fun x =>
                        { x with
                          entries := x.entries ++
                            [{ number := n, plate := p, tag := tag, account := account, mode := m, state := .admitted
                               hold := none, interrupted := false, closurePending := false, cancelling := false
                               blocked := none, request := some { lane := l, priority := pr }, recallIntent := none
                               pass := none, departure := none, weighings := [], lines := [material]
                               snapshot := if m = .storedTare then (s.recs.tareOf p).map fun t =>
                                 { weight := t.weight, cls := t.cls, stored := t.stored } else none
                               admitted := now }]
                          lastNumber := n }).raise [.filingOrder l n .admission pr])
                    (if pr = priority then .ok (u16 n ++ u8 0)
                      else { code := .clamped, payload := u16 n ++ u8 0 ++ u8 pr }))) ∧
  (
    ∀ (es : List Entry) (last : Nat), es.length ≤ 96 → last ≤ 65535 →
      let n := allocate es 96 last
      1 ≤ n ∧ n ≤ 65535 ∧ (∀ e ∈ es, e.number ≠ n) ∧
        ∃ k ≤ 96, n = succNumber^[k + 1] last ∧ ∀ j < k, ∃ e ∈ es, e.number = succNumber^[j + 1] last)

/-- A console record request that names a number no entry holds, or names a finished entry, is answered NOT_FOUND and
changes nothing (R16).

HOLD, RELEASE_HOLD and AMEND on an unfinished entry (R17, R18, R19); an accepted RELEASE_HOLD is a retry event (R14). That
NOT_FOUND comes before a request's own tests, that AMEND is tested for WRONG_STATE before BAD_ARGUMENT, and that one that
gives neither part is refused with BAD_ARGUMENT are the model's choices (log 22).

Which materials of an entry an AMEND may name, and what it replaces (R19). -/
def Obligations.EntryRequests : Prop :=
  (
    ∀ (s : State) (q : Sender) (number reason : Nat) (account : Option Nat) (line : Option (Nat × Nat)) (role : Role),
      ∀ c ∈ [Instr.hold q number reason, .releaseHold q number, .amend q number account line, .cancelTransaction q number,
          .quarantine q number, .close q number, .forceExit q number],
        s.Taken c q role → (∀ e, s.recs.find number = some e → e.finished = true) →
          exec c s = .next (s.refusal c q .notFound)) ∧
  (
    ∀ (s : State) (q : Sender) (number : Nat) (e : Entry) (role : Role),
      s.recs.find number = some e → e.finished = false →
      (∀ reason, let c := Instr.hold q number reason;
        s.Taken c q role → exec c s = .next
          (if 1 ≤ reason ∧ reason ≤ 255 then
            s.answered c q (fun r => r.modEntry number fun x => { x with hold := some { reason := reason, port := q.port } })
              .ok
          else s.refusal c q .badArgument)) ∧
      (let c := Instr.releaseHold q number;
        s.Taken c q role → exec c s = .next
          (if e.hold = none then s.refusal c q .wrongState
          else s.answered c q (fun r => (r.modEntry number fun x => { x with hold := none }).retry) .ok)) ∧
      ∀ (account : Option Nat) (line : Option (Nat × Nat)), let c := Instr.amend q number account line;
        s.Taken c q role → exec c s = .next
          (if e.state = .onDeck then s.refusal c q .wrongState
          else if (account = none ∧ line = none) ∨ account.any (999999 < ·) = true
              ∨ line.any (fun p => p.2 = 0 || 9999 < p.2) = true ∨ line.any (fun p => !e.lineOk p.1) = true then
            s.refusal c q .badArgument
          else
            s.answered c q
              (fun r => r.modEntry number fun x =>
                let y := { x with account := account.getD x.account }
                match line with
                | none => y
                | some p => y.amendLine p.1 p.2) .ok)) ∧
  (
    ∀ (e : Entry) (i m : Nat),
      (e.lineOk i = true ↔
        1 ≤ i ∧ i ≤ e.lines.length ∨
          e.state = .recalled ∧ i = e.lines.length + 1 ∧
            ∃ k o, e.recallIntent = some { intent := .split k, origin := o }) ∧
      (1 ≤ i → i ≤ e.lines.length → e.amendLine i m = { e with lines := e.lines.set (i - 1) m }) ∧
      ∀ k o, e.recallIntent = some { intent := .split k, origin := o } →
        e.amendLine (e.lines.length + 1) m = { e with recallIntent := some { intent := .split m, origin := o } })

/-- CANCEL_TRANSACTION, by the state of the entry (R20).

The withdrawal report removes an ADMITTED entry and a RECALLED one that is CANCELLING, returns another RECALLED one to
its origin, and leaves the table alone otherwise (R8). -/
def Obligations.CancellationAndWithdrawal : Prop :=
  (
    ∀ (s : State) (q : Sender) (number : Nat) (e : Entry) (role : Role),
      let c := Instr.cancelTransaction q number
      s.recs.find number = some e → e.finished = false → s.Taken c q role →
        ((e.state = .inYard ∨ e.state = .quarantine) →
          exec c s = .next (s.answered c q (fun r => r.dropEntry number) .ok)) ∧
        (∀ rq, (e.state = .admitted ∨ e.state = .recalled) → e.request = some rq →
          exec c s = .next
            (if e.cancelling then s.refusal c q .wrongState
            else s.answered c q
              (fun r => (r.modEntry number fun x => { x with cancelling := true }).raise [.cancelOrder rq.lane number]) .ok)) ∧
        ∀ ps, e.state = .onDeck → e.pass = some ps →
          exec c s = .next (s.answered c q
            (fun r =>
              (r.modEntry number fun x =>
                { x with departure := some .discharged, closurePending := false, blocked := none, cancelling := false }).raise
                ((if e.departure = none then [Instr.exitReleaseAtArbiter ps.deck (some number)] else []) ++
                  (if ps.status = .done then [] else [Instr.recordsAbort ps.deck number]))) .ok)) ∧
  (
    ∀ (s : State) (number : Nat) (cause : WithdrawCause), s.running = true →
      let c := Instr.withdrawalReport number cause
      exec c s = .next (s.after c fun r =>
        match s.recs.find number with
        | none => r
        | some e =>
          if e.state = .admitted ∨ (e.state = .recalled ∧ e.cancelling = true) then r.dropEntry number
          else if e.state = .recalled then
            r.modEntry number fun x =>
              { x with
                state := match x.recallIntent.map Recall.origin with
                  | some .quarantine => .quarantine
                  | some .inYard => .inYard
                  | none => .inYard
                recallIntent := none, request := none }
          else r))

/-- QUARANTINE and FORCE_EXIT (R22, R24).

CLOSE: its tests in their order, and a ticket for the entry, which is removed at once (R23). -/
def Obligations.QuarantineForceExitAndClose : Prop :=
  (
    ∀ (s : State) (q : Sender) (number : Nat) (e : Entry) (role : Role),
      s.recs.find number = some e → e.finished = false →
      (∀ c ∈ [Instr.quarantine q number, .forceExit q number], s.Taken c q role → e.state ≠ .onDeck →
        exec c s = .next (s.refusal c q .wrongState)) ∧
      ∀ ps, e.state = .onDeck → e.pass = some ps →
        (let c := Instr.quarantine q number;
          s.Taken c q role → exec c s = .next
            (if (s.eng ps.deck).capture.isSome then s.refusal c q .deckBusy
            else if e.departure = some .toQuarantine then s.refusal c q .wrongState
            else
              s.answered c q
                (fun r =>
                  (r.modEntry number fun x => { x with departure := some .toQuarantine }).raise
                    (if e.departure = none then [.exitReleaseAtArbiter ps.deck (some number)] else [])) .ok)) ∧
        (let c := Instr.forceExit q number;
          s.Taken c q role → exec c s = .next
            (if e.departure.isSome then s.refusal c q .wrongState
            else if (s.eng ps.deck).capture.isSome then s.refusal c q .deckBusy
            else
              s.answered c q
                (fun r =>
                  (r.modEntry number fun x =>
                    { x with departure := some (if x.weighings = [] then .discharged else .toYard) }).raise
                    [.exitReleaseAtArbiter ps.deck (some number), .forceExitNoticeAtArbiter ps.deck number]) .ok))) ∧
  (
    ∀ (s : State) (q : Sender) (number : Nat) (e : Entry) (role : Role),
      let c := Instr.close q number
      s.recs.find number = some e → e.finished = false → s.Taken c q role →
        exec c s = .next
          (if e.state ≠ .quarantine then s.refusal c q .wrongState
          else if e.closurePending = false then s.refusal c q .incomplete
          else if e.hold.isSome then s.refusal c q .held
          else
            match s.recs.counter with
            | none => s.refusal c q .ticketUnset
            | some n =>
              if s.recs.clock = none then s.refusal c q .clockUnset
              else if s.recs.freeSlot = false then s.refusal c q .logFull
              else s.answered c q (fun r => (r.issue e.content).dropEntry number) (.ok (u32 n))))

/-- The entry passage report makes an ADMITTED or RECALLED entry ON_DECK with its pass AWAITING; for any other number the
deck's exit release is given with no transaction (R9). An entry that is CANCELLING is cancelled at once (R20).

What a pass finds: the entry ON_DECK, request, intent and INTERRUPTED cleared, and its purpose by the first row that
applies (R9). -/
def Obligations.EntryPassageTakesItsPass : Prop :=
  (
    ∀ (s : State) (d : Deck) (number : Nat), s.running = true →
      let c := Instr.entryPassageReport d number
      ((∀ e, s.recs.find number = some e → e.state ≠ .admitted ∧ e.state ≠ .recalled) →
        exec c s = .next (s.after c fun r => r.raise [.exitReleaseAtArbiter d none])) ∧
      ∀ e, s.recs.find number = some e → e.state = .admitted ∨ e.state = .recalled →
        exec c s = .next (s.after c fun r =>
          if e.cancelling then
            (r.modEntry number fun x =>
              { x.onto d with departure := some .discharged, closurePending := false, blocked := none, cancelling := false }).raise
                ((if e.departure = none then [.exitReleaseAtArbiter d (some number)] else []) ++ [.recordsAbort d number])
          else r.modEntry number fun x => x.onto d)) ∧
  (
    ∀ (e : Entry) (d : Deck),
      e.onto d =
          { e with
            state := .onDeck, request := none, recallIntent := none, interrupted := false
            pass := some { purpose := e.purpose, deck := d, status := .awaiting } } ∧
      (e.mode = .tareOnly → e.purpose = .tare) ∧ (e.mode = .storedTare → e.purpose = .gross) ∧
      (e.mode = .twoPass → e.weighings = [] → e.purpose = .first) ∧
      (∀ m o, e.mode = .twoPass → e.weighings ≠ [] → e.recallIntent = some { intent := .split m, origin := o } →
        e.purpose = .split m) ∧
      ∀ o, e.mode = .twoPass → e.weighings ≠ [] → e.recallIntent = some { intent := .final, origin := o } →
        e.purpose = .final)

/-- A capture completion is discarded where no entry with its number is ON_DECK with a pass on its deck, where the entry
has a departure, and where the pass is DONE with no closure pending; else it replaces a weighing whose closure is pending,
or appends one, and the purpose of the pass decides the rest (R10).

A capture completion for a number that no entry holds, or whose entry has no pass, has no effect on the table; a capture
failure sets the status of an undecided pass to FAILED with its reason and has no other effect (R10); an exit passage ends
the visit to the deck as the departure says (R11). -/
def Obligations.CaptureReportsAtTheRecords : Prop :=
  (
    ∀ (s : State) (r : CaptureResult) (e : Entry) (ps : Pass), s.running = true →
      let c := Instr.recordsCaptureCompletion r
      let w : Weighing := { weight := r.weight, cls := r.cls, division := r.division, deck := r.deck, time := s.recs.clock }
      let e₁ : Entry := { e with weighings := e.weighings ++ [w], pass := some { ps with status := .done } }
      let e₂ : Entry := { e with weighings := e.weighings.dropLast ++ [w] }
      s.recs.find r.number = some e → e.pass = some ps →
        exec c s = .next (s.after c fun x =>
          if e.state ≠ .onDeck ∨ ps.deck ≠ r.deck ∨ e.departure.isSome ∨ (ps.status = .done ∧ e.closurePending = false) then x
          else if ps.status = .done then (x.modEntry r.number fun _ => e₂).attemptClosure e₂
          else
            match ps.purpose with
            | .first =>
                (x.modEntry r.number fun _ => { e₁ with departure := some .toYard }).raise
                  [.exitReleaseAtArbiter r.deck (some r.number)]
            | .split m =>
                (x.modEntry r.number fun _ => { e₁ with lines := e.lines ++ [m], departure := some .toYard }).raise
                  [.exitReleaseAtArbiter r.deck (some r.number)]
            | .final => (x.modEntry r.number fun _ => e₁).attemptClosure e₁
            | .gross => (x.modEntry r.number fun _ => e₁).attemptClosure e₁
            | .tare =>
                (((x.modEntry r.number fun _ => e₁).tareCompletion e₁ r).modEntry r.number fun y =>
                  { y with departure := some .discharged }).raise [.exitReleaseAtArbiter r.deck (some r.number)])) ∧
  (
    ∀ s : State, s.running = true →
      (∀ r : CaptureResult, (s.recs.find r.number).bind Entry.pass = none →
        exec (.recordsCaptureCompletion r) s = .next (s.after (.recordsCaptureCompletion r) id)) ∧
      (∀ d number reason, exec (.recordsCaptureFailure d number reason) s =
        .next (s.after (.recordsCaptureFailure d number reason) fun r => r.modEntry number fun e =>
          match e.state, e.departure, e.pass with
          | .onDeck, none, some ps =>
              if ps.status = .done then e else { e with pass := some { ps with status := .failed reason } }
          | _, _, _ => e)) ∧
      ∀ d number, exec (.exitPassageReport d number) s =
        .next (s.after (.exitPassageReport d number) fun r =>
          match s.recs.find number with
          | none => r
          | some e =>
            match e.departure with
            | none => r
            | some .toYard => r.modEntry number fun x => { x with state := .inYard, pass := none, departure := none }
            | some .toQuarantine => r.modEntry number fun x => { x with state := .quarantine, pass := none, departure := none }
            | some (.closed _) => r.dropEntry number
            | some .discharged => r.dropEntry number))

/-- A closure that is attempted: blocked for the first condition that fails, with CLOSURE_BLOCKED where the reason is new
(R12, R13), or a WEIGHT ticket at the counter's number, with the exit release for an entry on a deck and the removal of
one in the yard (R12, R42). That CLOSURE_BLOCKED is posted only for a new reason after a recapture too is the model's
choice (log 23).

A retry event attempts the pending closures in admission order, each on its own conditions; QUARANTINE entries and entries
with a departure are left (R14).

The nets (R15): each line takes the difference of the two weighings about it, their sum is the first weight less the last,
and the total net is its absolute value; in STORED_TARE the snapshot stands last. The ticket carries the entry's number,
plate, account, mode and direction (R12), and its class is INDICATIVE where any weighing or the snapshot is, else APPROVED
(R43).

A ticket takes the counter's number, the sequence-start mark and the clock's time, joins the end of the log in place of
the oldest of 512, moves the counter on, and posts TICKET_ISSUED, and LOG_NEAR_FULL when the uncollected count comes to
480 (R39, R41, R42, R48). That TICKET_ISSUED is posted before LOG_NEAR_FULL is the model's choice (log 38). -/
def Obligations.ClosureIssuesATicketOrIsBlocked : Prop :=
  (
    ∀ (s : State) (e : Entry),
      (∀ b, s.recs.closureBlock e = some b →
        s.attemptClosure e =
          let t := s.modEntry e.number fun x => { x with closurePending := true, blocked := some b }
          if e.blocked = some b then t else t.post .records (.closureBlocked e.number (e.pass.map Pass.deck) b)) ∧
      (s.recs.closureBlock e =
        if e.hold.isSome then some .held else if s.recs.counter = none then some .ticketUnset
        else if s.recs.clock = none then some .clockUnset
        else if 512 ≤ s.recs.log.length ∧ s.recs.log.head?.all (fun k => !k.collected) then some .logFull else none) ∧
      ∀ n, s.recs.closureBlock e = none → s.recs.counter = some n →
        s.attemptClosure e =
          match e.pass with
          | some ps =>
              ((s.issue e.content).modEntry e.number fun x =>
                { x with closurePending := false, blocked := none, departure := some (.closed n) }).raise
                  [.exitReleaseAtArbiter ps.deck (some e.number)]
          | none => (s.issue e.content).dropEntry e.number) ∧
  (
    ∀ s : State, ∃ es : List Entry,
      s.retry = es.foldl (fun t e => t.attemptClosure e) s ∧ es.Sublist s.recs.entries ∧
        ∀ e ∈ s.recs.entries, (e ∈ es ↔ e.closurePending = true ∧
          (e.state = .inYard ∨ e.state = .onDeck ∧ e.departure = none))) ∧
  (
    ∀ e : Entry,
      (e.content.transaction = e.number ∧ e.content.plate = e.plate ∧ e.content.account = e.account ∧
        e.content.mode = e.mode ∧ e.content.direction = e.direction ∧
        e.weights = e.weighings.map Weighing.weight ++ (match e.snapshot with
          | none => []
          | some k => [k.weight]) ∧
        e.content.cls =
          if (∃ w ∈ e.weighings, w.cls = .indicative) ∨ (∃ k, e.snapshot = some k ∧ k.cls = .indicative) then .indicative
          else .approved) ∧
      (e.weights.length = e.lines.length + 1 →
      (∀ (i : Nat) (m : Nat) (a b : Int), e.lines[i]? = some m → e.weights[i]? = some a → e.weights[i + 1]? = some b →
        e.lineNets[i]? = some (m, a - b)) ∧
      (e.lineNets.map Prod.snd).sum = e.weights.headD 0 - e.weights.getLastD 0 ∧
      e.totalNet = |(e.lineNets.map Prod.snd).sum| ∧ 0 ≤ e.totalNet ∧
      (e.direction = .inboundDelivery ↔ e.weights.getLastD 0 ≤ e.weights.headD 0) ∧
      e.content.body = .weight e.weighings e.lineNets e.totalNet e.snapshot)) ∧
  (
    ∀ (s : State) (k : Ticket) (n : Nat) (now : DateTime), s.recs.counter = some n → s.recs.clock = some now →
      let k' : Ticket :=
        { k with number := n, seqStart := s.recs.seqStart, voided := false, collected := false, issued := now }
      let log := (if 512 ≤ s.recs.log.length then s.recs.log.drop 1 else s.recs.log) ++ [k']
      let t := (s.modRecs fun x =>
          { x with log := log, counter := some (if n < 99999999 then n + 1 else 1), seqStart := false }).post .records
        (.ticketIssued n (match k.body with
          | .void _ _ => true
          | .weight _ _ _ _ => false) k.transaction)
      s.issue k =
        if (s.recs.log.filter fun x => !x.collected).length < 480 ∧ 480 ≤ (log.filter fun x => !x.collected).length then
          t.post .records (.logNearFull (log.filter fun x => !x.collected).length
            (((log.filter fun x => !x.collected).head?.map Ticket.number).getD n))
        else t)

/-- Every WEIGHT ticket carries its nets as R15 gives them, in both forms an entry closes in: in TWO_PASS, with at least
two weighings and one material line fewer, line net i is the i-th weighing less the next, the total net is the first less
the last without its sign, and the direction is inbound where the first is at least the last; in STORED_TARE the tare
snapshot stands for the last weighing. A line net keeps its sign, the total net is never negative and is the sum of the
line nets without its sign, and the ticket that the log stores for a closure carries just these. -/
def Obligations.NetsAtClosure : Prop :=
  ∀ e : Entry,
    let sumOfNets := (e.lineNets.map Prod.snd).sum
    (e.mode = .twoPass → e.snapshot = none → 2 ≤ e.weighings.length → e.weighings.length = e.lines.length + 1 →
      e.lineNets.length = e.lines.length ∧
      (∀ (i m : Nat) (a b : Weighing),
        e.lines[i]? = some m → e.weighings[i]? = some a → e.weighings[i + 1]? = some b →
        e.lineNets[i]? = some (m, a.weight - b.weight)) ∧
      ∀ a b : Weighing, e.weighings.head? = some a → e.weighings.getLast? = some b →
        e.totalNet = |a.weight - b.weight| ∧ e.totalNet = |sumOfNets| ∧
        e.direction = if b.weight ≤ a.weight then .inboundDelivery else .outboundCollection) ∧
    (∀ (w : Weighing) (k : Snapshot) (m : Nat),
      e.mode = .storedTare → e.weighings = [w] → e.snapshot = some k → e.lines = [m] →
      e.lineNets = [(m, w.weight - k.weight)] ∧
      e.totalNet = |w.weight - k.weight| ∧ e.totalNet = |sumOfNets| ∧
      e.direction = if k.weight ≤ w.weight then .inboundDelivery else .outboundCollection) ∧
    0 ≤ e.totalNet ∧
    ∀ s : State, ∃ t : Ticket,
      (s.issue e.content).recs.log.getLast? = some t ∧ t.direction = e.direction ∧
        t.body = .weight e.weighings e.lineNets e.totalNet e.snapshot

/-! ### Tares, the yard clock and the ticket log -/

/-- STORE_TARE: its tests, the clamped validity, and the tare write; TARE_EVICTED for a record that makes room (R29, R30).
That the stored validity of a CLAMPED answer stands as u16 behind REPLACED or ADDED and the evicted plate is the model's
choice (log 15).

The tare write replaces the record of the plate, or adds one while the store holds fewer than 256, or evicts the EXPIRED
record that goes first (by expiry date, then date stored, then plate), or fails when there is none; the store has room for
a plate exactly when a write for it does not fail (R29).

A TARE_ONLY completion is stored as its plate's tare with the lane's validity, or gives notice TARE_NOT_STORED with the
reason (R34); the order of the reasons is the model's (log 16). That TARE_EVICTED stands before TARE_STORED is the model's
choice (log 38). -/
def Obligations.TareStoreWrites : Prop :=
  (
    ∀ (s : State) (q : Sender) (plate : List Byte) (tag : Option Nat) (weight : Int) (cls validity account : Nat)
      (role : Role),
      let c := Instr.storeTare q plate tag weight cls validity account
      s.Taken c q role →
        exec c s = .next
          (if 2 ≤ cls ∨ plateOk (trimPlate plate) = false ∨ weight < 1 ∨ 100000 < weight ∨ 999999 < account then
            s.refusal c q .badArgument
          else
            match s.recs.clock with
            | none => s.refusal c q .clockUnset
            | some now =>
              let v := max 1 (min validity 730)
              match s.recs.tareWrite
                { plate := trimPlate plate, tag := tag, weight := weight, cls := if cls = 0 then .approved else .indicative
                  stored := now.date, validity := v, account := account } with
              | none => s.refusal c q .tareFull
              | some w =>
                let out := u8 (if w.replaced then 0 else 1) ++ optional (fun t : Tare => text t.plate) w.evicted
                s.answered c q
                  (fun r =>
                    let t := (r.modRecs fun x => { x with tares := w.tares }).flag .tareStore
                    match w.evicted with
                    | none => t
                    | some t' => t.post .records (.tareEvicted t'.plate (addDays t'.stored t'.validity)))
                  (if v = validity then .ok out else { code := .clamped, payload := out ++ u16 v }))) ∧
  (
    ∀ (r : Records) (t : Tare),
      ((∃ u ∈ r.tares, u.plate = t.plate) → r.tareWrite t =
        some { tares := r.tares.map fun u => if u.plate = t.plate then t else u, replaced := true, evicted := none }) ∧
      ((∀ u ∈ r.tares, u.plate ≠ t.plate) → r.tares.length < 256 →
        r.tareWrite t = some { tares := r.tares ++ [t], replaced := false, evicted := none }) ∧
      ((∀ u ∈ r.tares, u.plate ≠ t.plate) → 256 ≤ r.tares.length → (∀ u ∈ r.tares, u.standing r.today ≠ .expired) →
        r.tareWrite t = none) ∧
      ((∀ u ∈ r.tares, u.plate ≠ t.plate) → 256 ≤ r.tares.length → (∃ u ∈ r.tares, u.standing r.today = .expired) →
        ∃ v ∈ r.tares, v.standing r.today = .expired ∧
          (∀ u ∈ r.tares, u.standing r.today = .expired → v.goesFirst u) ∧
          r.tareWrite t = some
            { tares := (r.tares.filter fun u => u.plate != v.plate) ++ [t], replaced := false, evicted := some v }) ∧
      (r.tareRoom t.plate = true ↔
        (∃ u ∈ r.tares, u.plate = t.plate) ∨ r.tares.length < 256 ∨ ∃ u ∈ r.tares, u.standing r.today = .expired) ∧
      (r.tareRoom t.plate = (r.tareWrite t).isSome)) ∧
  (
    ∀ (s : State) (e : Entry) (r : CaptureResult),
      s.tareCompletion e r =
        if r.weight < 1 ∨ 100000 < r.weight then s.post .records (.tareNotStored e.number e.plate .badArgument)
        else
          match s.recs.clock with
          | none => s.post .records (.tareNotStored e.number e.plate .clockUnset)
          | some now =>
            let v := (s.laneCfg r.lane).tareValidity
            match s.recs.tareWrite
              { plate := e.plate, tag := e.tag, weight := r.weight, cls := r.cls, stored := now.date, validity := v
                account := e.account } with
            | none => s.post .records (.tareNotStored e.number e.plate .tareFull)
            | some w =>
              let t := (s.modRecs fun x => { x with tares := w.tares }).flag .tareStore
              let t := match w.evicted with
                | none => t
                | some u => t.post .records (.tareEvicted u.plate (addDays u.stored u.validity))
              t.post .records (.tareStored e.number e.plate r.weight r.cls (addDays now.date v)))

/-- The standing of a tare on a date (R28): UNKNOWN with the clock UNSET, NOT_YET_VALID before the date stored, VALID up to
the day before the expiry date, EXPIRED from it on.

DELETE_TARE removes the record of its plate (R31); READ_TARE and LIST_TARES change nothing, and the list is up to six
records from the place named on, of all the records in the order of eviction (R29, R32). -/
def Obligations.TareStandingDeletesAndReads : Prop :=
  (
    ∀ (t : Tare) (d : Date),
      t.standing none = .unknown ∧
      (t.standing (some d) = .notYetValid ↔ dateKey d < dateKey t.stored) ∧
      (t.standing (some d) = .valid ↔ dateKey t.stored ≤ dateKey d ∧ dateKey d < dateKey (addDays t.stored t.validity)) ∧
      (t.standing (some d) = .expired ↔ dateKey t.stored ≤ dateKey d ∧ dateKey (addDays t.stored t.validity) ≤ dateKey d)) ∧
  (
    ∀ (s : State) (q : Sender) (plate : List Byte) (start : Nat) (role : Role),
      (let c := Instr.deleteTare q plate;
        s.Taken c q role → exec c s = .next
          (match s.recs.tareOf (trimPlate plate) with
          | none => s.refusal c q .notFound
          | some t =>
            s.answered c q
              (fun r => (r.modRecs fun x => { x with tares := x.tares.filter fun u => u.plate != t.plate }).flag .tareStore)
              .ok)) ∧
      (let c := Instr.readTare q plate;
        s.Taken c q role → exec c s = .next (s.answered c q id
          (match s.recs.tareOf (trimPlate plate) with
          | none => .only .notFound
          | some t => .ok (tareBytes t ++ standingByte (t.standing s.recs.today))))) ∧
      let c := Instr.listTares q start
      (s.Taken c q role → exec c s = .next (s.answered c q id
        (.ok (u16 s.recs.tares.length ++
          items (fun t => tareBytes t ++ standingByte (t.standing s.recs.today))
            (((sortTares s.recs.tares).drop start).take 6))))) ∧
        (sortTares s.recs.tares).Perm s.recs.tares ∧ (sortTares s.recs.tares).Pairwise Tare.goesFirst)

/-- SET_CLOCK takes a date and time that exists in the years 2000 to 2099, clears the mark and the sub-second count and is
a retry event; READ_CLOCK changes nothing (R37).

At 1,000 counted ticks the yard clock advances by one second, and a second that counted a BACKUP tick sets the
backup-timed mark; the clock holds at the last second of 2099, and an UNSET clock does not move (R36, R38). That the
second is carried by a command of its own, which takes 1,000 from the count, and that the mark is kept for the second that
counted the BACKUP tick are the model's choices (log 9).

The calendar (R27, R36): the days of a month with the 29 February of a leap year, the day after a date, and a date some
calendar days later, which is how an expiry date comes of the date stored; the day after a date of the calendar is the
next one in its order, and dates compare by year, month and day. That 2100 is no leap year is taken from outside the spec
(PRESUMED, log 14). -/
def Obligations.YardClock : Prop :=
  (
    ∀ (s : State) (q : Sender) (y mo d h mi sec : Nat) (role : Role),
      (let c := Instr.setClock q y mo d h mi sec;
        s.Taken c q role → exec c s = .next
          (if 2000 ≤ y ∧ y ≤ 2099 ∧ 1 ≤ mo ∧ mo ≤ 12 ∧ 1 ≤ d ∧ d ≤ monthDays y mo ∧ h ≤ 23 ∧ mi ≤ 59 ∧ sec ≤ 59 then
            s.answered c q
              (fun r =>
                ((r.modRecs fun x =>
                  { x with
                    clock := some { date := { year := y, month := mo, day := d }, hour := h, minute := mi, second := sec }
                    clockMark := false, subSecond := 0, subBackup := false }).flag .supervision).retry) .ok
          else s.refusal c q .badArgument)) ∧
      let c := Instr.readClock q
      s.Taken c q role →
        exec c s = .next (s.answered c q id (.ok (optional dateTime s.recs.clock ++ boolean s.recs.clockMark)))) ∧
  (
    ∀ s : State,
      exec .yardClockSecond s =
        .next ((s.consume .yardClockSecond).modRecs fun r =>
          match r.clock with
          | none => r
          | some now =>
            if r.subSecond < 1000 then r
            else
              { r with
                clock := some (nextSecond now), clockMark := r.clockMark || r.subBackup, subBackup := false
                subSecond := if nextSecond now = lastSecond then 0 else r.subSecond - 1000 }).seal ∧
      nextSecond lastSecond = lastSecond ∧
      ∀ now : DateTime, timeExists now = true → now ≠ lastSecond →
        timeExists (nextSecond now) = true ∧
          ((nextSecond now = { now with second := now.second + 1 }) ∨
            (now.second = 59 ∧ nextSecond now = { now with minute := now.minute + 1, second := 0 }) ∨
            (now.second = 59 ∧ now.minute = 59 ∧ nextSecond now = { now with hour := now.hour + 1, minute := 0, second := 0 }) ∨
            (now.second = 59 ∧ now.minute = 59 ∧ now.hour = 23 ∧
              nextSecond now = { date := nextDay now.date, hour := 0, minute := 0, second := 0 }))) ∧
  (
    (∀ y m, monthDays y m =
      if m = 2 then (if y % 4 = 0 ∧ (y % 100 ≠ 0 ∨ y % 400 = 0) then 29 else 28)
      else if m = 4 ∨ m = 6 ∨ m = 9 ∨ m = 11 then 30 else 31) ∧
    (∀ d : Date, nextDay d =
      if d.day < monthDays d.year d.month then { year := d.year, month := d.month, day := d.day + 1 }
      else if d.month < 12 then { year := d.year, month := d.month + 1, day := 1 }
      else { year := d.year + 1, month := 1, day := 1 }) ∧
    (∀ d : Date, addDays d 0 = d ∧ ∀ n, addDays d (n + 1) = nextDay (addDays d n)) ∧
    (∀ a b : Date, a.month ≤ 12 → b.month ≤ 12 → a.day ≤ 31 → b.day ≤ 31 →
      (dateKey a < dateKey b ↔
        a.year < b.year ∨ (a.year = b.year ∧ (a.month < b.month ∨ (a.month = b.month ∧ a.day < b.day))))) ∧
    ∀ a b : Date, let real := fun (d : Date) => 1 ≤ d.month ∧ d.month ≤ 12 ∧ 1 ≤ d.day ∧ d.day ≤ monthDays d.year d.month
      real a → real (nextDay a) ∧ dateKey a < dateKey (nextDay a) ∧
        (real b → dateKey a < dateKey b → dateKey (nextDay a) ≤ dateKey b))

/-- SET_TICKET_BASE sets the counter and empties the log, unless uncollected records stand in it; it is a retry event
(R39). CONFIRM_COLLECTED marks the uncollected records up to its number, answers how many, and is a retry event (R46).
That a number out of range is answered before uncollected records are looked for is the model's choice (log 22).

CONFIRM_COLLECTED marks the records from the oldest up to its number, and leaves the later ones and every content as they
are (R46).

VOID_TICKET: its tests in their order; the voided record is marked, and a VOID ticket joins the log (R44).

COLLECT_NEXT answers the oldest uncollected record and how many are uncollected, READ_TICKET the record of a number; both
change nothing (R45). That COLLECT_NEXT gives the count as u16 is the model's choice (log 15). -/
def Obligations.TicketLogRequests : Prop :=
  (
    ∀ (s : State) (q : Sender) (n : Nat) (role : Role),
      (let c := Instr.setTicketBase q n;
        s.Taken c q role → exec c s = .next
          (if n < 1 ∨ 99999999 < n then s.refusal c q .badArgument
          else if s.recs.counter ≠ none ∧ ∃ k ∈ s.recs.log, k.collected = false then s.refusal c q .uncollected
          else
            s.answered c q
              (fun r => ((r.modRecs fun x => { x with counter := some n, seqStart := true, log := [] }).flag
                .ticketLog).retry) .ok)) ∧
      let c := Instr.confirmCollected q n
      s.Taken c q role → exec c s = .next
        (match s.recs.ticket n with
        | none => s.answered c q id { code := .notFound, payload := u16 0 }
        | some k =>
          if k.collected then s.answered c q id { code := .alreadyCollected, payload := u16 0 }
          else
            s.answered c q (fun r => (r.modRecs fun x => { x with log := collectTo n x.log }).retry)
              (.ok (u16 ((uncollected s.recs.log).length - (uncollected (collectTo n s.recs.log)).length))))) ∧
  (
    ∀ (n : Nat) (before : List Ticket) (k : Ticket) (after : List Ticket),
      (∀ x ∈ before, x.number ≠ n) → k.number = n →
        collectTo n (before ++ k :: after) =
          before.map (fun x => { x with collected := true }) ++ { k with collected := true } :: after) ∧
  (
    ∀ (s : State) (q : Sender) (number reason : Nat) (role : Role),
      let c := Instr.voidTicket q number reason
      s.Taken c q role → exec c s = .next
        (if reason < 1 ∨ 255 < reason then s.refusal c q .badArgument
        else
          match s.recs.ticket number with
          | none => s.refusal c q .notFound
          | some k =>
            match k.body with
            | .void _ _ => s.refusal c q .wrongKind
            | .weight _ _ _ _ =>
              if k.voided then s.refusal c q .alreadyVoid
              else if s.recs.freeSlot = false then s.refusal c q .logFull
              else
                s.answered c q
                  (fun r =>
                    (r.modRecs fun x =>
                      { x with log := x.log.map fun u => if u.number = number then { u with voided := true } else u }).issue
                        { k with body := .void k.number reason })
                  (.ok (u32 s.recs.nextTicket)))) ∧
  (
    ∀ (s : State) (q : Sender) (number : Nat) (role : Role),
      (s.Taken (.collectNext q) q role →
        exec (.collectNext q) s = .next (s.answered (.collectNext q) q id
          (match s.recs.log.filter (fun k => !k.collected) with
          | [] => .only .nonePending
          | k :: rest => .ok (ticketBytes k ++ u16 (rest.length + 1))))) ∧
      (s.Taken (.readTicket q number) q role →
        exec (.readTicket q number) s = .next (s.answered (.readTicket q number) q id
          (match s.recs.log.find? (fun k => k.number == number) with
          | none => .only .notFound
          | some k => .ok (ticketBytes k)))))

/-! ### Windows and weights -/

/-- SET_CHANNEL_LIMITS clamps and stores (R54); CLEAR_FAULTS empties the latches it names, with their counters where the
scope says so, and answers how many latches held a cause (R62). That the count is a u8, and that a CLAMPED answer carries
both limits where only one was clamped, are the model's choices (log 15).

While its deck has a window open, a mapped channel counts the edges of its polarity; at 262,143 the count saturates and
the channel is marked (R55; that the mark is set on reaching the value is the model's reading, log 17). -/
def Obligations.ChannelSettingsAndEdges : Prop :=
  (
    ∀ (s : State) (q : Sender) (channel low high scope : Nat) (role : Role),
      (let c := Instr.setChannelLimits q channel low high;
        let lo := min low 262143
        let hi := min high 262143
        s.Taken c q role → exec c s = .next
          (match channelOf channel with
          | none => s.refusal c q .badArgument
          | some ch =>
            if hi < lo then s.refusal c q .badArgument
            else
              s.answered c q (fun r => (r.modChanCfg ch fun x => { x with low := lo, high := hi }).flag .decks)
                (if lo = low ∧ hi = high then .ok else { code := .clamped, payload := u32 lo ++ u32 hi }))) ∧
      let c := Instr.clearFaults q channel scope
      s.Taken c q role → exec c s = .next
        (match (if channel = 4294967295 then some Channel.all else (channelOf channel).map fun ch => [ch]) with
        | none => s.refusal c q .badArgument
        | some cs =>
          if 2 ≤ scope then s.refusal c q .badArgument
          else
            let held := cs.filter fun ch => (s.chan ch).latch != {}
            s.answered c q
              (fun r =>
                (cs.foldl (fun t ch => t.modChan ch fun w =>
                  { w with latch := {}, faults := if scope = 1 then 0 else w.faults }) r).flagIf
                    (!held.isEmpty || (scope == 1 && cs.any fun ch => (s.chan ch).faults != 0)) .decks)
              (.ok (u8 held.length)))) ∧
  (
    ∀ (s : State) (ch : Channel) (e : Edge), s.running = true →
      let c := Instr.converterEdge ch e
      exec c s = .next (s.after c fun r =>
        match (s.chanCfg ch).map with
        | none => r
        | some d =>
          match (s.win d).current with
          | none => r
          | some _ =>
            if (s.chanCfg ch).polarity = e then
              r.modChan ch fun w =>
                match w.running with
                | none => w
                | some n =>
                  if n < 262142 then { w with running := some (n + 1) }
                  else { w with running := some 262143, saturated := true }
            else r))

/-- A window that reaches its full length: its channels are judged in number order, its record goes to the engine, and the
next window opens at the same boundary (R56 to R59). Before its length it stays open. That a late close is made at the
window's own boundary, with the next window opened there, and that the record carries the mark and the serial of its
window are the model's choices (log 10).

A count is judged SATURATED, LOW or HIGH in that order, else valid (R57); an invalid channel adds one to its fault counter
and its cause to its latch, and CHANNEL_FAULT is posted when the latch held none (R61); the notices of one window come in
channel-number order (the model's choice, log 38).

A window opens with every channel of its deck counting from 0, and with the engine's window mark set where the deck is
unpositioned or no window has opened since the reset (R56, R86). -/
def Obligations.WindowsOpenCloseAndAreJudged : Prop :=
  (
    ∀ (s : State) (d : Deck), s.running = true →
      let c := Instr.windowClose d
      let L := (s.deckCfg d).metrology.window
      let n := if (s.win d).number < 4294967295 then (s.win d).number + 1 else 0
      let cs := Channel.all.filter fun ch => (s.chanCfg ch).map == some d
      let es := cs.map fun ch =>
        { channel := ch, count := (s.chan ch).running.getD 0, cause := judgeCount (s.chanCfg ch) (s.chan ch) : WindowEntry }
      (s.win d).number ≤ 4294967295 →
        exec c s = .next (s.after c fun r =>
          match (s.win d).current with
          | none => r
          | some w =>
            if s.ms < w.opened + L then r
            else
              let m := if w.backup then .backup else .reference
              let st := if es = [] then .noChannels else if ∀ x ∈ es, x.cause = none then .valid else .channelInvalid
              let t := (cs.foldl (fun t ch => t.judgeChannel d n ch) r).modWin d fun x =>
                { x with current := none, number := n, last := some { number := n, timing := m, status := st } }
              (t.raise [.engineWindow
                { deck := d, number := n, closing := w.opened + L, length := L, timing := m, status := st, channels := es
                  marked := (s.eng d).windowMark, serial := (s.win d).serial }]).openWindow d (w.opened + L))) ∧
  (
    ∀ (s : State) (d : Deck) (n : Nat) (ch : Channel),
      let w := s.chan ch
      let count := w.running.getD 0
      let k : Option CountCause :=
        if w.saturated then some .saturated
        else if count < (s.chanCfg ch).low then some .low
        else if (s.chanCfg ch).high < count then some .high
        else none
      judgeCount (s.chanCfg ch) w = k ∧
      s.judgeChannel d n ch =
        match k with
        | none => s.modChan ch fun w => { w with running := none, saturated := false, last := some { count, cause := none } }
        | some cause =>
          let latch : CauseSet := match cause with
            | .saturated => { w.latch with saturated := true }
            | .low => { w.latch with low := true }
            | .high => { w.latch with high := true }
          let t := (s.modChan ch fun w =>
              { w with running := none, saturated := false, last := some { count, cause := some cause }, latch := latch
                       faults := if w.faults < 65535 then w.faults + 1 else w.faults }).flagIf (latch != w.latch) .decks
          if w.latch = {} then t.post .captureUnit (.channelFault ch d cause count n) else t) ∧
  (
    ∀ (s : State) (d : Deck) (b : Nat),
      let t := s.openWindow d b
      (t.win d) = { s.win d with current := some { opened := b, backup := false }, serial := (s.win d).serial + 1, first := false } ∧
      (t.eng d) = { s.eng d with windowMark := (s.win d).first || !(s.eng d).positioned } ∧
      ∀ ch : Channel, t.chan ch =
        if (s.chanCfg ch).map = some d then { s.chan ch with running := some 0, saturated := false } else s.chan ch)

/-- An engine that is OFF sets its window records aside; another takes each (R69), and the reading goes to a capture in
flight, to zero tracking and to a collection (R79, R105, R192). That zero tracking's ZERO_LIMIT stands before the notices
of the collection is the model's choice (log 38).

What an engine makes of a window record it takes (R69, R79, R80, R82): an invalid window empties both histories and leaves
the occupancy reading UNKNOWN; a change of the engine state posts ENGINE_STATE with the window's number. A reading that
comes to OVERLOAD or UNDERLOAD posts DECK_RANGE (R76), and a change of the range condition, of the occupancy reading or of
the engine state, and nothing else, sets the decks flag at every port (R76, R82). That DECK_RANGE stands before
ENGINE_STATE is the model's choice (log 38). -/
def Obligations.EngineTakesAWindow : Prop :=
  (
    ∀ (s : State) (w : WindowRecord), s.running = true →
      let c := Instr.engineWindow w
      ((s.eng w.deck).state = .off → exec c s = .next (s.after c id)) ∧
      ((s.eng w.deck).state ≠ .off →
        exec c s = .next (s.after c fun r =>
          let x := r.takeWindow w
          ((x.1.offerCapture w.deck x.2 w.marked).trackZero w.deck x.2).offerCollection w.deck w x.2))) ∧
  (
    ∀ (s : State) (w : WindowRecord), (s.eng w.deck).state ≠ .off →
      let d := w.deck
      let x : Reading × List Int × List StabEntry × Occupancy :=
        if w.status = .valid then s.compute d w
        else ({ number := w.number, closing := w.closing, timing := w.timing, status := w.status }, [], [], .unknown)
      let st : EngineState := if (s.eng d).capture.isSome then .capturing else x.2.2.2.engineState
      let t := (s.takeWindow w).1
      (s.takeWindow w).2 = { x.1 with state := st } ∧
      t.eng d = { s.eng d with filter := x.2.1, stab := x.2.2.1, occupancy := x.2.2.2, state := st
                               latest := some { x.1 with state := st } } ∧
      t.inner = (s.modEng d fun _ => t.eng d).inner ∧
      (∀ p, (t.port p).latch =
        if x.1.range ≠ (s.eng d).latest.bind Reading.range ∨ x.2.2.2 ≠ (s.eng d).occupancy ∨ st ≠ (s.eng d).state then
          (s.port p).latch.set .decks
        else (s.port p).latch) ∧
      ∀ p, (t.port p).incoming = (s.port p).incoming ++
        ((match x.1.range with
          | none => []
          | some .inRange => []
          | some cond => if (s.eng d).latest.bind Reading.range = some cond then [] else
              [{ block := .engine d, body := .deckRange d cond w.number, at_ := s.ms, origin := none : Notice }]) ++
        (if st = (s.eng d).state then [] else
          [{ block := .engine d, body := .engineState d (s.eng d).state st (some w.number), at_ := s.ms, origin := none }])))

/-- The stages of a valid window (R70 to R77, R79, R81): the exact sum of the channel differences, the raw and zeroed
weights, the filter, the division, the deck weight, the range, the stability and the occupancy.

Rounding is to the nearest integer, halves away from zero (Conventions, R72 to R75). -/
def Obligations.StagesOfAReading : Prop :=
  (
    ∀ (s : State) (d : Deck) (w : WindowRecord),
      let c := s.deckCfg d
      let m := c.metrology
      let g := s.eng d
      let sum := (w.channels.map fun e =>
        ((e.count : Int) - (s.chanCfg e.channel).zero) * (s.chanCfg e.channel).factor).sum
      let raw := roundDiv sum 65536
      let gz := raw - c.zd
      let filter := keepLast m.f (g.filter ++ [gz])
      let base : Reading := { number := w.number, closing := w.closing, timing := w.timing, status := w.status
                              graw := some raw, gz := some gz }
      s.compute d w =
        if filter.length < m.f then ({ base with occupancy := g.occupancy }, filter, g.stab, g.occupancy)
        else
          let gf := roundDiv filter.sum m.f
          let e := if gf ≤ (m.max1 : Int) * 1000 then m.e1 else m.e2
          let gd := roundDiv gf (e * 1000) * e
          let range : RangeCond :=
            if (m.max2 : Int) + 9 * m.e2 < gd then .overload else if gd < -(20 * (m.e1 : Int)) then .underload else .inRange
          let stab := keepLast m.s (g.stab ++ [{ gf := gf, e := e, timing := w.timing }])
          let spread := if stab.length < m.s then none
            else some (largest (stab.map StabEntry.gf) - smallest (stab.map StabEntry.gf))
          let occ : Occupancy :=
            if gf < ((c.threshold.getD (20 * m.e1) : Nat) : Int) * 500 then .empty
            else if ((c.threshold.getD (20 * m.e1) : Nat) : Int) * 1000 ≤ gf then .loaded
            else if g.occupancy = .unknown then .loaded else g.occupancy
          ({ base with gf := some gf, e := some e, gd := if range = .inRange then some gd else none, range := some range
                       spread := spread, stable := spread.map fun x => x ≤ (e : Int) * 1000, occupancy := occ },
            filter, stab, occ)) ∧
  (
    ∀ (n : Int) (d : Nat), 0 < d →
      2 * |roundDiv n d * d - n| ≤ d ∧ (2 * |roundDiv n d * d - n| = d → |n| ≤ |roundDiv n d| * d) ∧
        roundDiv (-n) d = -roundDiv n d)

/-! ### Captures and zero -/

/-- A capture in flight takes a reading (R92): ten invalid windows in a row end it with CHANNEL_FAULT, an EMPTY deck with
LEFT_DECK or UNDERLOAD; a marked window empties the history; a reading whose G_f or spread is absent makes no test; any
other is judged for stability. A reading made while no capture is in flight changes nothing. That WEIGHING_FAILED stands
before ENGINE_STATE is the model's choice (log 38).

The stability test of a capture (R93, R94): a spread within one division, or within two when RELAXED, is a result; it is
APPROVED in the NORMAL phase with every entry of the history REFERENCE, and an INDICATIVE one is taken only where the
option allows it; an OVERLOAD ends the capture. A reading without a division, a spread or a range, or one that is
UNDERLOAD, is no result. -/
def Obligations.CaptureJudgesReadings : Prop :=
  (
    (∀ (s : State) (d : Deck) (r : Reading) (marked : Bool), (s.eng d).capture = none → s.offerCapture d r marked = s) ∧
    ∀ (s : State) (d : Deck) (k : Capture) (r : Reading) (marked : Bool),
      (s.eng d).capture = some k → (s.eng d).state = .capturing →
      let k' : Capture := { k with invalidRun := if r.status = .valid then 0 else k.invalidRun + 1 }
      let t := s.modEng d fun g => { g with capture := some k' }
      s.offerCapture d r marked =
        if r.status ≠ .valid then
          if 10 ≤ k.invalidRun + 1 then t.captureFailed d k' .channelFault (some r.number) else t
        else if r.occupancy = .empty then
          t.captureFailed d k' (if r.range = some .underload then .underload else .leftDeck) (some r.number)
        else if marked then t.modEng d fun g => { g with stab := [] }
        else if r.gf = none ∨ r.spread = none then t
        else t.testStability d k' r) ∧
  (
    (∀ (s : State) (d : Deck) (k : Capture) (r : Reading),
      (r.e = none ∨ r.spread = none ∨ r.range = none ∨ r.range = some .underload ∨ (r.range = some .inRange ∧ r.gd = none)) →
        s.testStability d k r = s) ∧
    ∀ (s : State) (d : Deck) (k : Capture) (r : Reading) (e : Nat) (spread gd : Int),
      (s.eng d).capture = some k → (s.eng d).state = .capturing → r.e = some e → r.spread = some spread →
      let band : Int := if k.phase = .normal then (e : Int) * 1000 else 2 * (e : Int) * 1000
      let cls : WeighClass :=
        if k.phase = .normal ∧ ∀ x ∈ (s.eng d).stab, x.timing = .reference then .approved else .indicative
      (r.range = some .overload → s.testStability d k r =
        if spread ≤ band then s.captureFailed d k .overload (some r.number) else s) ∧
      (r.range = some .inRange → r.gd = some gd → s.testStability d k r =
        if spread ≤ band ∧ (cls = .approved ∨ k.accept = true) then
          let res : CaptureResult :=
            { deck := d, number := k.number, lane := k.lane, weight := gd, division := e, cls := cls, window := r.number }
          let t := ((s.modEng d fun g => { g with capture := none, ended := true }).raise
              [.recordsCaptureCompletion res, .captureCompletionAtArbiter res]).post (.engine d)
            (.weighingDone d k.number gd cls e k.phase k.failed k.origin) k.origin
          (((t.flag .decks).modEng d fun g => { g with state := g.occupancy.engineState }).post (.engine d)
            (.engineState d .capturing (s.eng d).occupancy.engineState (some r.number))).flag .decks
        else s))

/-- CAPTURE, its four tests in their order, and the automatic start (R89, R90): either makes the record of R91 from the
deck's current transaction and settings, with an empty history. That both go by the supply state that the deck's engine
last took (R177, log 7), and that the ENGINE_STATE of a start carries no window number (R82, log 40), are the model's
choices.

What ends a capture from outside its readings (R96 to R98, R101): ABORT_CAPTURE, an abort of the records for its number,
the conditions of R97, and ten seconds unpositioned. That WEIGHING_FAILED stands before ENGINE_STATE is the model's choice
(log 38).

With no capture in flight, as at an engine that is OFF, ABORT_CAPTURE is refused, CAPTURE without a current transaction is
refused, and the events that end a capture, an abort of the records for any number among them, have no effect; a deck
argument other than A or B is refused by every request that names a deck (R88, R90, R98). -/
def Obligations.CapturesStartAndEnd : Prop :=
  (
    ∀ (s : State) (d : Deck) (cur : Current), (s.arb d).current = some cur →
      let made := fun (o : Option Port) (r : State) =>
        let old := (s.eng d).state
        let t := r.modEng d fun g =>
          { g with
            stab := []
            capture := some
              { number := cur.number, origin := o, lane := cur.lane, attempt := (s.deckCfg d).attempt
                downshift := (s.deckCfg d).downshift, accept := (s.deckCfg d).accept, phase := .normal, failed := 0
                timer := (s.deckCfg d).attempt * 1000, paused := !g.positioned
                leave := if g.positioned then none else some 0, invalidRun := 0 } }
        if old = .off ∨ old = .capturing then t
        else ((t.modEng d fun g => { g with state := .capturing }).post (.engine d)
          (.engineState d old .capturing none)).flag .decks
      let entry := (s.recs.find cur.number).filter fun e => e.state == .onDeck && (e.pass.map Pass.deck) == some d
      (s.running = true →
        let c := Instr.captureStart d
        exec c s = .next (s.after c fun r =>
          if (s.arb d).state = .occupied ∧ (s.arb d).tailgate = false ∧
              (∃ e ∈ entry, e.departure = none ∧ ∃ ps ∈ e.pass, ps.status = .awaiting) ∧
              (s.eng d).ended = false ∧ (s.eng d).positioned = true ∧ (s.eng d).state = .loaded ∧
              s.supplyAt (.engine d) = .normal
          then made none r else r)) ∧
      ∀ (q : Sender) (deck : Nat) (role : Role), deckOf deck = some d →
        let c := Instr.capture q deck
        s.Taken c q role → exec c s = .next
          (if (s.eng d).capture.isSome then s.refusal c q .deckBusy
          else if (s.arb d).state ≠ .occupied ∨ (s.arb d).tailgate = true ∨ (s.eng d).state = .off
              ∨ s.supplyAt (.engine d) = .supplyLow then s.refusal c q .deckNotReady
          else if ∃ e ∈ entry, e.departure = none ∧ ∃ ps ∈ e.pass, ps.status = .done → e.closurePending = true then
            s.answered c q (made (some q.port)) (.only .started)
          else s.refusal c q .wrongState)) ∧
  (
    ∀ (s : State) (d : Deck) (k : Capture), s.running = true →
      (s.eng d).capture = some k → (s.eng d).state = .capturing →
      (∀ (q : Sender) (deck : Nat) (role : Role), deckOf deck = some d →
        let c := Instr.abortCapture q deck
        s.Taken c q role → exec c s = .next (s.answered c q (fun r => r.captureFailed d k .aborted none) .ok)) ∧
      (∀ number, let c := Instr.recordsAbort d number
        exec c s = .next (s.after c fun r => if k.number = number then r.captureFailed d k .aborted none else r)) ∧
      (∀ cause, let c := Instr.captureExternalEnd d cause
        exec c s = .next (s.after c fun r =>
          r.captureFailed d k (if cause = .tailgate then .tailgate else .aborted) none)) ∧
      let c := Instr.leaveDeckTimerExpiry d
      exec c s = .next (s.after c fun r =>
        match k.leave with
        | none => r
        | some n => if 10000 ≤ n then r.captureFailed d k .leftDeck none else r)) ∧
  (
    ∀ (s : State) (d : Deck),
      (s.running = true → (s.eng d).capture = none →
        ∀ (number : Nat), ∀ c ∈ [Instr.attemptTimerExpiry d, .leaveDeckTimerExpiry d, .captureExternalEnd d .tailgate,
            .captureExternalEnd d .engineOff, .captureExternalEnd d .deckLeft, .recordsAbort d number],
          ((s.eng d).state = .off ∨ (s.eng d).state = (s.eng d).activeState) → exec c s = .next (s.after c id)) ∧
      ∀ (q : Sender) (deck : Nat) (role : Role),
        (∀ c ∈ [Instr.capture q deck, .abortCapture q deck, .readCapture q deck, .readDeck q deck, .zeroDeck q deck,
            .clearTailgate q deck, .readDeckState q deck, .calZeroDeck q deck, .abortCalibration q deck, .readCalibration q deck],
          2 ≤ deck → s.Taken c q role → exec c s = .next (s.refusal c q .badArgument)) ∧
        (let c := Instr.abortCapture q deck
         deckOf deck = some d → (s.eng d).capture = none → s.Taken c q role →
           exec c s = .next (s.refusal c q .wrongState)) ∧
        let c := Instr.capture q deck
        deckOf deck = some d → (s.eng d).capture = none → (s.arb d).state ≠ .occupied → s.Taken c q role →
          exec c s = .next (s.refusal c q .deckNotReady))

/-- The attempt timer (R95): attempts are counted; the NORMAL phase allows N of them, or one where N is 0; then, where N
is at least 1 and the option is ON, two RELAXED ones follow after CAPTURE_DOWNSHIFT; the last failure ends the capture.
That an expiry taken while the capture is paused reloads the timer and leaves it paused is the model's choice (log 24).
That WEIGHING_FAILED stands before ENGINE_STATE is the model's choice (log 38).

A deck leaves the positioned state at the rising edge of one of its four inputs and comes back at a falling one after
which all four are clear; a capture pauses, with its history emptied, and runs on (R86, R96). -/
def Obligations.AttemptsAndPauses : Prop :=
  (
    ∀ (s : State) (d : Deck) (k : Capture), s.running = true →
      (s.eng d).capture = some k → (s.eng d).state = .capturing → k.timer = 0 →
      let c := Instr.attemptTimerExpiry d
      let n := if k.downshift = 0 then 1 else k.downshift
      let k' : Capture := { k with failed := k.failed + 1 }
      exec c s = .next (s.after c fun r =>
        let again := fun (x : Capture) =>
          r.modEng d fun g => { g with capture := some { x with timer := k.attempt * 1000 } }
        if k.failed + 1 < (if k.phase = .normal then n else n + 2) then again k'
        else if k.phase = .normal ∧ 1 ≤ k.downshift ∧ k.accept = true then
          ((again { k' with phase := .relaxed }).post (.engine d) (.captureDownshift d k.number (k.failed + 1))).flag .decks
        else
          (r.modEng d fun g => { g with capture := some k' }).captureFailed d k'
            (if k.phase = .normal ∧ k.accept = false ∧ ∃ x ∈ (s.eng d).stab, x.timing = .backup then .clock else .unstable)
            none)) ∧
  (
    ∀ (s : State) (d : Deck) (i : Input) (e : Edge), s.running = true →
      let c := Instr.positioningEdge d i e
      exec c s = .next (s.after c fun r =>
        if i ∉ [Input.beam1 d, .beam2 d, .boom d.entry, .boom d.exit] then r
        else if e = .rising then
          if (s.eng d).positioned then
            r.modEng d fun g =>
              { g with
                positioned := false, windowMark := true
                capture := g.capture.map fun k => { k with paused := true, leave := some 0 }
                stab := if g.capture = none then g.stab else [] }
          else r
        else if (s.eng d).positioned = false ∧
            ∀ j ∈ [Input.beam1 d, .beam2 d, .boom d.entry, .boom d.exit], (s.inp j).debounced = .clear then
          r.modEng d fun g =>
            { g with positioned := true, capture := g.capture.map fun k => { k with paused := false, leave := none } }
        else r))

/-- ZERO_DECK: its tests in their order; Zd takes the filtered weight, which must lie within the zero limit with it, the
histories follow, and the ZERO_LIMIT latch clears (R78, R104, R106). That the latest reading stays as it was after an
accepted ZERO_DECK is the model's choice (log 25).

Zero tracking (R105, R106): on a stable reading of an EMPTY deck within half a division, Zd moves by at most a quarter of
one; a step that the zero limit cuts short sets the ZERO_LIMIT latch. -/
def Obligations.ZeroSettingAndTracking : Prop :=
  (
    (∀ (s : State) (q : Sender) (deck : Nat) (role : Role), 2 ≤ deck →
      let c := Instr.zeroDeck q deck
      s.Taken c q role → exec c s = .next (s.refusal c q .badArgument)) ∧
    ∀ (s : State) (q : Sender) (deck : Nat) (d : Deck) (role : Role), deckOf deck = some d →
      let c := Instr.zeroDeck q deck
      let zl : Int := (s.deckCfg d).metrology.max2 * 20
      s.Taken c q role → exec c s = .next
        (if (s.eng d).capture.isSome ∨ (s.eng d).collection.isSome then s.refusal c q .deckBusy
        else if (s.eng d).state ≠ .empty then s.refusal c q .deckNotReady
        else
          match (s.eng d).latest.bind Reading.gf with
          | none => s.refusal c q .notStable
          | some gf =>
            if (s.eng d).latest.bind Reading.stable ≠ some true then s.refusal c q .notStable
            else if zl < |(s.deckCfg d).zd + gf| then s.refusal c q .zeroRange
            else
              s.answered c q
                (fun r =>
                  (((r.modDeckCfg d fun x => { x with zd := x.zd + gf }).modEng d fun g =>
                    { g with filter := g.filter.map (· - gf), stab := g.stab.map fun x => { x with gf := x.gf - gf } }).modEng
                      d fun g => { g with zeroLimit := false }).flag .decks) .ok)) ∧
  (
    ∀ (s : State) (d : Deck) (r : Reading) (gf : Int), r.gf = some gf →
      let c := s.deckCfg d
      let e1 : Int := c.metrology.e1
      let zl : Int := c.metrology.max2 * 20
      let step := max (-(e1 * 250)) (min (e1 * 250) gf)
      let zd := max (-zl) (min zl (c.zd + step))
      s.trackZero d r =
        if r.stable ≠ some true ∨ r.state ≠ .empty ∨ e1 * 500 < |gf| then s
        else
          let t := if zd = c.zd then s else
            (s.modDeckCfg d fun x => { x with zd := zd }).modEng d fun g =>
              { g with filter := g.filter.map fun x => x - (zd - c.zd)
                       stab := g.stab.map fun x => { x with gf := x.gf - (zd - c.zd) } }
          if zd = c.zd + step then t
          else if (t.eng d).zeroLimit then t
          else ((t.modEng d fun g => { g with zeroLimit := true }).post (.engine d)
            (.zeroLimit d (decide (0 ≤ zd)) (some r.number))).flag .decks)

/-! ### The deck arbiters -/

/-- A filing takes the lane's slot whole, with the present count as its request time (R109); a withdrawal clears the slot
and an offer to the lane, and frees the deck of a grant in its proceed interval or marks a grant after the arrival (R110).
That each row that applies has its effect, and that GRANT_WITHDRAWN is then posted, with cause CANCEL (R20), are the
model's choices (log 12), and so is that the choice which may follow is a command of its own. That DECK_STATE stands
before GRANT_WITHDRAWN is the model's choice (log 38).

A choice is made only where the deck is FREE with no offer, the deck conditions hold and a record is eligible; the winner
has the highest priority, then the earliest request time, then a lane other than the last-granted one, then the lowest
lane number (R111, R112). The arbiter goes by the yard mode, the supply state and the barrier state it last took (R166,
R170, R177, log 7). -/
def Obligations.FilingsAndChoice : Prop :=
  (
    ∀ (s : State) (d : Deck) (l : Lane), s.running = true → (s.arb d).Law →
      (∀ (number : Nat) (kind : FilingKind) (priority : Nat), let c := Instr.filing d l number kind priority
        exec c s = .next (s.after c fun r =>
          r.modArb d fun a => a.setSlot l (some { number := number, kind := kind, priority := priority, time := s.ms }))) ∧
      let c := Instr.withdrawal d l
      exec c s = .next (s.after c fun r =>
        let t := r.modArb d fun a =>
          { a.setSlot l none with
            offer := match a.offer with
              | none => none
              | some o => if o.lane = l then none else some o }
        match (s.arb d).grant with
        | none => t
        | some g =>
          if g.lane ≠ l then t
          else if g.timer = none then t.modArb d fun a => { a with grant := some { g with late := true } }
          else
            (((t.modArb d fun a => { a with state := .free, grant := none }).post (.arbiter d)
              (.deckState d .granted .free none)).flag .decks).post (.arbiter d) (.grantWithdrawn d l g.number .cancel))) ∧
  (
    ∀ (s : State) (d : Deck), s.running = true → (s.arb d).Law →
      let c := Instr.choice d
      let free := (s.arb d).state = .free ∧ (s.arb d).offer = none ∧ s.supplyAt (.arbiter d) = .normal ∧
        (s.eng d).state ≠ .off ∧ s.boomAtArbiter d.entry = .down
      let eligible := fun (p : Pending) => s.modeAt (.arbiter d) = .open ∨ (s.modeAt (.arbiter d) = .closing ∧ p.kind = .recall)
      let before := fun (l : Lane) (p : Pending) (l' : Lane) (p' : Pending) =>
        p'.priority < p.priority ∨ (p'.priority = p.priority ∧ (p.time < p'.time ∨ (p.time = p'.time ∧
          ((s.arb d).last = some l' ∧ (s.arb d).last ≠ some l ∨
            ((s.arb d).last = some l ↔ (s.arb d).last = some l') ∧ l < l'))))
      (¬free → exec c s = .next (s.after c id)) ∧
      ((∀ l p, (s.arb d).slots.get l = some p → ¬eligible p) → exec c s = .next (s.after c id)) ∧
      ∀ l p, free → (s.arb d).slots.get l = some p → eligible p →
        (∀ l' p', l' ≠ l → (s.arb d).slots.get l' = some p' → eligible p' → before l p l' p') →
          exec c s = .next (s.after c fun r =>
            (r.modArb d fun a => { a with offer := some { lane := l, number := p.number } }).raise
              [.offerAtLane l d p.number]))

/-- An acceptance of the outstanding offer grants the deck and loads the proceed timer, in SUPPLY_LOW it is withdrawn with
SUPPLY, and one that finds the offer gone with LAPSED; the lane's record goes in every case (R113). That an acceptance
turned away posts no GRANT_WITHDRAWN, though R113 withdraws as on a proceed timeout, and that an offer to the same lane
for another transaction stays are the model's choices (log 12), and so are that the arbiter goes by the supply state it
last took (log 7) and that the deck is granted also where its engine has become OFF since the offer, by R113 and against
the words of R82 (log 42).

A decline of the outstanding offer drops the offer and the lane's record and makes a new choice; any other decline has no
effect (R114).

A proceed timer that has reached 0 withdraws its grant with PROCEED_TIMEOUT: the deck is FREE, the lane is told, and
GRANT_WITHDRAWN is posted (R115). That DECK_STATE stands before GRANT_WITHDRAWN is the model's choice (log 38). -/
def Obligations.OffersAndGrants : Prop :=
  (
    ∀ (s : State) (d : Deck) (l : Lane) (number : Nat), s.running = true → (s.arb d).Law →
      let c := Instr.acceptance d l number
      exec c s = .next (s.after c fun r =>
        if (s.arb d).offer = some { lane := l, number := number } then
          if s.supplyAt (.arbiter d) = .supplyLow then
            (r.modArb d fun a => { a.setSlot l none with offer := none }).raise [.grantWithdrawnAtLane l d number .supply]
          else
            ((r.modArb d fun a =>
              { a.setSlot l none with
                state := .granted, offer := none, last := some l
                grant := some { lane := l, number := number, arrived := false, late := false
                                timer := some ((s.deckCfg d).proceed * 1000) } }).post (.arbiter d)
              (.deckState d .free .granted (some (l, number)))).flag .decks
        else (r.modArb d fun a => a.setSlot l none).raise [.grantWithdrawnAtLane l d number .lapsed])) ∧
  (
    ∀ (s : State) (d : Deck) (l : Lane) (number : Nat), s.running = true →
      let c := Instr.decline d l number
      exec c s = .next (s.after c fun r =>
        if (s.arb d).offer = some { lane := l, number := number } then
          (r.modArb d fun a => { a.setSlot l none with offer := none }).makeChoice d
        else r)) ∧
  (
    ∀ (s : State) (d : Deck), s.running = true → (s.arb d).Law →
      let c := Instr.proceedTimeout d
      exec c s = .next (s.after c fun r =>
        match (s.arb d).grant with
        | none => r
        | some g =>
          if g.timer = some 0 then
            ((((r.modArb d fun a => { a with state := .free, grant := none }).post (.arbiter d)
              (.deckState d .granted .free none)).flag .decks).raise
                [.grantWithdrawnAtLane g.lane d g.number .proceedTimeout]).post (.arbiter d)
                  (.grantWithdrawn d g.lane g.number .proceedTimeout)
          else r))

/-- The entry boom loop: a rising edge is the arrival of a granted vehicle, or a tailgate while the watch is armed; a
falling edge after the arrival is the entry passage, and one at a FREE or CLEARING deck is an intrusion (R115, R116, R119,
R120). The passage arms the watch unless the entry barrier is LOWERING or DOWN when it is taken (R116) or began to close
at the falling edge of this very passage (R119; a mark in the grant stands for that, and a falling edge before the arrival
ends it, log 18). At a rising edge the watch counts as disarmed while the barrier is LOWERING or DOWN, or has left them
again and the change still waits for the arbiter (R119); a rising edge taken in OCCUPIED with the watch disarmed has no
effect on the deck, nor has the falling edge that follows it (R120; the model's readings, log 18). That DECK_STATE stands
before DECK_INTRUSION is the model's choice (log 38). That a tailgate ends the capture by an event delivered to the engine
(R97), and that the passage itself clears the engine's ended mark (R99), are the model's choices too (log 11).

The exit boom loop: a falling edge on an OCCUPIED deck with its release is the exit passage, which the records and the
engine are told; other edges have no effect (R118). The release, the capture results and a FORCE_EXIT act on the current
transaction alone (R117, R119). That the exit passage reaches the engine as CAPTURE_EXTERNAL_END (R97) is the model's
choice (log 11).

A deck in CLEARING or RECOVER becomes FREE when it is found empty (R121). A barrier's state is taken by the arbiter and
the lanes, which go by it from then on (R166; that they go by it and not by the state as it stands is the model's choice,
log 7): the tailgate watch is disarmed when the entry barrier goes LOWERING or DOWN (R119). CLEAR_TAILGATE clears a latch,
unless both beams are broken (R119). -/
def Obligations.DeckPassagesAndIntrusions : Prop :=
  (
    ∀ (s : State) (d : Deck), s.running = true → (s.arb d).Law →
      let a := s.arb d
      let closing := (s.bar d.entry).state = .lowering ∨ (s.bar d.entry).state = .down ∨
        Instr.barrierStateTaken .arbiter d.entry .lowering ∈ s.main.raised ∨
        Instr.barrierStateTaken .arbiter d.entry .down ∈ s.main.raised
      (let c := Instr.entryLoopEdgeAtArbiter d .rising
       exec c s = .next (s.after c fun r =>
        let armed : Bool := a.watch && decide ¬closing
        let t := r.modArb d fun x => { x with entryRisen := a.current.isNone || armed }
        match a.grant, a.current with
        | some g, _ =>
          if g.arrived then t
          else t.modArb d fun x => { x with grant := some { g with arrived := true, timer := none } }
        | none, some cur =>
          if armed then
            ((t.modArb d fun x => { x with tailgate := true, watch := false }).raise
              [.captureExternalEnd d .tailgate]).post (.arbiter d) (.tailgate d cur.number)
          else t
        | none, none => t)) ∧
      let c := Instr.entryLoopEdgeAtArbiter d .falling
      exec c s = .next (s.after c fun r =>
        let t := r.modArb d fun x => { x with entryRisen := false }
        match a.grant with
        | some g =>
          if g.arrived then
            ((((t.modArb d fun x =>
              { x with
                state := .occupied, grant := none
                current := some { number := g.number, lane := g.lane, released := false, outcome := .none }
                watch := decide (g.closing = false ∧ (s.bar d.entry).state ≠ .lowering ∧ (s.bar d.entry).state ≠ .down)
              }).post (.arbiter d)
              (.deckState d .granted .occupied (some (g.lane, g.number)))).flag .decks).modEng d fun g =>
                { g with ended := false }).raise [.entryPassageReport d g.number, .entryPassageAtLane g.lane d g.number]
          else t.modArb d fun x => { x with grant := some { g with closing := false } }
        | none =>
          if (a.state = .free ∨ a.state = .clearing) ∧ a.entryRisen = true then
            (((t.modArb d fun x => { x with state := .recover, offer := none }).post (.arbiter d)
              (.deckState d a.state .recover none)).flag .decks).post (.arbiter d) (.deckIntrusion d a.state)
          else t)) ∧
  (
    ∀ (s : State) (d : Deck), s.running = true → (s.arb d).Law →
      (let c := Instr.exitLoopEdgeAtArbiter d .rising
       exec c s = .next (s.after c id)) ∧
      (let c := Instr.exitLoopEdgeAtArbiter d .falling
       exec c s = .next (s.after c fun r =>
        match (s.arb d).current with
        | none => r
        | some cur =>
          if cur.released then
            (((r.modArb d fun x =>
              { x with state := .clearing, current := none, tailgate := false, watch := false }).post (.arbiter d)
                (.deckState d .occupied .clearing none)).flag .decks).raise
                  [.exitPassageReport d cur.number, .captureExternalEnd d .deckLeft]
          else r)) ∧
      ((s.arb d).current = none →
        (∀ n, exec (.exitReleaseAtArbiter d n) s = .next (s.after (.exitReleaseAtArbiter d n) id)) ∧
        (∀ n, exec (.forceExitNoticeAtArbiter d n) s = .next (s.after (.forceExitNoticeAtArbiter d n) id)) ∧
        (∀ res : CaptureResult, res.deck = d →
          exec (.captureCompletionAtArbiter res) s = .next (s.after (.captureCompletionAtArbiter res) id)) ∧
        ∀ n why, exec (.captureFailureAtArbiter d n why) s = .next (s.after (.captureFailureAtArbiter d n why) id)) ∧
      ∀ cur, (s.arb d).current = some cur →
        (∀ n, let c := Instr.exitReleaseAtArbiter d n
          exec c s = .next (s.after c fun r =>
            if n = none ∨ n = some cur.number then
              r.modArb d fun x => { x with current := some { cur with released := true } } else r)) ∧
        (∀ res : CaptureResult, res.deck = d → let c := Instr.captureCompletionAtArbiter res
          exec c s = .next (s.after c fun r =>
            if res.number = cur.number then
              r.modArb d fun x => { x with current := some { cur with outcome := .done res.weight res.cls } } else r)) ∧
        (∀ n why, let c := Instr.captureFailureAtArbiter d n why
          exec c s = .next (s.after c fun r =>
            if n = cur.number then r.modArb d fun x => { x with current := some { cur with outcome := .failed why } }
            else r)) ∧
        ∀ n, let c := Instr.forceExitNoticeAtArbiter d n
          exec c s = .next (s.after c fun r =>
            if n = cur.number then r.modArb d fun x => { x with tailgate := false } else r)) ∧
  (
    ∀ (s : State) (d : Deck),
      (s.running = true →
        (let c := Instr.deckEmpty d
         exec c s = .next (s.after c fun r =>
          if ((s.arb d).state = .clearing ∨ (s.arb d).state = .recover) ∧ (s.eng d).state = .empty ∧
              (s.inp (.beam1 d)).debounced = .clear ∧ (s.inp (.beam2 d)).debounced = .clear ∧
              (s.inp (.boom d.exit)).debounced = .clear ∧ s.boomAtArbiter d.exit = .down then
            ((r.modArb d fun a => { a with state := .free }).post (.arbiter d)
              (.deckState d (s.arb d).state .free none)).flag .decks
          else r)) ∧
        (∀ b st, let c := Instr.barrierStateTaken .arbiter b st
          exec c s = .next (s.after c fun r =>
            let r := r.setBoomAt .arbiter b st
            if b.isEntry ∧ (st = .lowering ∨ st = .down) then
              r.modArb b.deck fun a => { a with watch := false }
            else r)) ∧
        (∀ l b st, let c := Instr.barrierStateTaken (.lane l) b st
          exec c s = .next (s.after c fun r =>
            let r := r.setBoomAt (.lane l) b st
            if b.isEntry ∧ (s.laneCfg l).feed.has b.deck then r.modLane l fun w => { w with lamps := r.judged l } else r)) ∧
        ∀ b st, let c := Instr.barrierStateTaken .supervisor b st
          exec c s = .next (s.after c id)) ∧
      (∀ j b st k, (s.setBoomAt j b st).boomAtArbiter k = (if j = .arbiter ∧ k = b then st else s.boomAtArbiter k) ∧
        ∀ l, (s.setBoomAt j b st).boomAtLane l k = if j = .lane l ∧ k = b then st else s.boomAtLane l k) ∧
      ∀ (q : Sender) (deck : Nat) (role : Role), deckOf deck = some d →
        let c := Instr.clearTailgate q deck
        s.Taken c q role → exec c s = .next
          (if (s.arb d).tailgate = false then s.refusal c q .wrongState
          else if (s.inp (.beam1 d)).debounced = .active ∧ (s.inp (.beam2 d)).debounced = .active then
            s.refusal c q .deckNotReady
          else s.answered c q (fun r => r.modArb d fun a => { a with tailgate := false }) .ok))

/-- SET_DECK_SERVICE by the deck state (R122): OUT from FREE without an offer, CLEARING or RECOVER; IN ends the holds of
COMMAND at both barriers (R164), fails a collection (R193), and judges whether the deck is empty (R121). That these follow
in the request's own step is the model's choice (log 36). -/
def Obligations.DeckServiceByState : Prop :=
  ∀ (s : State) (q : Sender) (deck : Nat) (d : Deck) (role : Role), deckOf deck = some d →
    (let c := Instr.setDeckService q deck 0
     s.Taken c q role → exec c s = .next
      (if (s.arb d).state = .outOfService then s.answered c q id .ok
      else if (s.arb d).state = .granted ∨ (s.arb d).state = .occupied then s.refusal c q .wrongState
      else if (s.arb d).state = .free ∧ (s.arb d).offer.isSome then s.refusal c q .deckBusy
      else
        s.answered c q
          (fun r => ((r.modArb d fun a => { a with state := .outOfService }).post (.arbiter d)
            (.deckState d (s.arb d).state .outOfService none)).flag .decks) .ok)) ∧
    (let c := Instr.setDeckService q deck 1
     s.Taken c q role → exec c s = .next
      (if (s.arb d).state ≠ .outOfService then s.refusal c q .wrongState
      else
        s.answered c q
          (fun r =>
            let t := ((r.modArb d fun a => { a with state := .recover }).post (.arbiter d)
              (.deckState d .outOfService .recover none)).flag .decks
            let t := (t.modBar d.entry fun w =>
              { w with hold := if w.hold = .command then .none else w.hold }).judgeLowering d.entry
            let t := (t.modBar d.exit fun w =>
              { w with hold := if w.hold = .command then .none else w.hold }).judgeLowering d.exit
            (t.failCollection d .aborted).deckEmpty d) .ok)) ∧
    (∀ setting, 2 ≤ setting → let c := Instr.setDeckService q deck setting
      s.Taken c q role → exec c s = .next (s.refusal c q .badArgument)) ∧
    ∀ deck' setting, 2 ≤ deck' → let c := Instr.setDeckService q deck' setting
      s.Taken c q role → exec c s = .next (s.refusal c q .badArgument)

/-! ### Conditioners and lanes -/

/-- A conditioner takes its raw state when the run timer reaches the debounce time, and delivers the edge to the blocks
that read the input; the arbiter takes an edge of an end beam as the judgement of its deck-empty condition (R126, R127). A
run begun under an earlier configuration reaches no edge (R128; the model's reading, log 32).

The stop loop and the stuck timer move a lane between IDLE, PRESENT and FAULT, and start and stop the absence timer of a
WAITING lane (R131, R132). -/
def Obligations.ConditionersAndStopLoops : Prop :=
  (
    ∀ (s : State) (i : Input) (n : Nat), s.running = true →
      let c := Instr.conditionerEdge i
      let e : Edge := if (s.inp i).raw then .rising else .falling
      (s.inp i).run = some n →
        exec c s = .next (s.after c fun r =>
          if (s.inp i).fresh = false ∧ (s.inpCfg i).debounce ≤ n then
            (r.modInp i fun w => { w with debounced := if w.raw then .active else .clear, run := none }).raise
              (match i with
              | .stop l => [.stopLoopEdge l e]
              | .boom .aEntry => [.entryLoopEdgeAtArbiter .a e, .barrierLoopEdge .aEntry e, .positioningEdge .a i e]
              | .boom .aExit => [.exitLoopEdgeAtArbiter .a e, .barrierLoopEdge .aExit e, .positioningEdge .a i e]
              | .boom .bEntry => [.entryLoopEdgeAtArbiter .b e, .barrierLoopEdge .bEntry e, .positioningEdge .b i e]
              | .boom .bExit => [.exitLoopEdgeAtArbiter .b e, .barrierLoopEdge .bExit e, .positioningEdge .b i e]
              | .beam1 d => [.positioningEdge d i e, .deckEmpty d]
              | .beam2 d => [.positioningEdge d i e, .deckEmpty d])
          else r)) ∧
  (
    ∀ (s : State) (l : Lane), s.running = true →
      let enter := fun (old new : LaneState) (r : State) =>
        ((r.modLane l fun w =>
          { w with state := new, stuck := if new = .present then some ((s.laneCfg l).stuck * 1000) else none }).post (.lane l)
            (.laneState l old new (((s.lane l).request).map LaneFiling.number))).flag .lanes
      (let c := Instr.stopLoopEdge l .rising
       exec c s = .next (s.after c fun r =>
        match (s.lane l).state with
        | .idle => enter .idle .present r
        | .waiting => r.modLane l fun w => { w with absence := none }
        | .present => r
        | .go => r
        | .maintenance => r
        | .fault => r)) ∧
      (let c := Instr.stopLoopEdge l .falling
       exec c s = .next (s.after c fun r =>
        match (s.lane l).state with
        | .present => enter .present .idle r
        | .fault => enter .fault .idle r
        | .waiting => r.modLane l fun w => { w with absence := some ((s.laneCfg l).absence * 1000) }
        | .idle => r
        | .go => r
        | .maintenance => r)) ∧
      let c := Instr.stuckTimerExpiry l
      exec c s = .next (s.after c fun r =>
        if (s.lane l).state = .present ∧ (s.lane l).stuck = some 0 then enter .present .fault r else r))

/-- A filing order makes a lane WAITING and files at the decks of its feed; a lane that is WAITING, GO or in MAINTENANCE
withdraws it with CANCEL at once (R133). An absence timer at 0 withdraws the request with ABSENCE while the stop loop is
not ACTIVE (R134); that one already at 0 waits while the loop is ACTIVE is the model's choice (log 41).

LANE_STATE carries the number of the request that the lane holds in its new state, if any (R129). A lane leaves WAITING or
GO for PRESENT or IDLE by its loop: on a cancel order for its request (R135), on the withdrawal of its grant (R137), and
at the entry passage of its vehicle (R138).

A WAITING lane accepts an offer for its request from a deck where it stands filed, goes to GO, and withdraws at the other
deck; any other offer is declined (R113, R136).

SET_LANE_FEED: refused in GO, nothing where the feed is unchanged; a WAITING lane withdraws at the decks it leaves and
files at those it joins (R139). SET_LANE_MODE by the lane state (R141). -/
def Obligations.LaneRequestsAndSettings : Prop :=
  (
    ∀ (s : State) (l : Lane), s.running = true →
      (∀ number kind priority, let c := Instr.filingOrder l number kind priority
        exec c s = .next (s.after c fun r =>
          if (s.lane l).state ∈ [LaneState.idle, .present, .fault] then
            (((r.modLane l fun w =>
              { w with
                state := .waiting, stuck := none
                request := some
                  { number := number, kind := kind, priority := priority
                    filed := ⟨(s.laneCfg l).feed.has .a, (s.laneCfg l).feed.has .b⟩ }
                absence := if (s.inp (.stop l)).debounced = .active then none
                  else some ((s.laneCfg l).absence * 1000) }).post (.lane l)
              (.laneState l (s.lane l).state .waiting (some number))).flag .lanes).raise
                ((if (s.laneCfg l).feed.has .a then [Instr.filing .a l number kind priority] else []) ++
                  (if (s.laneCfg l).feed.has .b then [Instr.filing .b l number kind priority] else []))
          else r.raise [.withdrawalReport number .cancel])) ∧
      let c := Instr.absenceTimerExpiry l
      exec c s = .next (s.after c fun r =>
        match (s.lane l).request with
        | none => r
        | some f =>
          if (s.lane l).state = .waiting ∧ (s.inp (.stop l)).debounced ≠ .active ∧ (s.lane l).absence = some 0 then
            (((r.modLane l fun w =>
              { w with state := .idle, request := none, grant := none, absence := none, stuck := none }).post (.lane l)
                (.laneState l .waiting .idle none)).flag .lanes).raise
                  ((if f.filed.a then [Instr.withdrawal .a l] else []) ++ (if f.filed.b then [Instr.withdrawal .b l] else [])
                    ++ [Instr.withdrawalReport f.number .absence])
          else r)) ∧
  (
    ∀ (s : State) (l : Lane) (f : LaneFiling), s.running = true → (s.lane l).request = some f →
      let dest : LaneState := if (s.inp (.stop l)).debounced = .active then .present else .idle
      let leave := fun (old : LaneState) (r : State) =>
        ((r.modLane l fun w =>
          { w with
            state := dest, request := none, grant := none, absence := none
            stuck := if dest = .present then some ((s.laneCfg l).stuck * 1000) else none }).post (.lane l)
              (.laneState l old dest none)).flag .lanes
      (∀ number, let c := Instr.cancelOrder l number
        exec c s = .next (s.after c fun r =>
          if f.number ≠ number then r
          else if (s.lane l).state = .waiting then
            (leave .waiting r).raise
              ((if f.filed.a then [Instr.withdrawal .a l] else []) ++ (if f.filed.b then [Instr.withdrawal .b l] else []) ++
                [Instr.withdrawalReport number .cancel])
          else if (s.lane l).state = .go then
            (leave .go r).raise
              ((match (s.lane l).grant with
                | none => []
                | some d => [Instr.withdrawal d l]) ++ [Instr.withdrawalReport number .cancel])
          else r)) ∧
      (∀ d number cause, let c := Instr.grantWithdrawnAtLane l d number cause
        exec c s = .next (s.after c fun r =>
          if (s.lane l).state = .go ∧ (s.lane l).grant = some d then
            (leave .go r).raise [.withdrawalReport f.number cause] else r)) ∧
      ∀ d number, let c := Instr.entryPassageAtLane l d number
        exec c s = .next (s.after c fun r =>
          if (s.lane l).state = .go ∧ (s.lane l).grant = some d then leave .go r else r)) ∧
  (
    ∀ (s : State) (l : Lane) (d : Deck) (number : Nat), s.running = true →
      let c := Instr.offerAtLane l d number
      (∀ f, (s.lane l).state = .waiting → (s.lane l).request = some f → f.number = number → f.filed.get d = true →
        exec c s = .next (s.after c fun r =>
          (((r.modLane l fun w =>
            { w with
              state := .go, absence := none, grant := some d, stuck := none
              request := some { f with filed := f.filed.mod d.other fun _ => false } }).post (.lane l)
            (.laneState l .waiting .go (some number))).flag .lanes).raise
              (Instr.acceptance d l number :: if f.filed.get d.other then [.withdrawal d.other l] else []))) ∧
      (((s.lane l).state ≠ .waiting ∨ (s.lane l).request = none ∨
          ∃ f, (s.lane l).request = some f ∧ (f.number ≠ number ∨ f.filed.get d = false)) →
        exec c s = .next (s.after c fun r => r.raise [.decline d l number]))) ∧
  (
    (∀ (s : State) (q : Sender) (lane feed mode : Nat) (role : Role),
      ((4 ≤ lane ∨ 3 ≤ feed) → let c := Instr.setLaneFeed q lane feed
        s.Taken c q role → exec c s = .next (s.refusal c q .badArgument)) ∧
      ((4 ≤ lane ∨ 2 ≤ mode) → let c := Instr.setLaneMode q lane mode
        s.Taken c q role → exec c s = .next (s.refusal c q .badArgument))) ∧
    ∀ (s : State) (q : Sender) (lane : Nat) (l : Lane) (role : Role), laneOf lane = some l →
      (∀ (feed : Nat) (f : Feed), feedOf feed = some f → let c := Instr.setLaneFeed q lane feed
        s.Taken c q role → exec c s = .next
          (if (s.lane l).state = .go then s.refusal c q .wrongState
          else if (s.laneCfg l).feed = f then s.answered c q id .ok
          else
            s.answered c q
              (fun r =>
                let t := r.modLaneCfg l fun x => { x with feed := f }
                match (s.lane l).request with
                | none => t
                | some k =>
                  if (s.lane l).state = .waiting then
                    (t.modLane l fun w => { w with request := some { k with filed := ⟨f.has .a, f.has .b⟩ } }).raise
                      (Deck.all.flatMap fun d =>
                        if k.filed.get d = true ∧ f.has d = false then [Instr.withdrawal d l]
                        else if k.filed.get d = false ∧ f.has d = true then [.filing d l k.number k.kind k.priority]
                        else [])
                  else t) .ok)) ∧
      (let c := Instr.setLaneMode q lane 0
       s.Taken c q role → exec c s = .next
        (if (s.lane l).state = .maintenance then s.answered c q id .ok
        else if (s.lane l).state = .idle ∨ (s.lane l).state = .present then
          s.answered c q
            (fun r => ((r.modLane l fun w => { w with state := .maintenance, stuck := none }).post (.lane l)
              (.laneState l (s.lane l).state .maintenance (((s.lane l).request).map LaneFiling.number))).flag .lanes) .ok
        else s.refusal c q .wrongState)) ∧
      let c := Instr.setLaneMode q lane 1
      s.Taken c q role → exec c s = .next
        (if (s.lane l).state = .maintenance then
          let dest : LaneState := if (s.inp (.stop l)).debounced = .active then .present else .idle
          s.answered c q
            (fun r =>
              ((r.modLane l fun w =>
                { w with state := dest, stuck := if dest = .present then some ((s.laneCfg l).stuck * 1000) else none }).post (.lane l)
                  (.laneState l .maintenance dest (((s.lane l).request).map LaneFiling.number))).flag .lanes) .ok
        else s.refusal c q .wrongState))

/-! ### Barriers -/

/-- A permissive rise, DOWN, STOPPED or LOWERING: the latch is SET, the hold NONE, and the barrier starts RAISING, or is
UP at once where its upper limit is ACTIVE; in RAISING a reversal is cleared, in UP the close-delay timer is dropped
(R154, R157). That a barrier which is UP at once posts LATCH is the model's choice (log 13).

The permissive of a barrier (R152, R153): an entry barrier's while its deck is GRANTED in a yard that is not CLOSED, an
exit barrier's while its deck is OCCUPIED with its release; neither in SUPPLY_LOW nor in FAULT. That the yard mode and the
supply state are those the barrier last took, that the other inputs are read as they stand, and that a barrier keeps the
value it last took until its rise or fall is taken are the model's choices (log 7).

A permissive fall with the latch CLEAR has no other effect; with a vehicle in the loop it clears the latch, and a barrier
raising on it stops; else the fail action is carried out: LOWER stops a raising barrier and clears the latch, HOLD stops
the barrier with hold FAIL (R155, R156). -/
def Obligations.Permissives : Prop :=
  (
    ∀ (s : State) (b : Barrier), s.running = true →
      let c := Instr.permissiveRise b
      let w := s.bar b
      ((s.permissiveNow b = false ∨ w.permissive = true) → exec c s = .next (s.after c id)) ∧
      (s.permissiveNow b = true → w.permissive = false → w.state ∈ [BarrierState.down, .stopped, .lowering] →
        let dest : BarrierState := if w.upper then .up else .raising
        exec c s = .next (s.after c fun r =>
          ((((r.modBar b fun _ =>
            { w with
              permissive := true, latch := true, hold := .none, state := dest, closeDelay := none
              reversal := if w.upper then false else w.reversal
              motion := if w.upper then none else some ((s.barCfg b).motionLimit * 1000) }).post (.barrier b)
            (.barrierState b w.state dest .latch)).flag .decks).raise
              ((barrierReaders b).map fun x => .barrierStateTaken x b dest)))) ∧
      (s.permissiveNow b = true → w.permissive = false → w.state = .raising →
        exec c s = .next (s.after c fun r => r.modBar b fun _ =>
          { w with permissive := true, latch := true, hold := .none, reversal := false, closeDelay := none })) ∧
      (s.permissiveNow b = true → w.permissive = false → w.state = .up →
        exec c s = .next (s.after c fun r => r.modBar b fun _ =>
          { w with permissive := true, latch := true, hold := .none, closeDelay := none }))) ∧
  (
    ∀ (s : State) (b : Barrier), s.permissiveNow b = true ↔
      (s.bar b).state ≠ .fault ∧ s.supplyAt (.barrier b) = .normal ∧
        if b.isEntry then (s.arb b.deck).state = .granted ∧ s.modeAt (.entryBarrier b.deck) ≠ .closed
        else (s.arb b.deck).state = .occupied ∧ ∃ cur, (s.arb b.deck).current = some cur ∧ cur.released = true) ∧
  (
    ∀ (s : State) (b : Barrier), s.running = true → (s.bar b).Law →
      let c := Instr.permissiveFall b
      let w := s.bar b
      ((s.permissiveNow b = true ∨ w.permissive = false) → exec c s = .next (s.after c id)) ∧
      (s.permissiveNow b = false → w.permissive = true →
        (w.latch = false →
          exec c s = .next (s.after c fun r => r.modBar b fun _ => { w with permissive := false })) ∧
        (w.latch = true → w.inLoop = true → (w.state = .up ∨ w.reversal = true) →
          exec c s = .next (s.after c fun r =>
            (r.modBar b fun _ => { w with permissive := false, latch := false }).judgeLowering b)) ∧
        (w.latch = true → w.inLoop = false → w.state = .up → (s.barCfg b).failAction = .lower →
          exec c s = .next (s.after c fun r =>
            (r.modBar b fun _ => { w with permissive := false, latch := false }).judgeLowering b)) ∧
        let stop := fun (hold : BarrierHold) (reversal : Bool) (reason : BarrierReason) (r : State) =>
          ((((r.modBar b fun _ =>
              { w with permissive := false, latch := false, hold := hold, state := .stopped, motion := none
                       reversal := reversal }).post (.barrier b) (.barrierState b w.state .stopped reason)).flag .decks).raise
            ((barrierReaders b).map fun x => .barrierStateTaken x b .stopped)).judgeLowering b
        (w.latch = true → w.inLoop = true → w.state = .raising → w.reversal = false →
          exec c s = .next (s.after c (stop w.hold false .latchCleared))) ∧
        (w.latch = true → w.inLoop = false → w.state = .raising → (s.barCfg b).failAction = .lower →
          exec c s = .next (s.after c (stop w.hold false .failAction))) ∧
        (w.latch = true → w.inLoop = false → (s.barCfg b).failAction = .hold →
          exec c s = .next (s.after c (stop .fail false .failAction)))))

/-- The boom loop: a rising edge in LOWERING reverses the boom (R159), and in any state a vehicle is in the loop; the
falling edge ends its passage: the latch is CLEAR, the hold NONE, a barrier raising on the latch stops, and the lowering
path is judged (R155, R158). That a reversal which finds the boom on its upper limit posts REVERSAL is the model's choice
(log 13). An entry barrier that begins to close at a falling edge which its arbiter has yet to take leaves a mark in the
grant, by which that passage leaves the tailgate watch DISARMED (R119; the mark is the model's own, log 18).

The lowering path (R158): in UP or STOPPED with the latch CLEAR, no hold and a clear loop the close-delay timer runs; a
close delay of 0 lowers at once; where a condition fails the timer is dropped. At its end the barrier lowers, or is DOWN
at once where its lower limit is ACTIVE (R158, R164). That a barrier which is DOWN at once posts CLOSE_DELAY is the
model's choice (log 13). -/
def Obligations.BoomLoopsAndLowering : Prop :=
  (
    ∀ (s : State) (b : Barrier), s.running = true →
      let w := s.bar b
      let move := fun (new : BarrierWork) (reason : BarrierReason) (r : State) =>
        (((r.modBar b fun _ => new).post (.barrier b) (.barrierState b w.state new.state reason)).flag .decks).raise
          ((barrierReaders b).map fun x => .barrierStateTaken x b new.state)
      (let c := Instr.barrierLoopEdge b .rising
       exec c s = .next (s.after c fun r =>
        (if w.state = .lowering then
          move
            (if w.upper then
              { w with inLoop := true, state := .up, motion := none, reversal := false, closeDelay := none }
            else
              { w with inLoop := true, state := .raising, reversal := true, closeDelay := none
                       motion := some ((s.barCfg b).motionLimit * 1000) }) .reversal r
        else r.modBar b fun _ => { w with inLoop := true }).judgeLowering b)) ∧
      let c := Instr.barrierLoopEdge b .falling
      exec c s = .next (s.after c fun r =>
        let t :=
          (if w.inLoop = false then r
          else if w.state = .raising ∧ w.latch = true ∧ w.reversal = false then
            move { w with inLoop := false, latch := false, hold := .none, state := .stopped, motion := none } .latchCleared r
          else r.modBar b fun _ => { w with inLoop := false, latch := false, hold := .none }).judgeLowering b
        if b.isEntry ∧ (t.bar b).state ≠ w.state ∧ ((t.bar b).state = .lowering ∨ (t.bar b).state = .down) ∧
            Instr.entryLoopEdgeAtArbiter b.deck .falling ∈ s.main.raised then
          t.modArb b.deck fun a => { a with grant := a.grant.map fun g => { g with closing := true } }
        else t)) ∧
  (
    ∀ (s : State) (b : Barrier),
      let w := s.bar b
      let may := (w.state = .up ∨ w.state = .stopped) ∧ w.latch = false ∧ w.hold = .none ∧
        (s.inp (.boom b)).debounced = .clear
      let lower := fun (r : State) =>
        let dest : BarrierState := if w.lower then .down else .lowering
        (((r.modBar b fun _ =>
          { w with
            state := dest, reversal := false, closeDelay := none
            motion := if w.lower then none else some ((s.barCfg b).motionLimit * 1000) }).post (.barrier b)
            (.barrierState b w.state dest .closeDelay)).flag .decks).raise
              ((barrierReaders b).map fun x => .barrierStateTaken x b dest)
      (¬may → s.judgeLowering b = s.modBar b fun _ => { w with closeDelay := none }) ∧
      (may → w.closeDelay ≠ none → s.judgeLowering b = s) ∧
      (may → w.closeDelay = none → 0 < (s.barCfg b).closeDelay →
        s.judgeLowering b = s.modBar b fun _ => { w with closeDelay := some ((s.barCfg b).closeDelay * 1000) }) ∧
      (may → w.closeDelay = none → (s.barCfg b).closeDelay = 0 → s.judgeLowering b = lower s) ∧
      (s.running = true →
        let c := Instr.closeDelayExpiry b
        exec c s = .next (s.after c fun r =>
          if w.closeDelay ≠ some 0 then r
          else if may then lower r
          else r.modBar b fun _ => { w with closeDelay := none })))

/-- A limit state takes a reading seen on 20 consecutive ticks (R151): the upper limit ends RAISING in UP, the lower one
LOWERING in DOWN (R157, R158); both at once, or the loss of the limit a barrier rests on, is a FAULT (R161, R162).

Placement by the limits: both ACTIVE is FAULT, the lower alone DOWN, the upper alone UP, neither STOPPED; a change of the
state posts BARRIER_STATE with PLACEMENT; a barrier placed UP or STOPPED without its permissive takes the fail action, of
which LOWER leaves it to its lowering path and HOLD leaves it STOPPED with hold FAIL (R156, R166, R168). That the lowering
path is judged in the same step, before a permissive rise that is due, is the model's choice (log 13).

A motion timer at 0 in RAISING or LOWERING is a FAULT with cause MOTION_TIMEOUT (R160, R162); a half-period timer at 0
toggles the keepalive line of a barrier that is out of FAULT in a yard with NORMAL supply, and such a line has its timer,
a full half-period from where it begins; any other line has none (R165). That the line goes by the supply state that the
barrier last took is the model's choice (R177, log 7). -/
def Obligations.LimitsPlacementAndTimers : Prop :=
  (
    ∀ (s : State) (b : Barrier), s.running = true →
      let w := s.bar b
      let move := fun (new : BarrierWork) (reason : BarrierReason) (r : State) =>
        (((r.modBar b fun _ => new).post (.barrier b) (.barrierState b w.state new.state reason)).flag .decks).raise
          ((barrierReaders b).map fun x => .barrierStateTaken x b new.state)
      let fault := fun (w' : BarrierWork) (cause : FaultCause) =>
        move
          { w' with state := .fault, cause := some cause, latch := false, hold := .none, reversal := false
                    closeDelay := none, motion := none, permissive := false, half := none } (.fault cause)
      (let c := Instr.limitEvent b .upper
       let w' : BarrierWork := { w with upper := !w.upper, upperRun := 0 }
       exec c s = .next (s.after c fun r =>
        if w.upperRun < 20 then r
        else if w.state = .fault then r.modBar b fun _ => w'
        else if w.upper = false ∧ w.lower = true then fault w' .bothLimits r
        else if w.upper = true ∧ w.state = .up then fault w' .limitLost r
        else if w.upper = false ∧ w.state = .raising then
          (move { w' with state := .up, motion := none, reversal := false } .limit r).judgeLowering b
        else r.modBar b fun _ => w')) ∧
      let c := Instr.limitEvent b .lower
      let w' : BarrierWork := { w with lower := !w.lower, lowerRun := 0 }
      exec c s = .next (s.after c fun r =>
        if w.lowerRun < 20 then r
        else if w.state = .fault then r.modBar b fun _ => w'
        else if w.upper = true ∧ w.lower = false then fault w' .bothLimits r
        else if w.lower = true ∧ w.state = .down then fault w' .limitLost r
        else if w.lower = false ∧ w.state = .lowering then
          move { w' with state := .down, motion := none, reversal := false, closeDelay := none
                         hold := if w.hold = .command then .none else w.hold } .limit r
        else r.modBar b fun _ => w')) ∧
  (
    ∀ (s : State) (b : Barrier),
      let w := s.bar b
      (placedState true true = .fault ∧ placedState false true = .down ∧ placedState true false = .up ∧
        placedState false false = .stopped) ∧
      (let move := fun (x y : BarrierState) (reason : BarrierReason) (r : State) =>
        if x = y then r
        else ((r.post (.barrier b) (.barrierState b x y reason)).flag .decks).raise
          ((barrierReaders b).map fun k => .barrierStateTaken k b y)
       let v : BarrierWork :=
        { w with
          state := placedState w.upper w.lower, latch := false, hold := .none, reversal := false, closeDelay := none
          motion := none, cause := if w.upper = true ∧ w.lower = true then some .bothLimits else none }
       let t := move w.state v.state .placement (s.modBar b fun _ => v)
       s.place b =
        ((if w.lower = false ∧ t.permissiveNow b = false ∧ (s.barCfg b).failAction = .hold then
            move v.state .stopped .failAction (t.modBar b fun _ => { v with state := .stopped, hold := .fail })
          else t).judgeLowering b).judgeKeepalive b) ∧
      (w.lower = true → w.upper = false →
        ((s.place b).bar b).state = .down ∧ ((s.place b).bar b).latch = false ∧ ((s.place b).bar b).hold = .none ∧
          ((s.place b).bar b).cause = none) ∧
      (w.lower = false → (s.modBar b fun w => { w with state := .stopped }).permissiveNow b = false → (s.barCfg b).failAction = .hold →
        ((s.place b).bar b).state = .stopped ∧ ((s.place b).bar b).hold = .fail ∧ ((s.place b).bar b).closeDelay = none) ∧
      (w.lower = true → w.upper = true →
        ((s.place b).bar b).state = .fault ∧ ((s.place b).bar b).cause = some .bothLimits ∧ ((s.place b).bar b).half = none)) ∧
  (
    ∀ (s : State) (b : Barrier), s.running = true →
      let w := s.bar b
      (let c := Instr.motionTimeout b
       exec c s = .next (s.after c fun r =>
        if w.motion = some 0 ∧ (w.state = .raising ∨ w.state = .lowering) then
          (((r.modBar b fun _ =>
            { w with state := .fault, cause := some .motionTimeout, latch := false, hold := .none, reversal := false
                     closeDelay := none, motion := none, permissive := false, half := none }).post (.barrier b)
            (.barrierState b w.state .fault (.fault .motionTimeout))).flag .decks).raise
              ((barrierReaders b).map fun x => .barrierStateTaken x b .fault)
        else r)) ∧
      let c := Instr.keepaliveToggle b
      exec c s = .next (s.after c fun r =>
        if w.half = some 0 ∧ w.state ≠ .fault ∧ s.supplyAt (.barrier b) = .normal then
          r.modBar b fun _ => { w with level := !w.level, half := some (s.barCfg b).halfPeriod }
        else r) ∧
      s.judgeKeepalive b = s.modBar b fun _ =>
        { w with
          half := if w.state ≠ .fault ∧ s.supplyAt (.barrier b) = .normal then some (w.half.getD (s.barCfg b).halfPeriod)
            else none })

/-- BARRIER_RESET leaves FAULT by placement unless both limits are ACTIVE (R163, R168); BARRIER_COMMAND moves the boom of
a deck that is OUT_OF_SERVICE, or a STOPPED one, with hold COMMAND, and lowers only with a clear loop (R164). The state
answered is the one that placement gives from the limits, before the fail action and the lowering path. That a RAISE
commanded in RAISING leaves a reversal set is the model's choice (log 13). -/
def Obligations.BarrierRequests : Prop :=
  (∀ (s : State) (q : Sender) (n action : Nat) (role : Role), 4 ≤ n →
    ∀ c ∈ [Instr.barrierReset q n, .barrierCommand q n action],
      s.Taken c q role → exec c s = .next (s.refusal c q .badArgument)) ∧
  ∀ (s : State) (q : Sender) (n : Nat) (b : Barrier) (role : Role), barrierOf n = some b →
    let w := s.bar b
    (let c := Instr.barrierReset q n
     s.Taken c q role → exec c s = .next
      (if w.state ≠ .fault then s.refusal c q .wrongState
      else if w.upper = true ∧ w.lower = true then s.refusal c q .faultPersists
      else
        s.answered c q (fun r => r.place b) 
          (.ok (barrierStateByte (if w.lower then .down else if w.upper then .up else .stopped))))) ∧
    ∀ (action : Nat), let c := Instr.barrierCommand q n action
      s.Taken c q role → exec c s = .next
        (if 3 ≤ action then s.refusal c q .badArgument
        else if w.state = .fault then s.refusal c q .wrongState
        else if (s.arb b.deck).state ≠ .outOfService ∧ w.state ≠ .stopped then s.refusal c q .wrongState
        else if action = 1 ∧ (s.inp (.boom b)).debounced ≠ .clear then s.refusal c q .loopOccupied
        else
          let v : BarrierWork := { w with latch := false, closeDelay := none, hold := .command }
          let moving := some ((s.barCfg b).motionLimit * 1000)
          let new : BarrierWork :=
            if action = 0 then
              if w.upper then { v with state := .up, motion := none, reversal := false }
              else { v with state := .raising, motion := moving }
            else if action = 1 then
              if w.lower then { v with state := .down, motion := none, reversal := false, hold := .none }
              else { v with state := .lowering, motion := moving, reversal := false }
            else { v with state := .stopped, motion := none, reversal := false }
          s.answered c q
            (fun r =>
              let t := r.modBar b fun _ => new
              if new.state = w.state then t
              else ((t.post (.barrier b) (.barrierState b w.state new.state .command)).flag .decks).raise
                ((barrierReaders b).map fun x => .barrierStateTaken x b new.state)) .ok)

/-! ### The supervisor -/

/-- A yard tick (R50, R51), marked REFERENCE while the monitor is LOCKED and BACKUP else, and what a tick of either mark
does: the yard clock's sub-second and the millisecond count advance, every timer counts down by one, the absence timer of a
lane only while the lane is WAITING with its stop loop not ACTIVE, the limit, switch and qualification runs count, every
conditioner samples its line, and windows open at their boundaries (R36, R56, R95, R96, R115, R126, R132, R134, R146, R151,
R175, R185, R199, R209). The first tick after a main reset takes the level of the calibration
switch without waiting (R185), and a barrier whose limit levels are not those it was placed by takes them and is placed by
them (R151, R168; log 19). That a timer holds at 0, a run counts past its length and what falls due is taken by a later
command are the model's choices (log 5), and so are a sub-second count past 999 and the mark kept with it (log 9), and
that an absence timer keeps its time until the lane takes the rising edge of its stop loop (log 41). -/
def Obligations.YardTickCounts : Prop :=
  (∀ (s : State) (x : Lines), s.running = true → let c := Instr.yardTick x
    exec c s = .next (s.after c fun r => r.tick (if s.sup.monitor = .locked then .reference else .backup) x)) ∧
  ∀ (s : State) (m : TickMark) (x : Lines),
    let backup := m == .backup
    let down := fun (t : Option Nat) => t.map fun n => n - 1
    let opens := fun (d : Deck) => (s.win d).runs && (s.win d).current.isNone
      && (if s.ms < 281474976710655 then s.ms + 1 else s.ms) % (s.deckCfg d).metrology.window == 0
    ∃ u : State, s.tick m x =
      (if s.sup.firstTick then
        [Barrier.aEntry, .aExit, .bEntry, .bExit].foldl
          (fun r b =>
            if (r.bar b).upper = x.upper.get b ∧ (r.bar b).lower = x.lower.get b then r
            else
              (r.modBar b fun w =>
                { w with upper := x.upper.get b, lower := x.lower.get b, upperRun := 0, lowerRun := 0 }).place b) u
      else u) ∧
      u.pending = s.pending ∧ u.running = s.running ∧ u.check = s.check ∧ u.main.raised = s.main.raised ∧
      u.main.modes = s.main.modes ∧ u.main.supplies = s.main.supplies ∧ u.main.booms = s.main.booms ∧
      u.backup = { s.backup with records :=
        match s.recs.clock with
        | none => s.recs
        | some now =>
          if now = lastSecond then s.recs
          else { s.recs with subSecond := s.recs.subSecond + 1, subBackup := s.recs.subBackup || backup } } ∧
      u.sup =
        { s.sup with
          ms := if s.ms < 281474976710655 then s.ms + 1 else s.ms
          startTimer := down s.sup.startTimer
          restore := s.sup.restore.map fun n => if x.supply = .aboveRestore then (if n < 2000 then n + 1 else n) else 0
          calSwitch := if s.sup.firstTick then x.calSwitch else s.sup.calSwitch
          calRun := if s.sup.firstTick ∨ x.calSwitch = s.sup.calSwitch then 0 else s.sup.calRun + 1
          qualification :=
            if s.sup.monitor = .locked then s.sup.qualification
            else if 4014 ≤ x.refEdges ∧ x.refEdges ≤ 4178 then
              (if s.sup.qualification < 1000 then s.sup.qualification + 1 else s.sup.qualification)
            else 0
          firstTick := false, lines := x } ∧
      (∀ d, u.win d =
        if opens d then
          { s.win d with
            current := some { opened := u.ms, backup := false }, serial := (s.win d).serial + 1, first := false }
        else { s.win d with current := (s.win d).current.map fun o => { o with backup := o.backup || backup } }) ∧
      (∀ d, u.eng d =
        { s.eng d with
          capture := (s.eng d).capture.map fun k =>
            { k with timer := if k.paused then k.timer else k.timer - 1, leave := k.leave.map fun n => n + 1 }
          windowMark := if opens d then (s.win d).first || !(s.eng d).positioned else (s.eng d).windowMark }) ∧
      (∀ ch, u.chan ch =
        if (s.chanCfg ch).map.any opens then { s.chan ch with running := some 0, saturated := false } else s.chan ch) ∧
      (∀ d, u.arb d =
        { s.arb d with grant := (s.arb d).grant.map fun g => { g with timer := down g.timer } }) ∧
      (∀ l, u.lane l =
        { s.lane l with
          absence :=
            if (s.lane l).state = .waiting ∧ (s.inp (.stop l)).debounced ≠ .active then down (s.lane l).absence
            else (s.lane l).absence
          stuck := down (s.lane l).stuck
          lamps := (s.lane l).lamps.map fun k => { k with stretch := down k.stretch } }) ∧
      (∀ b, u.bar b =
        { s.bar b with
          closeDelay := down (s.bar b).closeDelay, motion := down (s.bar b).motion, half := down (s.bar b).half
          upperRun := if x.upper.get b = (s.bar b).upper then 0 else (s.bar b).upperRun + 1
          lowerRun := if x.lower.get b = (s.bar b).lower then 0 else (s.bar b).lowerRun + 1 }) ∧
      (∀ i, u.inp i =
        let w := s.inp i
        let raw := x.inputs.get i != (s.inpCfg i).inverted
        let v : ConditionerWork := { w with raw := raw, fresh := false }
        if s.sup.firstTick then { v with run := some 0 }
        else if w.debounced = (if raw then .active else .clear) then { v with run := none }
        else
          { v with
            run := match w.run with
              | none => some 0
              | some n => some (if raw = w.raw ∧ w.fresh = false then n + 1 else 0) }) ∧
      ∀ p, u.port p =
        { s.port p with
          quiet := down (s.port p).quiet
          receiver :=
            match (s.port p).receiver with
            | .hunting => .hunting
            | .collecting bs gap => .collecting bs (gap + 1) }

/-- The supply monitor (R177, R178): a tick below the warning threshold enters SUPPLY_LOW, and 2,000 ticks in a row above
the restore threshold end it; each is posted and delivered to the engines, the arbiters and the barriers. Each goes by it
from when it takes it (that it keeps the last one taken is the model's choice, log 7): on SUPPLY_LOW an engine fails its
capture and collection, an arbiter withdraws a grant in its proceed interval, and a barrier's keepalive line holds; on
NORMAL the line toggles from a full half-period. The orders of WEIGHING_FAILED before ENGINE_STATE and of DECK_STATE
before GRANT_WITHDRAWN are the model's choices (log 38).

The reference monitor: an expired watch ends the tick as a BACKUP tick, one that does everything YARD_TICK does under that
mark (the model's reading, log 21), and enters SUBSTITUTE (R174); 1,000 good ticks in a row make it LOCKED, and
CLOCK_RESTORED is posted from SUBSTITUTE (R175); the start timer at 0 enters SUBSTITUTE (R176). -/
def Obligations.SupplyAndReferenceMonitors : Prop :=
  (
    ∀ s : State, s.running = true →
      let readers := [SupplyReader.engine .a, .engine .b, .arbiter .a, .arbiter .b, .barrier .aEntry, .barrier .aExit,
        .barrier .bEntry, .barrier .bExit]
      exec .supplyLow s = .next (s.after .supplyLow fun r =>
        if s.sup.supply = .normal ∧ s.sup.lines.supply = .belowWarning then
          ((r.modSup fun v => { v with supply := .supplyLow, restore := some 0 }).post .supervisor .supplyLow).raise
            (readers.map fun k => .supplyStateTaken k .supplyLow)
        else r) ∧
      exec .supplyRestored s = .next (s.after .supplyRestored fun r =>
        if s.sup.supply = .supplyLow ∧ ∃ n ∈ s.sup.restore, 2000 ≤ n then
          ((r.modSup fun v => { v with supply := .normal, restore := none }).post .supervisor .supplyRestored).raise
            (readers.map fun k => .supplyStateTaken k .normal)
        else r) ∧
      (∀ d, let c := Instr.supplyStateTaken (.engine d) .supplyLow
        (s.eng d).Law →
        exec c s = .next (s.after c fun r =>
          let r := r.setSupplyAt (.engine d) .supplyLow
          let t := match (s.eng d).capture with
            | none => r
            | some k => r.captureFailed d k .supply none
          match (s.eng d).collection with
          | none => t
          | some k =>
            ((t.modEng d fun g => { g with collection := none }).post (.engine d)
              (.calFailed d k.kind .supply k.windows k.origin) (some k.origin)).flag .decks)) ∧
      (∀ d, let c := Instr.supplyStateTaken (.arbiter d) .supplyLow
        (s.arb d).Law →
        exec c s = .next (s.after c fun r =>
          let r := r.setSupplyAt (.arbiter d) .supplyLow
          match (s.arb d).grant with
          | none => r
          | some g =>
            if g.arrived then r
            else
              ((((r.modArb d fun a => { a with state := .free, grant := none }).post (.arbiter d)
                (.deckState d .granted .free none)).flag .decks).raise
                  [.grantWithdrawnAtLane g.lane d g.number .supply]).post (.arbiter d)
                    (.grantWithdrawn d g.lane g.number .supply))) ∧
      (∀ d, ∀ k ∈ [SupplyReader.engine d, .arbiter d], let c := Instr.supplyStateTaken k .normal
        exec c s = .next (s.after c fun r => r.setSupplyAt k .normal)) ∧
      (∀ j st k, (s.setSupplyAt j st).supplyAt k = if k = j then st else s.supplyAt k) ∧
      ∀ b st, let c := Instr.supplyStateTaken (.barrier b) st
        exec c s = .next (s.after c fun r => (r.setSupplyAt (.barrier b) st).modBar b fun w =>
          { w with half :=
              if w.state ≠ .fault ∧ st = .normal then
                (match w.half with
                | some n => some n
                | none => some (s.barCfg b).halfPeriod)
              else none })) ∧
  (
    ∀ s : State, s.running = true →
      (∀ x, let c := Instr.watchExpiry x
        (s.sup.monitor ≠ .locked → exec c s = .next (s.after c id)) ∧
        (s.sup.monitor = .locked → exec c s = .next (s.after c fun r =>
          let t := r.tick .backup x
          (t.modSup fun v => { v with monitor := .substitute, qualification := 0 }).post .supervisor
            (.clockSubstitute t.sup.ms)))) ∧
      exec .qualification s = .next (s.after .qualification fun r =>
        if s.sup.monitor = .locked ∨ s.sup.qualification < 1000 then r
        else
          let t := r.modSup fun v => { v with monitor := .locked, qualification := 0, startTimer := none }
          if s.sup.monitor = .substitute then t.post .supervisor (.clockRestored s.sup.ms) else t) ∧
      exec .startTimerExpiry s = .next (s.after .startTimerExpiry fun r =>
        if s.sup.monitor = .start ∧ s.sup.startTimer = some 0 then
          (r.modSup fun v => { v with monitor := .substitute, startTimer := none }).post .supervisor
            (.clockSubstitute s.sup.ms)
        else r))

/-- SET_YARD_MODE by the mode in force (R171): the mode in force changes nothing, CLOSED cannot go to CLOSING, and CLOSED
is not forced on a deck in use; a change is posted and delivered, with the mode it enters, to every reader (R170). In
CLOSING the yard becomes CLOSED as soon as the drain condition holds (R172). That CLOSING on a drained yard leads on to
CLOSED in the step of the request, with two YARD_MODE notices, is the model's choice (log 36).

The readers of the yard mode (R170): each goes by the mode it last took. A yard taken to be CLOSED abandons the open
window and its counts and turns the engine OFF, ending its capture and collection with ABORTED (R56, R80, R97, R193); in
another mode windows run, and a calibrated engine leaves OFF for WARMUP; a lane judges its lamps; the arbiters and the
entry barriers act by commands of their own, and the frequency capture unit takes the change for both decks in one step
(log 7). The orders of the notices of one engine are the model's choices (log 38). -/
def Obligations.YardModes : Prop :=
  (
    ∀ s : State,
      let drained := (∀ e ∈ s.recs.entries, e.state ≠ .admitted ∧ e.state ≠ .recalled ∧ e.state ≠ .onDeck) ∧
        (s.arb .a).state = .free ∧ (s.arb .a).offer = none ∧ (s.arb .b).state = .free ∧ (s.arb .b).offer = none
      let readers : List ModeReader := [.records, .captureUnit, .engine .a, .engine .b, .arbiter .a,
        .arbiter .b, .entryBarrier .a, .entryBarrier .b, .lane 0, .lane 1, .lane 2, .lane 3]
      let change := fun (m : YardMode) (drain : Bool) (r : State) =>
        ((r.modBackup fun b => { b with mode := m }).post .supervisor (.yardMode r.mode m drain)).raise
          (readers.map fun k => .yardModeTaken ⟨k, m⟩)
      (∀ (q : Sender) (mode : Nat) (role : Role), let c := Instr.setYardMode q mode
        s.Taken c q role → exec c s = .next
          (if 3 ≤ mode then s.refusal c q .badArgument
          else if mode = 0 then s.answered c q (if s.mode = .open then id else change .open false) .ok
          else if mode = 1 then
            (if s.mode = .closed then s.refusal c q .wrongState
            else
              s.answered c q
                (fun r =>
                  if s.mode = .closing then r
                  else if drained then change .closed true (change .closing false r)
                  else change .closing false r) .ok)
          else if s.mode = .closed then s.answered c q id .ok
          else if ∃ d ∈ [Deck.a, Deck.b],
              (s.arb d).state = .granted ∨ (s.arb d).state = .occupied ∨ (s.arb d).offer ≠ none then
            s.refusal c q .deckBusy
          else s.answered c q (change .closed false) .ok)) ∧
      (s.running = true → exec .drain s = .next (s.after .drain fun r =>
        if s.mode = .closing ∧ drained then change .closed true r else r))) ∧
  (
    ∀ (s : State) (m : YardMode), s.running = true →
      (∀ j k, (s.setModeAt j m).modeAt k = if k = j then m else s.modeAt k) ∧
      (let c := Instr.yardModeTaken ⟨.captureUnit, m⟩
        let ofDeck := fun (d : Deck) (r : State) =>
          if m = .closed then
            (Channel.all.foldl
              (fun t ch =>
                if (s.chanCfg ch).map = some d then t.modChan ch fun w => { w with running := none, saturated := false }
                else t) r).modWin d fun w => { w with runs := false, current := none }
          else if (s.win d).runs = true then r
          else
            let t := r.modWin d fun w => { w with runs := true }
            if (s.win d).current = none ∧ s.ms % (s.deckCfg d).metrology.window = 0 then t.openWindow d s.ms else t
        exec c s = .next (s.after c fun r => ofDeck .b (ofDeck .a (r.setModeAt .captureUnit m)))) ∧
      (∀ d, let c := Instr.yardModeTaken ⟨.engine d, m⟩
        (s.eng d).Law →
        exec c s = .next (s.after c fun r =>
          let r := r.setModeAt (.engine d) m
          if m = .closed ∨ s.calibrated d = false then
            if (s.eng d).state = .off then r
            else
              let t := match (s.eng d).capture with
                | none => r
                | some k => ((r.modEng d fun g => { g with capture := none, ended := true }).raise
                    [.recordsCaptureFailure d k.number .aborted, .captureFailureAtArbiter d k.number .aborted]).post
                  (.engine d) (.weighingFailed d k.number .aborted k.failed k.origin) k.origin |>.flag .decks
              let t := match (s.eng d).collection with
                | none => t
                | some k => ((t.modEng d fun g => { g with collection := none }).post (.engine d)
                  (.calFailed d k.kind .aborted k.windows k.origin) (some k.origin)).flag .decks
              ((t.modEng d fun g =>
                { g with filter := [], stab := [], occupancy := .unknown, latest := none, state := .off }).post (.engine d)
                  (.engineState d (s.eng d).state .off none)).flag .decks
          else if (s.eng d).state = .off then
            ((r.modEng d fun g => { g with state := .warmup }).post (.engine d) (.engineState d .off .warmup none)).flag .decks
          else r)) ∧
      (∀ d, ∀ k ∈ [ModeReader.records, .arbiter d, .entryBarrier d],
        let c := Instr.yardModeTaken ⟨k, m⟩
        exec c s = .next (s.after c fun r => r.setModeAt k m)) ∧
      ∀ l, let c := Instr.yardModeTaken ⟨.lane l, m⟩
        exec c s = .next (s.after c fun r =>
          let r := r.setModeAt (.lane l) m
          r.modLane l fun w => { w with lamps := r.judged l }))

/-- A main reset (R179): the main domain starts afresh with its cause, and the backup domain, where the check value
recomputed over it is the one kept, is kept, but for what R25 does to the entries, in their order, or lost whole (R181).
Every engine begins OFF or in WARMUP, every deck in RECOVER, every conditioner UNKNOWN, every barrier placed by its
limits, every port with its latch set (R84, R124, R126, R148, R168, R176, R212). That the queue is kept and that a main
reset is taken in every state are the model's choices (log 19), and so are the supply and barrier states that the readers
begin with (log 7) and floor 3 at a port of role NONE (log 28); the check value's function is not stated (log 29).

YARD_RESET is accepted in every state, and takes effect once the answer to the first accepted one has left its port; the
main domain then starts as from any other reset, with cause YARD_RESET where the backup domain stood. MAIN_DOMAIN_STOP
stops the main domain (R179, R180). -/
def Obligations.ResetsStartAfresh : Prop :=
  (
    ∀ (s : State) (x : Start), ∃ t, exec (.mainReset x) s = .next t ∧
      let held := x.backupHeld = true ∧ checkValue s.backup = s.check
      t.running = true ∧ t.pending = s.pending ∧ t.check = checkValue t.backup ∧ (∀ k, t.modeAt k = t.mode) ∧
      (∀ k, t.supplyAt k = .supplyLow) ∧
      (∀ b, t.boomAtArbiter b = (t.bar b).state ∧ ∀ l, t.boomAtLane l b = (t.bar b).state) ∧
      (s.backupOk x = true ↔ held) ∧
      t.sup.cause =
        (if ¬held then .powerOnBackupLost
        else if s.sup.dip = true ∧ x.fellBelowStop = false then .supplyDip else .powerOn) ∧
      t.sup.monitor = .start ∧ t.sup.qualification = 0 ∧ t.sup.startTimer = some 2000 ∧ t.sup.supply = .supplyLow ∧
      t.sup.restore = some 0 ∧ t.sup.ms = 0 ∧ t.sup.calSwitch = x.first.calSwitch ∧ t.sup.firstTick = true ∧
      t.sup.reset = .none ∧
      (¬held → t.backup = {}) ∧
      (held →
        t.backup = { s.backup with records := { s.recs with
          entries := s.recs.entries.filterMap fun e =>
            let e' : Entry := { e with pass := none, departure := none }
            match e.state with
            | .admitted => none
            | .recalled =>
              if e.cancelling then none
              else
                some
                  { e' with
                    state := match e.recallIntent.map Recall.origin with
                      | some .quarantine => .quarantine
                      | some .inYard => .inYard
                      | none => .inYard
                    recallIntent := none, request := none }
            | .onDeck =>
              if e.finished then none
              else
                some { e' with state := if e.departure = some .toQuarantine then .quarantine else .inYard
                               interrupted := true }
            | .inYard => some e'
            | .quarantine => some e' } }) ∧
      (∀ d,
        (t.eng d).state = (if t.mode = .closed ∨ t.calibrated d = false then .off else .warmup) ∧
        (t.eng d).filter = [] ∧ (t.eng d).stab = [] ∧ (t.eng d).capture = none ∧ (t.eng d).collection = none ∧
        (t.eng d).zeroLimit = false ∧ (t.arb d) = { state := .recover }) ∧
      (∀ l, (t.lane l).state = .idle ∧ (t.lane l).request = none ∧ (t.lane l).stuck = none) ∧
      (∀ i, (t.inp i).debounced = .unknown ∧ (t.inp i).run = some 0) ∧
      (∀ b, x.first.lower.get b = true →
        (t.bar b).state = (if x.first.upper.get b then .fault else .down) ∧ (t.bar b).latch = false ∧
          (t.bar b).hold = .none) ∧
      (∀ b, x.first.lower.get b = false →
        let hold := (t.barCfg b).failAction = .hold
        (t.bar b).state = (if x.first.upper.get b = true ∧ ¬hold then .up else .stopped) ∧ (t.bar b).latch = false ∧
          (t.bar b).hold = (if hold then .fail else .none) ∧ (t.bar b).cause = none) ∧
      (∀ b, (t.bar b).closeDelay = none ∧ (t.bar b).half = none ∧ (t.bar b).upper = x.first.upper.get b ∧
        (t.bar b).lower = x.first.lower.get b) ∧
      (∀ ch, t.chan ch = { t.chan ch with last := none, latch := {}, faults := 0 }) ∧
      ∀ p, (t.port p).receiver = .hunting ∧ (t.port p).hand = none ∧ (t.port p).answers = [] ∧ (t.port p).held = [] ∧ (t.port p).queue = [] ∧
        (t.port p).number = 0 ∧ (t.port p).quiet = none ∧ (t.port p).errors = 0 ∧
        (∀ f, (t.port p).latch.holds f = true) ∧
        (t.port p).floor =
          (match (t.portCfg p).role with
          | .console => 1
          | .office => 2
          | _ => 3)) ∧
  (
    (∀ (s : State) (q : Sender) (role : Role), let c := Instr.yardReset q
      s.Taken c q role → exec c s = .next (s.answered c q
        (fun r => r.modSup fun v => { v with reset := if v.reset = .none then .accepted q.port else v.reset }) .ok)) ∧
    (∀ (s : State) (x : Start), (s.running = false ∨ s.sup.reset ≠ .due) → exec (.yardResetEffect x) s = .next s) ∧
    (∀ (s : State) (x : Start), s.running = true → s.sup.reset = .due → ∃ t u : State,
      exec (.yardResetEffect x) s = .next t ∧ exec (.mainReset x) s = .next u ∧
        t = u.modSup fun v => { v with cause := if s.backupOk x then .yardReset else .powerOnBackupLost }) ∧
    ∀ s : State, exec .mainDomainStop s = .next { s.modSup (fun v => { v with dip := true }) with running := false })

/-- SET_ALARM_MASK masks or unmasks a non-empty set of the eight sources, and answers with the mask it leaves; any other
argument is refused; the mask is kept across a main reset, and a backup loss unmasks every source (R183). READ_SUPERVISOR
answers the supervisor's state and changes nothing (R184); the types of its bytes, and the drain condition as an optional
that is present only in CLOSING, are the model's choices (log 15). -/
def Obligations.AlarmMaskAndSupervisorRead : Prop :=
  ∀ (s : State) (q : Sender) (role : Role),
    (∀ sources setting, let c := Instr.setAlarmMask q sources setting
      s.Taken c q role →
        ((sources = 0 ∨ 256 ≤ sources ∨ 2 ≤ setting) → exec c s = .next (s.refusal c q .badArgument)) ∧
        (0 < sources → sources < 256 → setting < 2 →
          let put := fun (old : Bool) (i : Nat) => if sources.testBit i then decide (setting = 0) else old
          let m := s.backup.mask
          let new : SourceSet :=
            { barrierFault := put m.barrierFault 0, channelFault := put m.channelFault 1
              clockSubstitute := put m.clockSubstitute 2, supplyLow := put m.supplyLow 3, zeroLimit := put m.zeroLimit 4
              logNearFull := put m.logNearFull 5, tailgate := put m.tailgate 6, closurePending := put m.closurePending 7 }
          exec c s = .next
            (s.answered c q (fun r => r.modBackup fun b => { b with mask := new }) (.ok (sourceSet new))))) ∧
    (∀ x, ∃ t, exec (.mainReset x) s = .next t ∧ t.backup.mask = if s.backupOk x then s.backup.mask else {}) ∧
    let c := Instr.readSupervisor q
    s.Taken c q role → ∃ drain : Option Bool,
      (s.mode ≠ .closing → drain = none) ∧
      (s.mode = .closing → ∃ v, drain = some v ∧
        (v = true ↔ (∀ e ∈ s.recs.entries, e.state ≠ .admitted ∧ e.state ≠ .recalled ∧ e.state ≠ .onDeck) ∧
          ∀ d, (s.arb d).state = .free ∧ (s.arb d).offer = none)) ∧
      exec c s = .next (s.answered c q id (.ok
        (yardModeByte s.mode ++ optional boolean drain ++ monitorByte s.sup.monitor
          ++ tickMarkByte (if s.sup.monitor = .locked then .reference else .backup) ++ u16 s.sup.qualification
          ++ optional u32 s.sup.startTimer ++ supplyByte s.sup.supply ++ optional u32 s.sup.restore
          ++ resetCauseByte s.sup.cause ++ u48 s.sup.ms ++ sourceSet s.sources ++ sourceSet s.backup.mask
          ++ u8 (if s.sup.alarm then 0 else 1))))

/-! ### Calibration -/

/-- Every metrological change (R186 to R188): the calibration event counter advances and stops at 65,535; each deck it
touches loses its histories, reading and collection and takes the engine state that its calibrated state and the yard mode
give, and no other engine changes; the decks flag is set at every port, and with no capture in flight a touched deck posts
CAL_STATE if its calibrated state changed, ENGINE_STATE, with the number of the window it is made at, if any, if its
engine state did (R82), and CAL_FAILED for a collection. A SET_ change posts CAL_CHANGE behind it, with its request,
decks, channel and the counter (R186). That the decks flag is set for a change that touches no deck too is the model's
choice (log 26), and the engine goes by the yard mode it last took (log 7). A deck that runs windows and has none open
starts with its next window at a boundary (R56); that a window reopens in this same step where the step stands on a
boundary, also after a SHORT close, is the model's choice (log 10), and so is that the supervisor posts CAL_CHANGE (log
26). The orders of the notices of one engine are the model's choices (log 38).

SET_METROLOGY, tested in order (R189): the values and the conditions of the mode (R67), the switch, no change; an accepted
change stores the set and the mark, clamps an explicit threshold (R67) and Zd with its latch (R103), closes the open
window as SHORT where the length differs (R60), and is a metrological change answered with the counter (R186). What a
threshold becomes where the set's range is empty is the model's choice (log 39). That ZERO_LIMIT stands before the notices
of the change is the model's choice (log 38). -/
def Obligations.MetrologicalChanges : Prop :=
  (
    (∀ (old s : State) (r : CalRequest) (ds : List Deck) (ch : Option Channel),
      State.setChange old s r ds ch =
        (State.metroChange old s ds none).post .supervisor
          (.calChange r ds ch
            (if s.backup.calCounter < 65535 then s.backup.calCounter + 1 else s.backup.calCounter))) ∧
    (∀ (s : State) (d : Deck),
      s.maybeOpen d =
        if (s.win d).runs = true ∧ (s.win d).current = none ∧ s.sup.ms % (s.deckCfg d).metrology.window = 0 then
          s.openWindow d s.sup.ms
        else s) ∧
    ∀ (old s : State) (ds : List Deck) (window : Option Nat), ds ∈ [[], [Deck.a], [Deck.b], [Deck.a, Deck.b]] →
      let t := State.metroChange old s ds window
      let off := fun d => s.modeAt (.engine d) = .closed ∨ s.calibrated d = false
      let counter := if s.backup.calCounter < 65535 then s.backup.calCounter + 1 else s.backup.calCounter
      t.backup = { s.backup with calCounter := counter } ∧
      t.main = { s.main with engines := t.main.engines, ports := t.main.ports, raised := t.main.raised } ∧
      (∀ d, d ∉ ds → t.eng d = s.eng d) ∧
      (∀ d ∈ ds, (s.eng d).Law →
        (t.eng d).filter = [] ∧ (t.eng d).stab = [] ∧ (t.eng d).occupancy = .unknown ∧ (t.eng d).latest = none ∧
          (t.eng d).collection = none ∧
          (off d → (t.eng d).state = .off ∧ (t.eng d).capture = none) ∧
          (¬off d → (t.eng d).capture = (s.eng d).capture ∧
            (t.eng d).state = if (s.eng d).capture.isSome then .capturing else .warmup)) ∧
      (∀ p, (t.port p).latch.holds .decks = true) ∧
      ∀ d, ds = [d] → (s.eng d).capture = none → ∀ p,
        let post := fun (b : NoticeBody) (origin : Option Port) =>
          ({ block := .engine d, body := b, at_ := s.ms, origin := origin } : Notice)
        let failed := match (s.eng d).collection with
          | none => []
          | some k => [post (.calFailed d k.kind .aborted k.windows k.origin) (some k.origin)]
        let entered := fun x => if (s.eng d).state = x then [] else [post (.engineState d (s.eng d).state x window) none]
        (off d → (t.port p).incoming = (s.port p).incoming ++
          (if old.calibrated d = s.calibrated d then [] else [post (.calState d (s.calibrated d) counter) none]) ++
          failed ++ entered .off) ∧
        (¬off d → (t.port p).incoming = (s.port p).incoming ++
          (if old.calibrated d = s.calibrated d then [] else [post (.calState d (s.calibrated d) counter) none]) ++
          entered .warmup ++ failed)) ∧
  (
    ∀ (s : State) (q : Sender) (role : Role) (deck mode max1 max2 e1 e2 window f sc : Nat),
      let c := Instr.setMetrology q deck mode max1 max2 e1 e2 window f sc
      let legal := deck < 2 ∧ mode < 2 ∧ e1 ∈ [5, 10, 20, 50, 100] ∧ e2 ∈ [5, 10, 20, 50, 100] ∧
        1 ≤ max1 ∧ max1 ≤ 100000 ∧ 1 ≤ max2 ∧ max2 ≤ 100000 ∧ window ∈ [50, 100, 200, 400] ∧ f ∈ [1, 2, 4, 8] ∧
        2 ≤ sc ∧ sc ≤ 16 ∧ max2 % e2 = 0 ∧
        (mode = 0 → e1 < e2 ∧ max1 < max2 ∧ max1 % e2 = 0) ∧ (mode = 1 → e1 = e2 ∧ max1 = max2)
      s.Taken c q role →
        (¬legal → exec c s = .next (s.refusal c q .badArgument)) ∧
        (legal → s.sup.calSwitch = false → exec c s = .next (s.refusal c q .calLocked)) ∧
        (legal → s.sup.calSwitch = true → ∀ d, deckOf deck = some d →
          let m : Metrology :=
            { mode := if mode = 0 then .dual else .single, max1 := max1, max2 := max2, e1 := e1, e2 := e2
              window := window, f := f, s := sc }
          let cfg := s.deckCfg d
          let limit : Int := (max2 : Int) * 20
          let zd := if cfg.zd < -limit then -limit else if limit < cfg.zd then limit else cfg.zd
          ((cfg.metrology = m ∧ cfg.mark = true) → exec c s = .next (s.answered c q id (.ok (u16 s.backup.calCounter)))) ∧
          (¬(cfg.metrology = m ∧ cfg.mark = true) →
            exec c s = .next (s.answered c q
              (fun r =>
                let t := if cfg.metrology.window = window then r else r.shortClose d
                let t := t.modDeckCfg d fun x =>
                  { x with
                    metrology := m, mark := true, zd := zd
                    threshold := x.threshold.map fun n => if n < 2 * e1 then 2 * e1 else if max1 < n then max1 else n }
                let t := if zd = cfg.zd ∨ (s.eng d).zeroLimit = true then t else
                  ((t.modEng d fun g => { g with zeroLimit := true }).post (.engine d) (.zeroLimit d (0 ≤ zd) none)).flag .decks
                let t := if cfg.metrology.window = window then t else t.maybeOpen d
                State.setChange r t .setMetrology [d] none)
              (.ok (u16 (if s.backup.calCounter < 65535 then s.backup.calCounter + 1 else s.backup.calCounter)))))))

/-- SET_CHANNEL_FACTOR and SET_CHANNEL_ZERO, tested in order (R190): a value outside its range is refused, an OPEN switch
is CAL_LOCKED, the stored value is no change, and another one is stored as a metrological change of the channel's deck, or
of no deck where the channel is UNUSED; a channel of 16 or more is refused. SET_CHANNEL_MAP likewise changes map and
polarity, of decks that are OUT_OF_SERVICE only; its decks' open windows close as SHORT, before their full length, and one
that has reached it closes first as it would have (R53, R56, R58, R60, R186). That a pair written on an UNUSED channel is
a change with its notice (log 26), that an overdue window closes first, and that the SHORT record carries the mark and the
serial (log 10) are the model's choices. -/
def Obligations.ChannelSettingsUnderTheSwitch : Prop :=
  (∀ (s : State) (q : Sender) (role : Role) (channel k map polarity : Nat), 16 ≤ channel →
    ∀ c ∈ [Instr.setChannelFactor q channel k, .setChannelZero q channel k, .setChannelMap q channel map polarity],
      s.Taken c q role → exec c s = .next (s.refusal c q .badArgument)) ∧
  ∀ (s : State) (q : Sender) (role : Role) (channel : Nat) (ch : Channel), channelOf channel = some ch →
    let old := s.chanCfg ch
    let counter := u16 (if s.backup.calCounter < 65535 then s.backup.calCounter + 1 else s.backup.calCounter)
    (∀ k, let c := Instr.setChannelFactor q channel k
      s.Taken c q role → exec c s = .next
        (if k < 1 ∨ 16777215 < k then s.refusal c q .badArgument
        else if s.sup.calSwitch = false then s.refusal c q .calLocked
        else if old.factor = k then s.answered c q id (.ok (u16 s.backup.calCounter))
        else
          s.answered c q
            (fun r => State.setChange r (r.modChanCfg ch fun x => { x with factor := k }) .setChannelFactor
              old.map.toList (some ch)) (.ok counter))) ∧
    (∀ z, let c := Instr.setChannelZero q channel z
      s.Taken c q role → exec c s = .next
        (if 262143 < z then s.refusal c q .badArgument
        else if s.sup.calSwitch = false then s.refusal c q .calLocked
        else if old.zero = z then s.answered c q id (.ok (u16 s.backup.calCounter))
        else
          s.answered c q
            (fun r => State.setChange r (r.modChanCfg ch fun x => { x with zero := z }) .setChannelZero
              old.map.toList (some ch)) (.ok counter))) ∧
    (∀ map polarity, let c := Instr.setChannelMap q channel map polarity
      s.Taken c q role →
        ((3 ≤ map ∨ 2 ≤ polarity) → exec c s = .next (s.refusal c q .badArgument)) ∧
        ∀ m p, mapOf map = some m → edgeOf polarity = some p → exec c s = .next
          (if s.sup.calSwitch = false then s.refusal c q .calLocked
          else if ∃ d ∈ [Deck.a, Deck.b], (old.map = some d ∨ m = some d) ∧ (s.arb d).state ≠ .outOfService then
            s.refusal c q .wrongState
          else if old.map = m ∧ old.polarity = p then s.answered c q id .ok
          else
            let ds := [Deck.a, Deck.b].filter fun d => old.map = some d ∨ m = some d
            s.answered c q
              (fun r =>
                let t := ds.foldl State.shortClose r
                let t := t.modChanCfg ch fun x => { x with map := m, polarity := p }
                let t := t.modChan ch fun w => { w with running := none, saturated := false, last := none }
                State.setChange r (ds.foldl State.maybeOpen t) .setChannelMap ds (some ch)) .ok)) ∧
    ∀ d,
      ((s.win d).current = none → s.shortClose d = s) ∧
      (∀ o, (s.win d).current = some o → 0 < (s.deckCfg d).metrology.window →
        o.opened + (s.deckCfg d).metrology.window ≤ s.sup.ms → s.shortClose d = (s.windowClose d).shortClose d) ∧
      ∀ o, (s.win d).current = some o → s.sup.ms < o.opened + (s.deckCfg d).metrology.window →
        let n := ((s.win d).number + 1) % 4294967296
        let mark : TickMark := if o.backup then .backup else .reference
        let t := s.shortClose d
        t.win d = { s.win d with current := none, number := n, last := some { number := n, timing := mark, status := .short } } ∧
        t.main.raised = s.main.raised ++ [Instr.engineWindow
          { deck := d, number := n, closing := s.sup.ms, length := s.sup.ms - o.opened, timing := mark, status := .short
            channels := [], marked := (s.eng d).windowMark, serial := (s.win d).serial }] ∧
        (∀ x, t.chan x =
          if (s.chanCfg x).map = some d then { s.chan x with running := none, saturated := false } else s.chan x) ∧
        t.backup = s.backup ∧ t.main.engines = s.main.engines ∧ t.main.ports = s.main.ports

/-- CAL_ZERO_DECK and CAL_SPAN_DECK, tested in order (R191): the arguments, the switch, the deck's service, a collection
in flight, and the engine, supply and positioning; an accepted one makes an empty collection record that waits for the
next window to open (an accepted CAL_ZERO_DECK clears the ZERO_LIMIT latch, R106). ABORT_CALIBRATION ends it with ABORTED
(R193). A deck of 2 or more is refused by each. The supply state is the one that the deck's engine last took (R177; the
model's choice, log 7).

What a collection makes of a window (R192): one opened before the request is not used; an invalid one starts it again and
ten in a row fail it with CHANNEL_FAULT; a marked one, and for a SPAN an EMPTY one, starts it again; any other adds its
counts or its weight, and the sixteenth completes it (R194, R195). That earlier windows are told by a serial number of
their opening is the model's choice (log 10).

The completion of a collection at its sixteenth window. ZERO (R194): each Z becomes the mean count, Zd is 0 and the
ZERO_LIMIT latch clear. SPAN (R195): M is the mean weight; it must be above 0 and within half and twice the load, else the
collection fails with SPAN_RANGE; each K is scaled by the load over M, rounded and clamped. Either is a metrological
change, posts ENGINE_STATE with the number of its window where the engine state changes (R82), and posts CAL_DONE. That
CAL_DONE stands last is the model's choice (log 38).

The calibration switch takes a reading seen on 50 ticks in a row and posts CAL_SWITCH; an OPEN switch fails both
collections with CAL_LOCKED (R185, R193). READ_CALIBRATION answers the calibration state of a deck, with Zd and the
channels' pairs only while the switch is CLOSED, and changes nothing (R196). The layout of the collection record, the one
presence byte before Zd and the list of pairs, and the pairs and sums in channel order without channel numbers are the
model's choices (log 15). -/
def Obligations.CalibrationCollections : Prop :=
  (
    (∀ (s : State) (q : Sender) (role : Role) (deck : Nat) (load : Int), 2 ≤ deck →
      ∀ c ∈ [Instr.calZeroDeck q deck, .calSpanDeck q deck load, .abortCalibration q deck],
        s.Taken c q role → exec c s = .next (s.refusal c q .badArgument)) ∧
    ∀ (s : State) (q : Sender) (role : Role) (deck : Nat) (d : Deck), deckOf deck = some d →
      let max2 := (s.deckCfg d).metrology.max2
      let tests := fun (c : Instr) (accepted : State) =>
        if s.sup.calSwitch = false then s.refusal c q .calLocked
        else if (s.arb d).state ≠ .outOfService then s.refusal c q .wrongState
        else if (s.eng d).collection ≠ none then s.refusal c q .deckBusy
        else if (s.eng d).state = .off ∨ s.supplyAt (.engine d) = .supplyLow ∨ (s.eng d).positioned = false then
          s.refusal c q .deckNotReady
        else accepted
      let fresh : Collection :=
        { kind := .zero, origin := q.port, windows := 0, invalidRun := 0, sums := [], weightSum := 0, after := (s.win d).serial }
      (let c := Instr.calZeroDeck q deck
       s.Taken c q role → exec c s = .next (tests c (s.answered c q
        (fun r => r.modEng d fun g =>
          { g with
            collection := some { fresh with
              sums := (Channel.all.filter fun x => (s.chanCfg x).map == some d).map fun x => (x, 0) }
            zeroLimit := false }) (.only .started)))) ∧
      (∀ load : Int, let c := Instr.calSpanDeck q deck load
        s.Taken c q role → exec c s = .next
          (if load < 1 ∨ (max2 : Int) < load then s.refusal c q .badArgument
          else tests c (s.answered c q
            (fun r => r.modEng d fun g => { g with collection := some { fresh with kind := .span load } })
            (.only .started)))) ∧
      let c := Instr.abortCalibration q deck
      s.Taken c q role → exec c s = .next
        (match (s.eng d).collection with
        | none => s.refusal c q .wrongState
        | some k => s.answered c q
            (fun r => ((r.modEng d fun g => { g with collection := none }).post (.engine d)
              (.calFailed d k.kind .aborted k.windows k.origin) (some k.origin)).flag .decks) .ok)) ∧
  (
    ∀ (s : State) (d : Deck) (w : WindowRecord) (r : Reading) (k : Collection), (s.eng d).collection = some k →
      let put := fun (k' : Collection) => s.modEng d fun g => { g with collection := some k' }
      let again : Collection := { k with windows := 0, weightSum := 0, sums := k.sums.map fun x => (x.1, 0) }
      (w.serial ≤ k.after → s.offerCollection d w r = s) ∧
      (k.after < w.serial → w.status ≠ .valid → k.invalidRun + 1 < 10 →
        s.offerCollection d w r = put { again with invalidRun := k.invalidRun + 1 }) ∧
      (k.after < w.serial → w.status ≠ .valid → 10 ≤ k.invalidRun + 1 →
        s.offerCollection d w r =
          ((s.modEng d fun g => { g with collection := none }).post (.engine d)
            (.calFailed d k.kind .channelFault 0 k.origin) (some k.origin)).flag .decks) ∧
      (k.after < w.serial → w.status = .valid → (w.marked = true ∨ k.kind ≠ .zero ∧ r.occupancy = .empty) →
        s.offerCollection d w r = put { again with invalidRun := 0 }) ∧
      (k.after < w.serial → w.status = .valid → w.marked = false → k.windows + 1 < 16 → k.kind = .zero →
        s.offerCollection d w r = put { k with
          invalidRun := 0, windows := k.windows + 1
          sums := k.sums.map fun x =>
            (x.1, x.2 + match w.channels.find? fun e => e.channel == x.1 with
              | none => 0
              | some e => e.count) }) ∧
      (k.after < w.serial → w.status = .valid → w.marked = false → 16 ≤ k.windows + 1 → k.kind = .zero →
        let k' : Collection := { k with
          invalidRun := 0, windows := k.windows + 1
          sums := k.sums.map fun x =>
            (x.1, x.2 + match w.channels.find? fun e => e.channel == x.1 with
              | none => 0
              | some e => e.count) }
        s.offerCollection d w r = (put k').zeroCompletion d k' w.number) ∧
      ∀ load gz, k.after < w.serial → w.status = .valid → w.marked = false → k.kind = .span load →
        r.occupancy ≠ .empty → r.gz = some gz →
        let k' : Collection := { k with invalidRun := 0, windows := k.windows + 1, weightSum := k.weightSum + gz }
        s.offerCollection d w r = if k.windows + 1 < 16 then put k' else (put k').spanCompletion d k' load w.number) ∧
  (
    ∀ (s : State) (d : Deck) (k : Collection) (n : Nat), (s.eng d).collection = some k →
      let posted := fun (b : NoticeBody) => ({ block := .engine d, body := b, at_ := s.ms, origin := none } : Notice)
      let entered : List Notice :=
        if (s.eng d).state = .warmup then [] else [posted (.engineState d (s.eng d).state .warmup (some n))]
      let on := (s.eng d).capture = none ∧ s.modeAt (.engine d) ≠ .closed ∧ s.calibrated d = true
      (k.kind = .zero → k.sums.map Prod.fst = (s.channelSet d) →
        let t := s.zeroCompletion d k n
        (∀ x ∈ k.sums, t.chanCfg x.1 = { s.chanCfg x.1 with zero := (x.2 + 8) / 16 }) ∧
        (∀ ch, ch ∉ s.channelSet d → t.chanCfg ch = s.chanCfg ch) ∧
        t.deckCfg d = { s.deckCfg d with zd := 0 } ∧ t.deckCfg d.other = s.deckCfg d.other ∧
        (t.eng d).zeroLimit = false ∧ (t.eng d).collection = none ∧ (t.eng d).filter = [] ∧ (t.eng d).stab = [] ∧
        t.backup.calCounter = (if s.backup.calCounter < 65535 then s.backup.calCounter + 1 else s.backup.calCounter) ∧
        (on → ∀ p, (t.port p).incoming = (s.port p).incoming ++ entered ++
          [{ block := .engine d, at_ := s.ms, origin := some k.origin
             body := .calDoneZero d (k.sums.map fun x => (x.1, (x.2 + 8) / 16)) t.backup.calCounter k.origin }]) ∧
        ∀ p, (t.port p).incoming.getLast? = some
          { block := .engine d, at_ := s.ms, origin := some k.origin
            body := .calDoneZero d (k.sums.map fun x => (x.1, (x.2 + 8) / 16)) t.backup.calCounter k.origin }) ∧
      ∀ load, k.kind = .span load →
        let m := roundDiv k.weightSum 16
        ((m ≤ 0 ∨ 2 * (load * 1000) < m ∨ 2 * m < load * 1000) →
          s.spanCompletion d k load n =
            ((s.modEng d fun g => { g with collection := none }).post (.engine d)
              (.calFailed d k.kind .spanRange k.windows k.origin) (some k.origin)).flag .decks) ∧
        (0 < m → m ≤ 2 * (load * 1000) → load * 1000 ≤ 2 * m →
          let t := s.spanCompletion d k load n
          let exact := fun (ch : Channel) => (2 * ((s.chanCfg ch).factor * load * 1000) + m) / (2 * m)
          (∀ ch ∈ s.channelSet d, t.chanCfg ch = { s.chanCfg ch with factor := (max 1 (min 16777215 (exact ch))).toNat }) ∧
          (∀ ch, ch ∉ s.channelSet d → t.chanCfg ch = s.chanCfg ch) ∧
          t.deckCfg d = s.deckCfg d ∧ (t.eng d).collection = none ∧ (t.eng d).filter = [] ∧ (t.eng d).stab = [] ∧
          t.backup.calCounter = (if s.backup.calCounter < 65535 then s.backup.calCounter + 1 else s.backup.calCounter) ∧
          (on → ∀ p, ∃ x, (t.port p).incoming = (s.port p).incoming ++ entered ++ [x]) ∧
          ∀ p, (t.port p).incoming.getLast? = some
            { block := .engine d, at_ := s.ms, origin := some k.origin
              body := .calDoneSpan d load m
                ((s.channelSet d).map fun ch => (ch, (t.chanCfg ch).factor, !decide (((t.chanCfg ch).factor : Int) = exact ch)))
                t.backup.calCounter k.origin })) ∧
  (
    ∀ s : State,
      (s.running = true → exec .calSwitch s = .next (s.after .calSwitch fun r =>
        if s.sup.calRun < 50 then r
        else
          let t := ((r.modSup fun v => { v with calSwitch := !s.sup.calSwitch, calRun := 0 }).post .supervisor
            (.calSwitch (!s.sup.calSwitch) s.sup.ms)).flag .decks
          if s.sup.calSwitch = false then t
          else
            [Deck.a, Deck.b].foldl (fun t d =>
              match (s.eng d).collection with
              | none => t
              | some k => ((t.modEng d fun g => { g with collection := none }).post (.engine d)
                  (.calFailed d k.kind .calLocked k.windows k.origin) (some k.origin)).flag .decks) t)) ∧
      ∀ (q : Sender) (role : Role) (deck : Nat) (d : Deck), deckOf deck = some d →
        let c := Instr.readCalibration q deck
        let cfg := s.deckCfg d
        let set := Channel.all.filter fun x => (s.chanCfg x).map == some d
        s.Taken c q role → exec c s = .next (s.answered c q id (.ok
          (u16 s.backup.calCounter ++ calSwitchByte s.sup.calSwitch ++ metrologyBytes cfg.metrology ++ boolean cfg.mark
            ++ calibratedByte (s.calibrated d) ++ items channelByte set ++ optional collectionBytes (s.eng d).collection
            ++ (if s.sup.calSwitch then
                [1#8] ++ s32 cfg.zd ++ items (fun x => u32 (s.chanCfg x).zero ++ u32 (s.chanCfg x).factor) set
              else [0#8])))))

/-! ### The station ports -/

/-- The receiver (R199): the marker starts a frame, every further character joins it, and a character error, a count
outside 2 to 240, a gap of 20 ticks or a wrong check discards it and counts a frame error. That a character which finds a
full frame has that frame judged first, in the same step, is the model's choice (log 27).

A complete frame with a right check is judged in order (R200): PORT_BUSY with a request in hand, UNKNOWN_REQUEST for a
kind outside 01h to 45h, NOT_PERMITTED for the role, BAD_ARGUMENT for a payload that does not spell the arguments; else
the request is in hand with the role it was judged under, and goes to its owning block (R203, R205, R213, R215). -/
def Obligations.FramesAreReceivedAndJudged : Prop :=
  (
    ∀ (s : State) (p : Port), s.running = true →
      let discard := fun (w : PortWork) =>
        { w with receiver := .hunting, errors := if w.errors < 65535 then w.errors + 1 else w.errors }
      (∀ ch error, let c := Instr.characterReceived p ch error
        exec c s = .next (s.after c fun r => (r.frameComplete p).modPort p fun w =>
          match w.receiver with
          | .hunting => if error = false ∧ ch = 0xA5#8 then { w with receiver := .collecting [] 0 } else w
          | .collecting bs _ =>
            if error = true ∨ (bs = [] ∧ (ch.toNat < 2 ∨ 240 < ch.toNat)) then discard w
            else { w with receiver := .collecting (bs ++ [ch]) 0 })) ∧
      (let c := Instr.gapTimerExpiry p
       exec c s = .next (s.after c fun r =>
        match (s.port p).receiver with
        | .hunting => r
        | .collecting bs gap =>
          let full := match bs with
            | [] => false
            | n :: rest => rest.length == n.toNat + 2
          if 20 ≤ gap ∧ full = false then r.modPort p discard else r)) ∧
      let c := Instr.frameComplete p
      (((s.port p).receiver = .hunting ∨ (∃ gap, (s.port p).receiver = .collecting [] gap) ∨
          ∃ n rest gap, (s.port p).receiver = .collecting (n :: rest) gap ∧ rest.length ≠ n.toNat + 2) →
        exec c s = .next (s.after c id)) ∧
      ∀ (n : Byte) (body check : List Byte) (gap : Nat),
        (s.port p).receiver = .collecting (n :: body ++ check) gap → body.length = n.toNat → check.length = 2 →
        check ≠ u16 (crc16 (n :: body)).toNat → exec c s = .next (s.after c fun r => r.modPort p discard)) ∧
  (
    ∀ (s : State) (p : Port) (n kind tag : Byte) (payload check : List Byte) (gap : Nat), s.running = true →
      (s.port p).receiver = .collecting (n :: kind :: tag :: payload ++ check) gap →
      payload.length + 2 = n.toNat → check.length = 2 → check = u16 (crc16 (n :: kind :: tag :: payload)).toNat →
      let c := Instr.frameComplete p
      let early := fun (code : AnswerCode) =>
        s.after c fun r => r.modPort p fun w => PortWork.early { w with receiver := .hunting } tag kind code
      ((s.port p).hand ≠ none → exec c s = .next (early .portBusy)) ∧
      ((s.port p).hand = none → (kind.toNat = 0 ∨ 69 < kind.toNat) → exec c s = .next (early .unknownRequest)) ∧
      ((s.port p).hand = none → 1 ≤ kind.toNat → kind.toNat ≤ 69 →
        (permitted (s.portCfg p).role p kind.toNat = false → exec c s = .next (early .notPermitted)) ∧
        (permitted (s.portCfg p).role p kind.toNat = true →
          (decodeRequest { port := p, tag := tag } kind.toNat payload = none → exec c s = .next (early .badArgument)) ∧
          ∀ i, decodeRequest { port := p, tag := tag } kind.toNat payload = some i →
            exec c s = .next (s.after c fun r =>
              (r.modPort p fun w =>
                { w with receiver := .hunting, hand := some { tag := tag, role := (s.portCfg p).role } }).raise [i]))))

/-- Frames (R213): the marker, the count, the body and its CRC-16. Answers (R214): the prefix of five bytes and the
payload in parts of 235 bytes, the part byte holding the index and, on the final part, bit 7; the codes in the order of
R206. Notices: the body of R214, and the kinds with their numbers and levels as R207 lists them.

The types of R215, most significant byte first; the enumerations that notices carry, each from 00h in the order of its
rule; and the fields of every notice, in the order in which its posting rule names them (R207, R214, R216). The count of
LOG_NEAR_FULL as u16, the sign of ZERO_LIMIT, the origin in two bytes, the lists of CAL_DONE without channel numbers, the
request of CAL_CHANGE as an enumeration, one presence byte before the lane and the transaction of DECK_STATE, and the
numbers of the engine states and range conditions are the model's choices (log 15).

Sending (R202): a free transmitter takes the oldest answer, else the oldest notice of a port that is not quiet; a frame
sent is followed by the next part of the same answer (R214), the answer to the request in hand frees the port (R200), a
new rate holds from the next frame (R198), and the answer to the accepted YARD_RESET makes the reset due (R180). The
answer of the owning block goes before the answers judged after its request. That those wait until the request is
answered, with no notice sent meanwhile, is the model's choice (log 37), and so is that a port which sets its own rate
keeps the old one to the end of that answer (log 27).

A port takes the oldest notice of a block (R207): a port with role NONE drops it, and so does one whose floor is above its
level unless it is the origin; an admitted one takes the next notice number, and is queued, or lost with NOTICE_LOST where
32 wait. The quiet timer at 0 lets notices go out again (R209). -/
def Obligations.AnswersAndNoticesAreSent : Prop :=
  (
    (∀ body : List Byte, frame body =
      [0xA5#8] ++ u8 body.length ++ body ++ u16 (crc16 (u8 body.length ++ body)).toNat) ∧
    (crc16 [] = 0xFFFF#16 ∧ ∀ (bs : List Byte) (b : Byte), crc16 (bs ++ [b]) =
      (List.range 8).foldl (fun r _ => if r.msb then (r <<< 1) ^^^ 0x1021#16 else r <<< 1)
        (crc16 bs ^^^ (b.setWidth 16 <<< 8))) ∧
    (∀ a : Answer,
      let n := if a.payload = [] then 1 else (a.payload.length + 234) / 235
      answerFrames a = (List.range n).map fun i =>
        frame ([0x80#8, a.tag, a.kind] ++ u8 a.code.num ++ u8 (if i + 1 = n then 128 + i else i)
          ++ (a.payload.drop (235 * i)).take 235)) ∧
    (∀ c : AnswerCode, ([.ok, .clamped, .started, .portBusy, .unknownRequest, .notPermitted, .badArgument, .notBound, .notFound,
      .wrongState, .wrongKind, .alreadyVoid, .alreadyCollected, .nonePending, .uncollected, .noVehicle, .yardClosing, .yardClosed,
      .tableFull, .clockUnset, .ticketUnset, .tareInvalid, .tareFull, .logFull, .held, .linesFull, .incomplete, .deckBusy,
      .deckNotReady, .notStable, .zeroRange, .calLocked, .faultPersists, .loopOccupied] : List AnswerCode)[c.num]? = some c) ∧
    (∀ q : QueuedNotice, noticeBytes q =
      [0xC0#8, 0x00#8] ++ u8 q.notice.body.kind ++ u16 q.number ++ u48 q.notice.at_ ++ q.notice.body.fields) ∧
    ∀ b : NoticeBody, (b.level, b.kind) =
      match b with
      | .closureBlocked .. => (3, 0)
      | .tareNotStored .. => (3, 1)
      | .logNearFull .. => (3, 2)
      | .channelFault .. => (3, 3)
      | .weighingFailed .. => (3, 4)
      | .zeroLimit .. => (3, 5)
      | .tailgate .. => (3, 6)
      | .deckIntrusion .. => (3, 7)
      | .clockSubstitute .. => (3, 8)
      | .supplyLow .. => (3, 9)
      | .alarmLine .. => (3, 10)
      | .ticketIssued .. => (2, 11)
      | .tareStored .. => (2, 12)
      | .tareEvicted .. => (2, 13)
      | .weighingDone .. => (2, 14)
      | .captureDownshift .. => (2, 15)
      | .deckRange .. => (2, 16)
      | .grantWithdrawn .. => (2, 17)
      | .yardMode .. => (2, 18)
      | .clockRestored .. => (2, 19)
      | .supplyRestored .. => (2, 20)
      | .calSwitch .. => (2, 21)
      | .calChange .. => (2, 22)
      | .calDoneZero .. => (2, 23)
      | .calDoneSpan .. => (2, 23)
      | .calFailed .. => (2, 24)
      | .calState .. => (2, 25)
      | .deckState .. => (1, 26)
      | .laneState .. => (1, 27)
      | .barrierState .. => (1, 28)
      | .engineState .. => (0, 29)) ∧
  (
    (∀ n : Nat,
      u8 n = [BitVec.ofNat 8 n] ∧ u16 n = [BitVec.ofNat 8 (n / 256), BitVec.ofNat 8 n] ∧
      u32 n = [BitVec.ofNat 8 (n / 16777216), BitVec.ofNat 8 (n / 65536), BitVec.ofNat 8 (n / 256), BitVec.ofNat 8 n] ∧
      u48 n = [BitVec.ofNat 8 (n / 1099511627776), BitVec.ofNat 8 (n / 4294967296)] ++ u32 n) ∧
    (∀ v : Int, -2147483648 ≤ v → v < 2147483648 → s32 v = u32 (if v < 0 then v + 4294967296 else v).toNat) ∧
    (∀ d : Date, date d = u8 (d.year - 2000) ++ u8 d.month ++ u8 d.day) ∧
    (∀ t : List Byte, text t = u8 t.length ++ t) ∧
    (∀ x : SourceSet, ∃ n < 256, sourceSet x = u8 n ∧
      (n.testBit 0 = x.barrierFault ∧ n.testBit 1 = x.channelFault ∧ n.testBit 2 = x.clockSubstitute ∧
        n.testBit 3 = x.supplyLow ∧ n.testBit 4 = x.zeroLimit ∧ n.testBit 5 = x.logNearFull ∧ n.testBit 6 = x.tailgate ∧
        n.testBit 7 = x.closurePending)) ∧
    (∀ x, blockReasonByte x = u8 (List.idxOf x [.held, .ticketUnset, .clockUnset, .logFull])) ∧
    (∀ x, tareRefusalByte x = u8 (List.idxOf x [.tareFull, .clockUnset, .badArgument])) ∧
    (∀ x, countCauseByte x = u8 (List.idxOf x [.saturated, .low, .high])) ∧
    (∀ x, failReasonByte x = u8 (List.idxOf x
      [.unstable, .clock, .leftDeck, .channelFault, .overload, .underload, .supply, .tailgate, .aborted])) ∧
    (∀ x, classByte x = u8 (List.idxOf x [.approved, .indicative])) ∧
    (∀ x, phaseByte x = u8 (List.idxOf x [.normal, .relaxed])) ∧
    (∀ x, rangeByte x = u8 (List.idxOf x [.inRange, .overload, .underload])) ∧
    (∀ x, deckStateByte x = u8 (List.idxOf x [.free, .granted, .occupied, .clearing, .recover, .outOfService])) ∧
    (∀ x, laneStateByte x = u8 (List.idxOf x [.idle, .present, .waiting, .go, .maintenance, .fault])) ∧
    (∀ x, withdrawCauseByte x = u8 (List.idxOf x [.absence, .proceedTimeout, .supply, .lapsed, .cancel])) ∧
    (∀ x, yardModeByte x = u8 (List.idxOf x [.open, .closing, .closed])) ∧
    (∀ x, calRequestByte x = u8 (List.idxOf x [.setChannelMap, .setMetrology, .setChannelFactor, .setChannelZero])) ∧
    (∀ x, calFailByte x = u8 (List.idxOf x [.calLocked, .supply, .aborted, .channelFault, .spanRange])) ∧
    (∀ x, barrierByte x = u8 (List.idxOf x [.aEntry, .aExit, .bEntry, .bExit])) ∧
    (∀ x, barrierStateByte x = u8 (List.idxOf x [.down, .raising, .up, .lowering, .stopped, .fault])) ∧
    (∀ x, barrierReasonByte x = u8 (List.idxOf x [.latch, .limit, .latchCleared, .failAction, .closeDelay, .reversal, .command,
      .placement, .fault .motionTimeout, .fault .bothLimits, .fault .limitLost])) ∧
    (∀ x, engineStateByte x = u8 (List.idxOf x [.off, .warmup, .empty, .loaded, .capturing])) ∧
    ∀ b : NoticeBody,
      let deck := fun (d : Deck) => if d = .a then u8 0 else u8 1
      let origin := fun (o : Option Port) => match o with
        | none => u8 0 ++ u8 0
        | some p => u8 1 ++ u8 1 ++ u8 p.val
      let window := fun (o : Option Nat) => match o with
        | none => u8 0
        | some n => u8 1 ++ u32 n
      b.fields =
        match b with
        | .closureBlocked n d r => u16 n ++ (match d with | none => u8 0 | some d => u8 1 ++ deck d) ++ blockReasonByte r
        | .tareNotStored n plate r => u16 n ++ text plate ++ tareRefusalByte r
        | .logNearFull count oldest => u16 count ++ u32 oldest
        | .channelFault ch d cause count w => u8 ch.val ++ deck d ++ countCauseByte cause ++ u32 count ++ u32 w
        | .weighingFailed d n r attempts o => deck d ++ u16 n ++ failReasonByte r ++ u8 attempts ++ origin o
        | .zeroLimit d positive w => deck d ++ (if positive then u8 0 else u8 1) ++ window w
        | .tailgate d n => deck d ++ u16 n
        | .deckIntrusion d left => deck d ++ deckStateByte left
        | .clockSubstitute ms => u48 ms
        | .supplyLow => []
        | .alarmLine asserted sources => (if asserted then u8 0 else u8 1) ++ sourceSet sources
        | .ticketIssued n void transaction => u32 n ++ (if void then u8 1 else u8 0) ++ u16 transaction
        | .tareStored n plate weight cls expiry => u16 n ++ text plate ++ s32 weight ++ classByte cls ++ date expiry
        | .tareEvicted plate expiry => text plate ++ date expiry
        | .weighingDone d n weight cls division phase attempts o =>
            deck d ++ u16 n ++ s32 weight ++ classByte cls ++ u8 division ++ phaseByte phase ++ u8 attempts ++ origin o
        | .captureDownshift d n attempts => deck d ++ u16 n ++ u8 attempts
        | .deckRange d cond w => deck d ++ rangeByte cond ++ u32 w
        | .grantWithdrawn d l n cause => deck d ++ u8 l.val ++ u16 n ++ withdrawCauseByte cause
        | .yardMode left entered drain => yardModeByte left ++ yardModeByte entered ++ (if drain then u8 1 else u8 0)
        | .clockRestored ms => u48 ms
        | .supplyRestored => []
        | .calSwitch closed ms => (if closed then u8 0 else u8 1) ++ u48 ms
        | .calChange request decks ch counter =>
            calRequestByte request ++ u8 decks.length ++ decks.flatMap deck
              ++ (match ch with | none => u8 0 | some ch => u8 1 ++ u8 ch.val) ++ u16 counter
        | .calDoneZero d zeros counter o =>
            deck d ++ u8 0 ++ u8 zeros.length ++ (zeros.flatMap fun z => u32 z.2) ++ u16 counter ++ u8 o.val
        | .calDoneSpan d load m factors counter o =>
            deck d ++ u8 1 ++ s32 load ++ s32 m ++ u8 factors.length
              ++ (factors.flatMap fun k => u32 k.2.1 ++ if k.2.2 then u8 1 else u8 0) ++ u16 counter ++ u8 o.val
        | .calFailed d kind reason windows o =>
            deck d ++ (if kind = .zero then u8 0 else u8 1) ++ calFailByte reason ++ u8 windows ++ u8 o.val
        | .calState d calibrated counter => deck d ++ (if calibrated then u8 0 else u8 1) ++ u16 counter
        | .deckState d left entered who =>
            deck d ++ deckStateByte left ++ deckStateByte entered
              ++ (match who with | none => u8 0 | some w => u8 1 ++ u8 w.1.val ++ u16 w.2)
        | .laneState l left entered n =>
            u8 l.val ++ laneStateByte left ++ laneStateByte entered ++ (match n with | none => u8 0 | some n => u8 1 ++ u16 n)
        | .barrierState k left entered reason =>
            barrierByte k ++ barrierStateByte left ++ barrierStateByte entered ++ barrierReasonByte reason
        | .engineState d left entered w => deck d ++ engineStateByte left ++ engineStateByte entered ++ window w) ∧
  (
    (∀ (w : PortWork) (x : Sending), w.sending = some x → w.kick = w) ∧
    (∀ (w : PortWork) (a : Answer) (rest : List Answer) (f : List Byte) (fs : List (List Byte)),
      w.sending = none → w.answers = a :: rest → answerFrames a = f :: fs →
      w.kick = { w with answers := rest, sending := some { frame := f, rest := fs, answersHand := !a.early } }) ∧
    (∀ (w : PortWork) (n : QueuedNotice) (rest : List QueuedNotice),
      w.sending = none → w.answers = [] → w.held = [] → w.quiet = none → w.queue = n :: rest →
      w.kick = { w with
        queue := rest, sending := some { frame := frame (noticeBytes n), rest := [], answersHand := false } }) ∧
    (∀ w : PortWork, w.sending = none → w.answers = [] → (w.held ≠ [] ∨ w.quiet ≠ none ∨ w.queue = []) → w.kick = w) ∧
    (∀ (s : State) (q : Sender) (kind : Nat) (r : Reply), s.reply q kind r = s.modPort q.port fun w =>
      PortWork.kick { w with
        answers := w.answers ++
          [{ tag := q.tag, kind := BitVec.ofNat 8 kind, code := r.code, payload := r.payload, early := false }] ++ w.held
        held := [], hand := w.hand.map fun h => { h with answered := true } }) ∧
    ∀ (s : State) (p : Port), s.running = true →
      let c := Instr.frameSent p
      exec c s = .next (s.after c fun r =>
        match (s.port p).sending with
        | none => r
        | some x =>
          let rate := (s.portCfg p).rate
          let t := r.modPort p fun w =>
            let due := w.rateWait = .frameEnd ∨ (w.rateWait = .answerEnd ∧ x.answersHand = true ∧ x.rest = [])
            let w := if due then { w with rate := rate, rateWait := .none, receiver := .hunting } else w
            match x.rest with
            | f :: fs => { w with sending := some { x with frame := f, rest := fs } }
            | [] =>
              if x.answersHand then
                PortWork.kick { w with sending := none, hand := none, answers := w.answers ++ w.held, held := [] }
              else PortWork.kick { w with sending := none }
          if x.answersHand = true ∧ x.rest = [] ∧ s.sup.reset = .accepted p then
            t.modSup fun v => { v with reset := .due }
          else t)) ∧
  (
    ∀ (s : State) (p : Port), s.running = true →
      (∀ b, let c := Instr.noticeAdmission p b
        ((∀ n ∈ (s.port p).incoming, n.block ≠ b) → exec c s = .next (s.after c id)) ∧
        ∀ n older newer, (s.port p).incoming = older ++ n :: newer → (∀ m ∈ older, m.block ≠ b) → n.block = b →
          exec c s = .next (s.after c fun r => r.modPort p fun w =>
            let v : PortWork := { w with incoming := older ++ newer }
            if (s.portCfg p).role = .none ∨ (n.body.level < w.floor ∧ n.origin ≠ some p) then v
            else
              let number := if w.number < 65535 then w.number + 1 else 0
              if w.queue.length < 32 then
                PortWork.kick { v with number := number, queue := w.queue ++ [{ number := number, notice := n }] }
              else { v with number := number, latch := { w.latch with noticeLost := true } })) ∧
      let c := Instr.quietTimerExpiry p
      exec c s = .next (s.after c fun r =>
        if (s.port p).quiet = some 0 then r.modPort p fun w => PortWork.kick { w with quiet := none } else r))

/-- SET_PORT_ROLE gives a port other than P0 a new role with its default floor, no binding and a full latch but RESTARTED,
and empties the queue of one that becomes NONE (R203); BIND_KIOSK binds a kiosk to a lane or to none (R204); SET_PORT_RATE
stores the nearest legal rate, the higher of two equally near, which a port that sends nothing takes at once, dropping the
frame it is collecting, and one that sends takes at the end of its frame, and the sender's own port at the end of this
answer (R198). Floor 3 for role NONE (log 28) and the moment at which the sender's own port takes its rate (log 27) are
the model's choices. So is that a frame whose bytes have all come but which is not judged yet is dropped with a rate that
takes effect (log 27).

SET_NOTICE_FLOOR and QUIET set the sender's own port, clamped to 0 to 3 and to 65,535 tenths of a second (R208, R209);
READ_STATUS answers the sender's port and empties its change latch (R210); READ_PORTS answers all six and changes nothing
(R211). The types of the bytes answered, the floor as a u8 and the role NONE as 00h among them, are the model's choice
(log 15). -/
def Obligations.PortRequests : Prop :=
  (
    ∀ (s : State) (q : Sender) (role : Role) (port : Nat),
      (∀ n, let c := Instr.setPortRole q port n
        s.Taken c q role →
          ((port = 0 ∨ 6 ≤ port ∨ 4 ≤ n) → exec c s = .next (s.refusal c q .badArgument)) ∧
          ∀ p r, portOf port = some p → p ≠ 0 → roleOf n = some r →
            ((s.portCfg p).role = r → exec c s = .next (s.answered c q id .ok)) ∧
            ((s.portCfg p).role ≠ r → exec c s = .next (s.answered c q
              (fun t => ((t.modPortCfg p fun x => { x with role := r, binding := none }).modPort p fun w =>
                { w with
                  floor := if r = .console then 1 else if r = .office then 2 else 3
                  latch := { lanes := true, decks := true, yardTable := true, tareStore := true, ticketLog := true
                             supervision := true, noticeLost := true, restarted := false }
                  queue := if r = .none then [] else w.queue
                  quiet := if r = .none then none else w.quiet }).flag .supervision) .ok))) ∧
      (∀ n, let c := Instr.bindKiosk q port n
        s.Taken c q role →
          ((port = 0 ∨ 6 ≤ port ∨ (4 ≤ n ∧ n ≠ 4294967295)) → exec c s = .next (s.refusal c q .badArgument)) ∧
          ∀ p, portOf port = some p → p ≠ 0 →
            ∀ b, ((n = 4294967295 ∧ b = none) ∨ ∃ l : Lane, n = l.val ∧ b = some l) →
              exec c s = .next
                (if (s.portCfg p).role ≠ .kiosk then s.refusal c q .wrongState
                else s.answered c q
                  (fun t => (t.modPortCfg p fun x => { x with binding := b }).flag .supervision) .ok)) ∧
      ∀ rate, let c := Instr.setPortRate q port rate
        s.Taken c q role →
          (6 ≤ port → exec c s = .next (s.refusal c q .badArgument)) ∧
          ∀ p, portOf port = some p → ∃ r : Nat, r ∈ ([9600, 19200, 38400, 57600, 115200] : List Nat) ∧
            (∀ r' ∈ ([9600, 19200, 38400, 57600, 115200] : List Nat),
              |(r : Int) - rate| < |(r' : Int) - rate| ∨ (|(r : Int) - rate| = |(r' : Int) - rate| ∧ r' ≤ r)) ∧
            exec c s = .next (s.answered c q
              (fun t =>
                let u := t.modPortCfg p fun x => { x with rate := r }
                (u.modPort p fun w =>
                  if p = q.port then { w with rateWait := .answerEnd }
                  else if (s.port p).sending = none then { w with rate := r, rateWait := .none, receiver := .hunting }
                  else { w with rateWait := .frameEnd }).flag .supervision)
              (if r = rate then .ok else { code := .clamped, payload := u32 r }))) ∧
  (
    ∀ (s : State) (q : Sender) (role : Role) (n : Nat),
      let p := q.port
      let bytes := fun (w : PortWork) (x : PortCfg) (status : Bool) =>
        (if status then latchSet w.latch else []) ++ roleByte x.role ++ optional laneByte x.binding ++ u32 x.rate
          ++ u8 w.floor ++ u8 w.queue.length ++ u16 w.number ++ optional u32 w.quiet
          ++ (if status then [] else latchSet w.latch) ++ u16 w.errors
      (let c := Instr.setNoticeFloor q n
       s.Taken c q role → exec c s = .next (s.answered c q
        (fun r => r.modPort p fun w => { w with floor := if n ≤ 3 then n else 3 })
        (if n ≤ 3 then .ok else { code := .clamped, payload := u8 3 }))) ∧
      (let c := Instr.quiet q n
       s.Taken c q role → exec c s = .next (s.answered c q
        (fun r => r.modPort p fun w =>
          { w with quiet := if n = 0 then none else some (if n ≤ 65535 then n * 100 else 6553500) })
        (if n ≤ 65535 then .ok else { code := .clamped, payload := u32 65535 }))) ∧
      (let c := Instr.readStatus q
       s.Taken c q role → exec c s = .next (s.answered c q
        (fun r => r.modPort p fun w =>
          { w with latch := { lanes := false, decks := false, yardTable := false, tareStore := false, ticketLog := false
                              supervision := false, noticeLost := false, restarted := false } })
        (.ok (bytes (s.port p) (s.portCfg p) true)))) ∧
      let c := Instr.readPorts q
      s.Taken c q role → exec c s = .next (s.answered c q id
        (.ok (6#8 :: ([0, 1, 2, 3, 4, 5] : List Port).flatMap fun k => bytes (s.port k) (s.portCfg k) false))))

/-! ### Settings and readouts -/

/-- The clamped settings of lanes, decks and barriers: each value outside its range is clamped to the nearer end and the
answer is CLAMPED with the stored values; the limits are those of R35, R85, R108, R130, R147 and R150. A threshold is
clamped between 2·e1 and Max1, DEFAULT stands for 20·e1, and an UNCALIBRATED deck refuses a number (R67, R68). A lane, a
deck, a barrier or a setting that does not exist is refused with BAD_ARGUMENT. The types of the CLAMPED values and a
threshold carried as unsigned are the model's choices (log 15), and so is the value stored where the range of a threshold
is empty (log 39).

SET_CONDITIONER changes an input only while its lane is in MAINTENANCE or its deck OUT_OF_SERVICE; its run stays until the
next tick has read the raw state through the new configuration (R128; that a run of the old configuration reaches no edge
in between is the model's choice, log 32). SET_LAMP writes a lamp and judges its source at once, with no stretch;
SET_LAMP_INVERT writes the one invert flag (R146, R147). An input, polarity, lane, lamp, source or setting that does not
exist is refused with BAD_ARGUMENT. A stretch timer at 0 ends (R146). The types of the CLAMPED values are the model's
choice (log 15). -/
def Obligations.SettingsAreClamped : Prop :=
  (
    ∀ (s : State) (q : Sender) (role : Role),
      let clamp := fun (lo hi n : Nat) => if n < lo then lo else if hi < n then hi else n
      let reply := fun (same : Bool) (bytes : List Byte) => if same then Reply.ok else { code := .clamped, payload := bytes }
      (∀ lane deck n a b m k, 4 ≤ lane → 2 ≤ deck → 4 ≤ n →
        ∀ c ∈ [Instr.setTareValidity q lane a, .setLaneTimers q lane a b, .setSignalHead q lane a,
            .setCaptureOptions q deck a b m, .setProceedTime q deck a, .setOccupancy q deck a, .setBarrier q n a b m k],
          s.Taken c q role → exec c s = .next (s.refusal c q .badArgument)) ∧
      (∀ deck n a b m k, 2 ≤ m → ∀ c ∈ [Instr.setCaptureOptions q deck a b m, .setBarrier q n m a b k],
        s.Taken c q role → exec c s = .next (s.refusal c q .badArgument)) ∧
      (∀ lane l days, laneOf lane = some l → let c := Instr.setTareValidity q lane days
        let v := clamp 1 730 days
        s.Taken c q role → exec c s = .next (s.answered c q
          (fun r => r.modLaneCfg l fun x => { x with tareValidity := v }) (reply (v == days) (u16 v)))) ∧
      (∀ lane l absence stuck, laneOf lane = some l → let c := Instr.setLaneTimers q lane absence stuck
        let a := clamp 1 30 absence
        let k := clamp 30 600 stuck
        s.Taken c q role → exec c s = .next (s.answered c q
          (fun r => r.modLaneCfg l fun x => { x with absence := a, stuck := k })
          (reply (a == absence && k == stuck) (u32 a ++ u32 k)))) ∧
      (∀ lane l period, laneOf lane = some l → let c := Instr.setSignalHead q lane period
        let v := clamp 250 2000 period
        s.Taken c q role → exec c s = .next (s.answered c q
          (fun r => (r.modLaneCfg l fun x => { x with blinkPeriod := v }).flag .lanes) (reply (v == period) (u32 v)))) ∧
      (∀ deck d attempt n accept, deckOf deck = some d → accept < 2 → let c := Instr.setCaptureOptions q deck attempt n accept
        let a := clamp 2 30 attempt
        let k := clamp 0 4 n
        s.Taken c q role → exec c s = .next (s.answered c q
          (fun r => (r.modDeckCfg d fun x => { x with attempt := a, downshift := k, accept := accept == 0 }).flag .decks)
          (reply (a == attempt && k == n) (u32 a ++ u8 k)))) ∧
      (∀ deck d seconds, deckOf deck = some d → let c := Instr.setProceedTime q deck seconds
        let v := clamp 5 120 seconds
        s.Taken c q role → exec c s = .next (s.answered c q
          (fun r => (r.modDeckCfg d fun x => { x with proceed := v }).flag .decks) (reply (v == seconds) (u32 v)))) ∧
      (∀ deck d n, deckOf deck = some d → let c := Instr.setOccupancy q deck n
        let v := clamp (2 * (s.deckCfg d).metrology.e1) (s.deckCfg d).metrology.max1 n
        s.Taken c q role → exec c s = .next
          (if n = 4294967295 then
            s.answered c q (fun r => (r.modDeckCfg d fun x => { x with threshold := none }).flag .decks) .ok
          else if s.calibrated d = false then s.refusal c q .wrongState
          else s.answered c q (fun r => (r.modDeckCfg d fun x => { x with threshold := some v }).flag .decks)
            (reply (v == n) (u32 v)))) ∧
      ∀ n b fail motion close half, barrierOf n = some b → fail < 2 → let c := Instr.setBarrier q n fail motion close half
        let m := clamp 1 20 motion
        let k := clamp 0 10 close
        let h := clamp 50 1000 half
        s.Taken c q role → exec c s = .next (s.answered c q
          (fun r => (r.modBarCfg b fun _ =>
            { failAction := if fail = 0 then .lower else .hold, motionLimit := m, closeDelay := k, halfPeriod := h }).flag .decks)
          (reply (m == motion && k == close && h == half) (u32 m ++ u32 k ++ u32 h)))) ∧
  (
    ∀ (s : State) (q : Sender) (role : Role),
      let clamp := fun (lo hi n : Nat) => if n < lo then lo else if hi < n then hi else n
      let reply := fun (same : Bool) (n : Nat) => if same then Reply.ok else { code := .clamped, payload := u32 n }
      (∀ n polarity debounce, (12 ≤ n ∨ 2 ≤ polarity) → let c := Instr.setConditioner q n polarity debounce
        s.Taken c q role → exec c s = .next (s.refusal c q .badArgument)) ∧
      (∀ lane lamp source blink stretch, (4 ≤ lane ∨ lamp = 0 ∨ 4 ≤ lamp ∨ 9 ≤ source ∨ 2 ≤ blink) →
        let c := Instr.setLamp q lane lamp source blink stretch
        s.Taken c q role → exec c s = .next (s.refusal c q .badArgument)) ∧
      (∀ n i polarity debounce, inputOf n = some i → polarity < 2 → let c := Instr.setConditioner q n polarity debounce
        let v := clamp 10 500 debounce
        let lane := ∃ l : Lane, i = .stop l
        let free := match i with
          | .stop l => decide ((s.lane l).state = .maintenance)
          | .boom b => decide ((s.arb b.deck).state = .outOfService)
          | .beam1 d => decide ((s.arb d).state = .outOfService)
          | .beam2 d => decide ((s.arb d).state = .outOfService)
        s.Taken c q role →
          (free = false → exec c s = .next (s.refusal c q .wrongState)) ∧
          (free = true →
            let write := fun (r : State) => (r.modInpCfg i fun _ => { inverted := polarity == 1, debounce := v }).modInp i
              fun w => { w with fresh := true }
            (lane → exec c s = .next (s.answered c q (fun r => (write r).flag .lanes) (reply (v == debounce) v))) ∧
            (¬lane → exec c s = .next (s.answered c q (fun r => (write r).flag .decks) (reply (v == debounce) v))))) ∧
      (∀ lane l lamp k source x blink stretch, laneOf lane = some l → lampOf lamp = some k → sourceOf source = some x →
        blink < 2 → let c := Instr.setLamp q lane lamp source blink stretch
        let v := clamp 0 2000 stretch
        s.Taken c q role → exec c s = .next (s.answered c q
          (fun r => ((r.modLaneCfg l fun y =>
            { y with lamps := y.lamps.set k { source := x, blink := blink == 0, stretch := v } }).modLane l fun w =>
              { w with lamps := w.lamps.set k { value := s.lampSource l x, stretch := none } }).flag .lanes)
          (reply (v == stretch) v))) ∧
      (∀ flag, let c := Instr.setLampInvert q flag
        s.Taken c q role → exec c s = .next
          (if 2 ≤ flag then s.refusal c q .badArgument
          else s.answered c q (fun r => (r.modBackup fun b => { b with lampInvert := flag == 0 }).flag .lanes) .ok)) ∧
      ∀ l k, s.running = true → let c := Instr.stretchTimerExpiry l k
        exec c s = .next (s.after c fun r =>
          if ((s.lane l).lamps.get k).stretch = some 0 then
            r.modLane l fun w => { w with lamps := w.lamps.set k { value := ((s.lane l).lamps.get k).value, stretch := none } }
          else r))

/-- The three reads of the table change nothing (R4). The byte of a recall intent's origin is the model's choice (log 15).

The readouts of decks, captures, channels, inputs, lanes and barriers hold what their rules list, and change nothing; a
deck or a lane that does not exist is refused (R63, R83, R88, R123, R128, R142, R167). The types of the bytes, the orders
of the engine states and the range conditions, the count before the lamps, the half-period timer behind the keepalive
level (R165), NONE as 00h for a hold, a passage, an arrival and a capture outcome, and what stands under one presence byte
are the model's choices (log 15), and so is that a deck in the gap after a SHORT close is shown as running windows (log
10). -/
def Obligations.ReadoutsChangeNothing : Prop :=
  (
    ∀ (s : State) (q : Sender) (role : Role),
      (s.Taken (.listYard q) q role →
        exec (.listYard q) s = .next (s.answered (.listYard q) q id (.ok (items entryLine s.recs.entries)))) ∧
      (∀ number, s.Taken (.readTransaction q number) q role →
        exec (.readTransaction q number) s = .next (s.answered (.readTransaction q number) q id
          (match s.recs.find number with
            | none => .only .notFound
            | some e => .ok (entryBytes e)))) ∧
      ∀ plate, s.Taken (.findPlate q plate) q role →
        exec (.findPlate q plate) s = .next (s.answered (.findPlate q plate) q id
          (match s.recs.findPlate (trimPlate plate) with
            | none => .only .notFound
            | some e => .ok (u16 e.number)))) ∧
  (
    ∀ (s : State) (q : Sender) (role : Role),
      let window := fun (d : Deck) =>
        u16 (s.deckCfg d).metrology.window ++ boolean (s.win d).runs
          ++ optional (fun w : ClosedWindow => u32 w.number ++ tickMarkByte w.timing ++ windowStatusByte w.status) (s.win d).last
      let channel := fun (x : Channel) =>
        mapByte (s.chanCfg x).map ++ edgeByte (s.chanCfg x).polarity ++ u32 (s.chanCfg x).low ++ u32 (s.chanCfg x).high
          ++ optional (fun k : LastCount => u32 k.count ++ boolean k.cause.isNone ++ optional countCauseByte k.cause)
            (s.chan x).last
          ++ causeSet (s.chan x).latch ++ u16 (s.chan x).faults
      let source := tickMarkByte (if s.sup.monitor = .locked then .reference else .backup)
      let input := fun (i : Input) =>
        u8 (if (s.inpCfg i).inverted then 1 else 0) ++ u32 (s.inpCfg i).debounce ++ u8 (if (s.inp i).raw then 0 else 1)
          ++ debouncedByte (s.inp i).debounced ++ optional u32 (s.inp i).run
      (∀ deck d, deckOf deck = some d →
        (let c := Instr.readDeck q deck
         let x := s.deckCfg d
         let g := s.eng d
         let reading := fun (r : Reading) =>
          u32 r.number ++ u48 r.closing ++ tickMarkByte r.timing ++ windowStatusByte r.status ++ optional u8 r.e
            ++ optional s32 r.gd ++ optional rangeByte r.range ++ optional (fun k : Int => u32 k.toNat) r.spread
            ++ optional boolean r.stable
         s.Taken c q role → exec c s = .next (s.answered c q id (.ok
          (engineStateByte g.state ++ occupancyByte g.occupancy ++ u8 (if s.calibrated d then 0 else 1)
            ++ metrologyBytes x.metrology ++ u32 (x.threshold.getD (20 * x.metrology.e1)) ++ boolean x.threshold.isNone
            ++ u8 g.filter.length ++ u8 g.stab.length ++ boolean g.zeroLimit ++ optional reading g.latest
            ++ (if s.sup.calSwitch then
                [1#8] ++ s32 x.zd ++ optional s32 (g.latest.bind Reading.graw) ++ optional s32 (g.latest.bind Reading.gz)
                  ++ optional s32 (g.latest.bind Reading.gf)
              else [0#8]))))) ∧
        (let c := Instr.readCapture q deck
         s.Taken c q role → exec c s = .next (s.answered c q id (.ok
          (u32 (s.deckCfg d).attempt ++ u8 (s.deckCfg d).downshift ++ switchByte (s.deckCfg d).accept
            ++ optional (fun k : Capture => u16 k.number ++ originBytes k.origin ++ laneByte k.lane ++ u32 k.attempt
              ++ u8 k.downshift ++ switchByte k.accept ++ phaseByte k.phase ++ u8 k.failed ++ u32 k.timer
              ++ u8 (if k.paused then 1 else 0) ++ optional u32 k.leave ++ u8 k.invalidRun) (s.eng d).capture
            ++ u8 (s.eng d).stab.length)))) ∧
        (let c := Instr.readDeckState q deck
         let a := s.arb d
         s.Taken c q role → exec c s = .next (s.answered c q id (.ok
          (deckStateByte a.state ++ optional (fun o : Offer => laneByte o.lane ++ u16 o.number) a.offer
            ++ optional (fun g : Grant => laneByte g.lane ++ u16 g.number ++ u8 (if g.arrived then 1 else 0) ++ boolean g.late
              ++ optional u32 g.timer) a.grant
            ++ optional (fun k : Current => u16 k.number ++ laneByte k.lane ++ boolean k.released ++ outcomeBytes k.outcome)
              a.current
            ++ u8 (if a.watch then 0 else 1) ++ boolean a.tailgate
            ++ items (optional fun k : Pending => u16 k.number ++ filingKindByte k.kind ++ u8 k.priority ++ u48 k.time)
              a.slots.toList
            ++ optional laneByte a.last
            ++ u32 (s.deckCfg d).proceed ++ boolean (s.deckConditions d) ++ boolean (s.deckEmptyCondition d))))) ∧
        let c := Instr.readChannels q deck
        s.Taken c q role → exec c s = .next (s.answered c q id (.ok
          (u48 s.sup.ms ++ source ++ items window [d]
            ++ items channel (Channel.all.filter fun x => (s.chanCfg x).map == some d))))) ∧
      (∀ deck, 2 ≤ deck → ∀ c ∈ [Instr.readDeck q deck, .readCapture q deck, .readDeckState q deck],
        s.Taken c q role → exec c s = .next (s.refusal c q .badArgument)) ∧
      (∀ deck, 2 ≤ deck → deck ≠ 4294967295 → let c := Instr.readChannels q deck
        s.Taken c q role → exec c s = .next (s.refusal c q .badArgument)) ∧
      (∀ lane, 4 ≤ lane → let c := Instr.readLane q lane
        s.Taken c q role → exec c s = .next (s.refusal c q .badArgument)) ∧
      (let c := Instr.readChannels q 4294967295
       s.Taken c q role → exec c s = .next (s.answered c q id (.ok
        (u48 s.sup.ms ++ source ++ items window [.a, .b] ++ items channel Channel.all)))) ∧
      (let c := Instr.readInputs q
       s.Taken c q role → exec c s = .next (s.answered c q id (.ok (items input Input.all)))) ∧
      (∀ lane l, laneOf lane = some l → let c := Instr.readLane q lane
        let w := s.lane l
        let x := s.laneCfg l
        s.Taken c q role → exec c s = .next (s.answered c q id (.ok
          (laneStateByte w.state ++ feedByte x.feed ++ optional filingBytes w.request ++ optional deckByte w.grant
            ++ optional u32 w.absence ++ optional u32 w.stuck ++ u32 x.absence ++ u32 x.stuck ++ u16 x.tareValidity
            ++ input (.stop l)
            ++ items (fun k : Lamp =>
                lampSourceByte (x.lamps.get k).source ++ switchByte (x.lamps.get k).blink ++ u32 (x.lamps.get k).stretch
                  ++ boolean (w.lamps.get k).value ++ boolean (w.lamps.get k).stretch.isSome
                  ++ u8 (if s.lampOutput l k then 0 else 1)) [0, 1, 2]
            ++ u32 x.blinkPeriod
            ++ switchByte s.backup.lampInvert)))) ∧
      let c := Instr.readBarriers q
      s.Taken c q role → exec c s = .next (s.answered c q id
        (.ok (items
          (fun b =>
            let w := s.bar b
            let x := s.barCfg b
            barrierStateByte w.state ++ optional faultCauseByte w.cause ++ boolean (s.permissiveNow b)
              ++ optional boolean (if b.isEntry then none else some (s.released b.deck)) ++ boolean w.latch
              ++ u8 (if w.inLoop then 1 else 0) ++ holdByte w.hold ++ boolean w.reversal ++ optional u32 w.closeDelay
              ++ optional u32 w.motion ++ u8 (if w.upper then 0 else 1) ++ u8 (if w.lower then 0 else 1)
              ++ u8 (if w.level then 0 else 1) ++ boolean (w.state != .fault && s.supplyAt (.barrier b) == .normal) ++ optional u32 w.half
              ++ failActionByte x.failAction ++ u32 x.motionLimit ++ u32 x.closeDelay ++ u32 x.halfPeriod
              ++ debouncedByte (s.inp (.boom b)).debounced)
          [.aEntry, .aExit, .bEntry, .bExit]))))

end
end

