-- ==== Sys2Proof/Laws/State.lean ====
section
/-! SUPPORT. One lemma for each item of state and each rewriting of one: what the rewriting leaves as it was, and what it
makes of its own item. Proofs about the commands go through these and never through the records themselves. -/

namespace Sys2Proof

/-- A bank entry after a rewriting of the same entry. -/
@[simp] theorem Bank.get_mod_self {n : Nat} {α : Type} (v : Bank n α) (i : Fin n) (f : α → α) :
    (Bank.mod v i f).get i = f (v.get i) := by
  simp [Bank.mod, Vector.get_eq_getElem]

/-- A bank entry after a rewriting of another entry. -/
theorem Bank.get_mod_ne {n : Nat} {α : Type} (v : Bank n α) {i j : Fin n} (f : α → α) (h : j ≠ i) :
    (Bank.mod v i f).get j = v.get j := by
  have h' : i.val ≠ j.val := fun e => h (Fin.ext e.symm)
  simp [Bank.mod, Vector.get_eq_getElem, h']

@[simp] theorem PerDeck.get_mod_self {α : Type} (p : PerDeck α) (d : Deck) (f : α → α) :
    (p.mod d f).get d = f (p.get d) := by cases d <;> rfl

theorem PerDeck.get_mod_ne {α : Type} (p : PerDeck α) {d e : Deck} (f : α → α) (h : e ≠ d) :
    (p.mod d f).get e = p.get e := by cases d <;> cases e <;> first | rfl | exact absurd rfl h

@[simp] theorem PerBarrier.get_mod_self {α : Type} (p : PerBarrier α) (b : Barrier) (f : α → α) :
    (p.mod b f).get b = f (p.get b) := by cases b <;> rfl

theorem PerBarrier.get_mod_ne {α : Type} (p : PerBarrier α) {b c : Barrier} (f : α → α) (h : c ≠ b) :
    (p.mod b f).get c = p.get c := by cases b <;> cases c <;> first | rfl | exact absurd rfl h

@[simp] theorem PerInput.get_mod_self {α : Type} (p : PerInput α) (i : Input) (f : α → α) :
    (p.mod i f).get i = f (p.get i) := by cases i <;> simp [PerInput.mod, PerInput.get]

theorem PerInput.get_mod_ne {α : Type} (p : PerInput α) {i j : Input} (f : α → α) (h : j ≠ i) :
    (p.mod i f).get j = p.get j := by
  cases i <;> cases j <;> simp_all [PerInput.mod, PerInput.get, Bank.get_mod_ne, PerBarrier.get_mod_ne, PerDeck.get_mod_ne]

end Sys2Proof

namespace Sys2Proof.Machine

set_option linter.all false

variable (s : State)

/-! ### modRecs -/

@[simp] theorem State.arb_modRecs (f : Records → Records) (x : Deck) : (s.modRecs f).arb x = s.arb x := rfl
@[simp] theorem State.eng_modRecs (f : Records → Records) (x : Deck) : (s.modRecs f).eng x = s.eng x := rfl
@[simp] theorem State.win_modRecs (f : Records → Records) (x : Deck) : (s.modRecs f).win x = s.win x := rfl
@[simp] theorem State.chan_modRecs (f : Records → Records) (x : Channel) : (s.modRecs f).chan x = s.chan x := rfl
@[simp] theorem State.lane_modRecs (f : Records → Records) (x : Lane) : (s.modRecs f).lane x = s.lane x := rfl
@[simp] theorem State.bar_modRecs (f : Records → Records) (x : Barrier) : (s.modRecs f).bar x = s.bar x := rfl
@[simp] theorem State.inp_modRecs (f : Records → Records) (x : Input) : (s.modRecs f).inp x = s.inp x := rfl
@[simp] theorem State.port_modRecs (f : Records → Records) (x : Port) : (s.modRecs f).port x = s.port x := rfl
@[simp] theorem State.sup_modRecs (f : Records → Records) : (s.modRecs f).sup = s.sup := rfl
@[simp] theorem State.ms_modRecs (f : Records → Records) : (s.modRecs f).ms = s.ms := rfl
@[simp] theorem State.deckCfg_modRecs (f : Records → Records) (x : Deck) : (s.modRecs f).deckCfg x = s.deckCfg x := rfl
@[simp] theorem State.chanCfg_modRecs (f : Records → Records) (x : Channel) : (s.modRecs f).chanCfg x = s.chanCfg x := rfl
@[simp] theorem State.laneCfg_modRecs (f : Records → Records) (x : Lane) : (s.modRecs f).laneCfg x = s.laneCfg x := rfl
@[simp] theorem State.barCfg_modRecs (f : Records → Records) (x : Barrier) : (s.modRecs f).barCfg x = s.barCfg x := rfl
@[simp] theorem State.inpCfg_modRecs (f : Records → Records) (x : Input) : (s.modRecs f).inpCfg x = s.inpCfg x := rfl
@[simp] theorem State.portCfg_modRecs (f : Records → Records) (x : Port) : (s.modRecs f).portCfg x = s.portCfg x := rfl
@[simp] theorem State.mode_modRecs (f : Records → Records) : (s.modRecs f).mode = s.mode := rfl
@[simp] theorem State.calCounter_modRecs (f : Records → Records) : (s.modRecs f).backup.calCounter = s.backup.calCounter := rfl
@[simp] theorem State.lampInvert_modRecs (f : Records → Records) : (s.modRecs f).backup.lampInvert = s.backup.lampInvert := rfl
@[simp] theorem State.mask_modRecs (f : Records → Records) : (s.modRecs f).backup.mask = s.backup.mask := rfl
@[simp] theorem State.modeAt_modRecs (f : Records → Records) (x : ModeReader) : (s.modRecs f).modeAt x = s.modeAt x := rfl
@[simp] theorem State.supplyAt_modRecs (f : Records → Records) (x : SupplyReader) : (s.modRecs f).supplyAt x = s.supplyAt x := rfl
@[simp] theorem State.boomAtArbiter_modRecs (f : Records → Records) (x : Barrier) : (s.modRecs f).boomAtArbiter x = s.boomAtArbiter x := rfl
@[simp] theorem State.boomAtLane_modRecs (f : Records → Records) (l : Lane) (x : Barrier) : (s.modRecs f).boomAtLane l x = s.boomAtLane l x := rfl
@[simp] theorem State.raised_modRecs (f : Records → Records) : (s.modRecs f).main.raised = s.main.raised := rfl
@[simp] theorem State.check_modRecs (f : Records → Records) : (s.modRecs f).check = s.check := rfl
@[simp] theorem State.running_modRecs (f : Records → Records) : (s.modRecs f).running = s.running := rfl
@[simp] theorem State.pending_modRecs (f : Records → Records) : (s.modRecs f).pending = s.pending := rfl

/-! ### modArb -/

@[simp] theorem State.recs_modArb (d : Deck) (f : Arbiter → Arbiter) : (s.modArb d f).recs = s.recs := rfl
@[simp] theorem State.eng_modArb (d : Deck) (f : Arbiter → Arbiter) (x : Deck) : (s.modArb d f).eng x = s.eng x := rfl
@[simp] theorem State.win_modArb (d : Deck) (f : Arbiter → Arbiter) (x : Deck) : (s.modArb d f).win x = s.win x := rfl
@[simp] theorem State.chan_modArb (d : Deck) (f : Arbiter → Arbiter) (x : Channel) : (s.modArb d f).chan x = s.chan x := rfl
@[simp] theorem State.lane_modArb (d : Deck) (f : Arbiter → Arbiter) (x : Lane) : (s.modArb d f).lane x = s.lane x := rfl
@[simp] theorem State.bar_modArb (d : Deck) (f : Arbiter → Arbiter) (x : Barrier) : (s.modArb d f).bar x = s.bar x := rfl
@[simp] theorem State.inp_modArb (d : Deck) (f : Arbiter → Arbiter) (x : Input) : (s.modArb d f).inp x = s.inp x := rfl
@[simp] theorem State.port_modArb (d : Deck) (f : Arbiter → Arbiter) (x : Port) : (s.modArb d f).port x = s.port x := rfl
@[simp] theorem State.sup_modArb (d : Deck) (f : Arbiter → Arbiter) : (s.modArb d f).sup = s.sup := rfl
@[simp] theorem State.ms_modArb (d : Deck) (f : Arbiter → Arbiter) : (s.modArb d f).ms = s.ms := rfl
@[simp] theorem State.deckCfg_modArb (d : Deck) (f : Arbiter → Arbiter) (x : Deck) : (s.modArb d f).deckCfg x = s.deckCfg x := rfl
@[simp] theorem State.chanCfg_modArb (d : Deck) (f : Arbiter → Arbiter) (x : Channel) : (s.modArb d f).chanCfg x = s.chanCfg x := rfl
@[simp] theorem State.laneCfg_modArb (d : Deck) (f : Arbiter → Arbiter) (x : Lane) : (s.modArb d f).laneCfg x = s.laneCfg x := rfl
@[simp] theorem State.barCfg_modArb (d : Deck) (f : Arbiter → Arbiter) (x : Barrier) : (s.modArb d f).barCfg x = s.barCfg x := rfl
@[simp] theorem State.inpCfg_modArb (d : Deck) (f : Arbiter → Arbiter) (x : Input) : (s.modArb d f).inpCfg x = s.inpCfg x := rfl
@[simp] theorem State.portCfg_modArb (d : Deck) (f : Arbiter → Arbiter) (x : Port) : (s.modArb d f).portCfg x = s.portCfg x := rfl
@[simp] theorem State.mode_modArb (d : Deck) (f : Arbiter → Arbiter) : (s.modArb d f).mode = s.mode := rfl
@[simp] theorem State.calCounter_modArb (d : Deck) (f : Arbiter → Arbiter) : (s.modArb d f).backup.calCounter = s.backup.calCounter := rfl
@[simp] theorem State.lampInvert_modArb (d : Deck) (f : Arbiter → Arbiter) : (s.modArb d f).backup.lampInvert = s.backup.lampInvert := rfl
@[simp] theorem State.mask_modArb (d : Deck) (f : Arbiter → Arbiter) : (s.modArb d f).backup.mask = s.backup.mask := rfl
@[simp] theorem State.modeAt_modArb (d : Deck) (f : Arbiter → Arbiter) (x : ModeReader) : (s.modArb d f).modeAt x = s.modeAt x := rfl
@[simp] theorem State.supplyAt_modArb (d : Deck) (f : Arbiter → Arbiter) (x : SupplyReader) : (s.modArb d f).supplyAt x = s.supplyAt x := rfl
@[simp] theorem State.boomAtArbiter_modArb (d : Deck) (f : Arbiter → Arbiter) (x : Barrier) : (s.modArb d f).boomAtArbiter x = s.boomAtArbiter x := rfl
@[simp] theorem State.boomAtLane_modArb (d : Deck) (f : Arbiter → Arbiter) (l : Lane) (x : Barrier) : (s.modArb d f).boomAtLane l x = s.boomAtLane l x := rfl
@[simp] theorem State.raised_modArb (d : Deck) (f : Arbiter → Arbiter) : (s.modArb d f).main.raised = s.main.raised := rfl
@[simp] theorem State.check_modArb (d : Deck) (f : Arbiter → Arbiter) : (s.modArb d f).check = s.check := rfl
@[simp] theorem State.running_modArb (d : Deck) (f : Arbiter → Arbiter) : (s.modArb d f).running = s.running := rfl
@[simp] theorem State.pending_modArb (d : Deck) (f : Arbiter → Arbiter) : (s.modArb d f).pending = s.pending := rfl

/-! ### modEng -/

@[simp] theorem State.recs_modEng (d : Deck) (f : Engine → Engine) : (s.modEng d f).recs = s.recs := rfl
@[simp] theorem State.arb_modEng (d : Deck) (f : Engine → Engine) (x : Deck) : (s.modEng d f).arb x = s.arb x := rfl
@[simp] theorem State.win_modEng (d : Deck) (f : Engine → Engine) (x : Deck) : (s.modEng d f).win x = s.win x := rfl
@[simp] theorem State.chan_modEng (d : Deck) (f : Engine → Engine) (x : Channel) : (s.modEng d f).chan x = s.chan x := rfl
@[simp] theorem State.lane_modEng (d : Deck) (f : Engine → Engine) (x : Lane) : (s.modEng d f).lane x = s.lane x := rfl
@[simp] theorem State.bar_modEng (d : Deck) (f : Engine → Engine) (x : Barrier) : (s.modEng d f).bar x = s.bar x := rfl
@[simp] theorem State.inp_modEng (d : Deck) (f : Engine → Engine) (x : Input) : (s.modEng d f).inp x = s.inp x := rfl
@[simp] theorem State.port_modEng (d : Deck) (f : Engine → Engine) (x : Port) : (s.modEng d f).port x = s.port x := rfl
@[simp] theorem State.sup_modEng (d : Deck) (f : Engine → Engine) : (s.modEng d f).sup = s.sup := rfl
@[simp] theorem State.ms_modEng (d : Deck) (f : Engine → Engine) : (s.modEng d f).ms = s.ms := rfl
@[simp] theorem State.deckCfg_modEng (d : Deck) (f : Engine → Engine) (x : Deck) : (s.modEng d f).deckCfg x = s.deckCfg x := rfl
@[simp] theorem State.chanCfg_modEng (d : Deck) (f : Engine → Engine) (x : Channel) : (s.modEng d f).chanCfg x = s.chanCfg x := rfl
@[simp] theorem State.laneCfg_modEng (d : Deck) (f : Engine → Engine) (x : Lane) : (s.modEng d f).laneCfg x = s.laneCfg x := rfl
@[simp] theorem State.barCfg_modEng (d : Deck) (f : Engine → Engine) (x : Barrier) : (s.modEng d f).barCfg x = s.barCfg x := rfl
@[simp] theorem State.inpCfg_modEng (d : Deck) (f : Engine → Engine) (x : Input) : (s.modEng d f).inpCfg x = s.inpCfg x := rfl
@[simp] theorem State.portCfg_modEng (d : Deck) (f : Engine → Engine) (x : Port) : (s.modEng d f).portCfg x = s.portCfg x := rfl
@[simp] theorem State.mode_modEng (d : Deck) (f : Engine → Engine) : (s.modEng d f).mode = s.mode := rfl
@[simp] theorem State.calCounter_modEng (d : Deck) (f : Engine → Engine) : (s.modEng d f).backup.calCounter = s.backup.calCounter := rfl
@[simp] theorem State.lampInvert_modEng (d : Deck) (f : Engine → Engine) : (s.modEng d f).backup.lampInvert = s.backup.lampInvert := rfl
@[simp] theorem State.mask_modEng (d : Deck) (f : Engine → Engine) : (s.modEng d f).backup.mask = s.backup.mask := rfl
@[simp] theorem State.modeAt_modEng (d : Deck) (f : Engine → Engine) (x : ModeReader) : (s.modEng d f).modeAt x = s.modeAt x := rfl
@[simp] theorem State.supplyAt_modEng (d : Deck) (f : Engine → Engine) (x : SupplyReader) : (s.modEng d f).supplyAt x = s.supplyAt x := rfl
@[simp] theorem State.boomAtArbiter_modEng (d : Deck) (f : Engine → Engine) (x : Barrier) : (s.modEng d f).boomAtArbiter x = s.boomAtArbiter x := rfl
@[simp] theorem State.boomAtLane_modEng (d : Deck) (f : Engine → Engine) (l : Lane) (x : Barrier) : (s.modEng d f).boomAtLane l x = s.boomAtLane l x := rfl
@[simp] theorem State.raised_modEng (d : Deck) (f : Engine → Engine) : (s.modEng d f).main.raised = s.main.raised := rfl
@[simp] theorem State.check_modEng (d : Deck) (f : Engine → Engine) : (s.modEng d f).check = s.check := rfl
@[simp] theorem State.running_modEng (d : Deck) (f : Engine → Engine) : (s.modEng d f).running = s.running := rfl
@[simp] theorem State.pending_modEng (d : Deck) (f : Engine → Engine) : (s.modEng d f).pending = s.pending := rfl

/-! ### modWin -/

@[simp] theorem State.recs_modWin (d : Deck) (f : WindowWork → WindowWork) : (s.modWin d f).recs = s.recs := rfl
@[simp] theorem State.arb_modWin (d : Deck) (f : WindowWork → WindowWork) (x : Deck) : (s.modWin d f).arb x = s.arb x := rfl
@[simp] theorem State.eng_modWin (d : Deck) (f : WindowWork → WindowWork) (x : Deck) : (s.modWin d f).eng x = s.eng x := rfl
@[simp] theorem State.chan_modWin (d : Deck) (f : WindowWork → WindowWork) (x : Channel) : (s.modWin d f).chan x = s.chan x := rfl
@[simp] theorem State.lane_modWin (d : Deck) (f : WindowWork → WindowWork) (x : Lane) : (s.modWin d f).lane x = s.lane x := rfl
@[simp] theorem State.bar_modWin (d : Deck) (f : WindowWork → WindowWork) (x : Barrier) : (s.modWin d f).bar x = s.bar x := rfl
@[simp] theorem State.inp_modWin (d : Deck) (f : WindowWork → WindowWork) (x : Input) : (s.modWin d f).inp x = s.inp x := rfl
@[simp] theorem State.port_modWin (d : Deck) (f : WindowWork → WindowWork) (x : Port) : (s.modWin d f).port x = s.port x := rfl
@[simp] theorem State.sup_modWin (d : Deck) (f : WindowWork → WindowWork) : (s.modWin d f).sup = s.sup := rfl
@[simp] theorem State.ms_modWin (d : Deck) (f : WindowWork → WindowWork) : (s.modWin d f).ms = s.ms := rfl
@[simp] theorem State.deckCfg_modWin (d : Deck) (f : WindowWork → WindowWork) (x : Deck) : (s.modWin d f).deckCfg x = s.deckCfg x := rfl
@[simp] theorem State.chanCfg_modWin (d : Deck) (f : WindowWork → WindowWork) (x : Channel) : (s.modWin d f).chanCfg x = s.chanCfg x := rfl
@[simp] theorem State.laneCfg_modWin (d : Deck) (f : WindowWork → WindowWork) (x : Lane) : (s.modWin d f).laneCfg x = s.laneCfg x := rfl
@[simp] theorem State.barCfg_modWin (d : Deck) (f : WindowWork → WindowWork) (x : Barrier) : (s.modWin d f).barCfg x = s.barCfg x := rfl
@[simp] theorem State.inpCfg_modWin (d : Deck) (f : WindowWork → WindowWork) (x : Input) : (s.modWin d f).inpCfg x = s.inpCfg x := rfl
@[simp] theorem State.portCfg_modWin (d : Deck) (f : WindowWork → WindowWork) (x : Port) : (s.modWin d f).portCfg x = s.portCfg x := rfl
@[simp] theorem State.mode_modWin (d : Deck) (f : WindowWork → WindowWork) : (s.modWin d f).mode = s.mode := rfl
@[simp] theorem State.calCounter_modWin (d : Deck) (f : WindowWork → WindowWork) : (s.modWin d f).backup.calCounter = s.backup.calCounter := rfl
@[simp] theorem State.lampInvert_modWin (d : Deck) (f : WindowWork → WindowWork) : (s.modWin d f).backup.lampInvert = s.backup.lampInvert := rfl
@[simp] theorem State.mask_modWin (d : Deck) (f : WindowWork → WindowWork) : (s.modWin d f).backup.mask = s.backup.mask := rfl
@[simp] theorem State.modeAt_modWin (d : Deck) (f : WindowWork → WindowWork) (x : ModeReader) : (s.modWin d f).modeAt x = s.modeAt x := rfl
@[simp] theorem State.supplyAt_modWin (d : Deck) (f : WindowWork → WindowWork) (x : SupplyReader) : (s.modWin d f).supplyAt x = s.supplyAt x := rfl
@[simp] theorem State.boomAtArbiter_modWin (d : Deck) (f : WindowWork → WindowWork) (x : Barrier) : (s.modWin d f).boomAtArbiter x = s.boomAtArbiter x := rfl
@[simp] theorem State.boomAtLane_modWin (d : Deck) (f : WindowWork → WindowWork) (l : Lane) (x : Barrier) : (s.modWin d f).boomAtLane l x = s.boomAtLane l x := rfl
@[simp] theorem State.raised_modWin (d : Deck) (f : WindowWork → WindowWork) : (s.modWin d f).main.raised = s.main.raised := rfl
@[simp] theorem State.check_modWin (d : Deck) (f : WindowWork → WindowWork) : (s.modWin d f).check = s.check := rfl
@[simp] theorem State.running_modWin (d : Deck) (f : WindowWork → WindowWork) : (s.modWin d f).running = s.running := rfl
@[simp] theorem State.pending_modWin (d : Deck) (f : WindowWork → WindowWork) : (s.modWin d f).pending = s.pending := rfl

/-! ### modChan -/

@[simp] theorem State.recs_modChan (d : Channel) (f : ChannelWork → ChannelWork) : (s.modChan d f).recs = s.recs := rfl
@[simp] theorem State.arb_modChan (d : Channel) (f : ChannelWork → ChannelWork) (x : Deck) : (s.modChan d f).arb x = s.arb x := rfl
@[simp] theorem State.eng_modChan (d : Channel) (f : ChannelWork → ChannelWork) (x : Deck) : (s.modChan d f).eng x = s.eng x := rfl
@[simp] theorem State.win_modChan (d : Channel) (f : ChannelWork → ChannelWork) (x : Deck) : (s.modChan d f).win x = s.win x := rfl
@[simp] theorem State.lane_modChan (d : Channel) (f : ChannelWork → ChannelWork) (x : Lane) : (s.modChan d f).lane x = s.lane x := rfl
@[simp] theorem State.bar_modChan (d : Channel) (f : ChannelWork → ChannelWork) (x : Barrier) : (s.modChan d f).bar x = s.bar x := rfl
@[simp] theorem State.inp_modChan (d : Channel) (f : ChannelWork → ChannelWork) (x : Input) : (s.modChan d f).inp x = s.inp x := rfl
@[simp] theorem State.port_modChan (d : Channel) (f : ChannelWork → ChannelWork) (x : Port) : (s.modChan d f).port x = s.port x := rfl
@[simp] theorem State.sup_modChan (d : Channel) (f : ChannelWork → ChannelWork) : (s.modChan d f).sup = s.sup := rfl
@[simp] theorem State.ms_modChan (d : Channel) (f : ChannelWork → ChannelWork) : (s.modChan d f).ms = s.ms := rfl
@[simp] theorem State.deckCfg_modChan (d : Channel) (f : ChannelWork → ChannelWork) (x : Deck) : (s.modChan d f).deckCfg x = s.deckCfg x := rfl
@[simp] theorem State.chanCfg_modChan (d : Channel) (f : ChannelWork → ChannelWork) (x : Channel) : (s.modChan d f).chanCfg x = s.chanCfg x := rfl
@[simp] theorem State.laneCfg_modChan (d : Channel) (f : ChannelWork → ChannelWork) (x : Lane) : (s.modChan d f).laneCfg x = s.laneCfg x := rfl
@[simp] theorem State.barCfg_modChan (d : Channel) (f : ChannelWork → ChannelWork) (x : Barrier) : (s.modChan d f).barCfg x = s.barCfg x := rfl
@[simp] theorem State.inpCfg_modChan (d : Channel) (f : ChannelWork → ChannelWork) (x : Input) : (s.modChan d f).inpCfg x = s.inpCfg x := rfl
@[simp] theorem State.portCfg_modChan (d : Channel) (f : ChannelWork → ChannelWork) (x : Port) : (s.modChan d f).portCfg x = s.portCfg x := rfl
@[simp] theorem State.mode_modChan (d : Channel) (f : ChannelWork → ChannelWork) : (s.modChan d f).mode = s.mode := rfl
@[simp] theorem State.calCounter_modChan (d : Channel) (f : ChannelWork → ChannelWork) : (s.modChan d f).backup.calCounter = s.backup.calCounter := rfl
@[simp] theorem State.lampInvert_modChan (d : Channel) (f : ChannelWork → ChannelWork) : (s.modChan d f).backup.lampInvert = s.backup.lampInvert := rfl
@[simp] theorem State.mask_modChan (d : Channel) (f : ChannelWork → ChannelWork) : (s.modChan d f).backup.mask = s.backup.mask := rfl
@[simp] theorem State.modeAt_modChan (d : Channel) (f : ChannelWork → ChannelWork) (x : ModeReader) : (s.modChan d f).modeAt x = s.modeAt x := rfl
@[simp] theorem State.supplyAt_modChan (d : Channel) (f : ChannelWork → ChannelWork) (x : SupplyReader) : (s.modChan d f).supplyAt x = s.supplyAt x := rfl
@[simp] theorem State.boomAtArbiter_modChan (d : Channel) (f : ChannelWork → ChannelWork) (x : Barrier) : (s.modChan d f).boomAtArbiter x = s.boomAtArbiter x := rfl
@[simp] theorem State.boomAtLane_modChan (d : Channel) (f : ChannelWork → ChannelWork) (l : Lane) (x : Barrier) : (s.modChan d f).boomAtLane l x = s.boomAtLane l x := rfl
@[simp] theorem State.raised_modChan (d : Channel) (f : ChannelWork → ChannelWork) : (s.modChan d f).main.raised = s.main.raised := rfl
@[simp] theorem State.check_modChan (d : Channel) (f : ChannelWork → ChannelWork) : (s.modChan d f).check = s.check := rfl
@[simp] theorem State.running_modChan (d : Channel) (f : ChannelWork → ChannelWork) : (s.modChan d f).running = s.running := rfl
@[simp] theorem State.pending_modChan (d : Channel) (f : ChannelWork → ChannelWork) : (s.modChan d f).pending = s.pending := rfl

/-! ### modLane -/

@[simp] theorem State.recs_modLane (d : Lane) (f : LaneWork → LaneWork) : (s.modLane d f).recs = s.recs := rfl
@[simp] theorem State.arb_modLane (d : Lane) (f : LaneWork → LaneWork) (x : Deck) : (s.modLane d f).arb x = s.arb x := rfl
@[simp] theorem State.eng_modLane (d : Lane) (f : LaneWork → LaneWork) (x : Deck) : (s.modLane d f).eng x = s.eng x := rfl
@[simp] theorem State.win_modLane (d : Lane) (f : LaneWork → LaneWork) (x : Deck) : (s.modLane d f).win x = s.win x := rfl
@[simp] theorem State.chan_modLane (d : Lane) (f : LaneWork → LaneWork) (x : Channel) : (s.modLane d f).chan x = s.chan x := rfl
@[simp] theorem State.bar_modLane (d : Lane) (f : LaneWork → LaneWork) (x : Barrier) : (s.modLane d f).bar x = s.bar x := rfl
@[simp] theorem State.inp_modLane (d : Lane) (f : LaneWork → LaneWork) (x : Input) : (s.modLane d f).inp x = s.inp x := rfl
@[simp] theorem State.port_modLane (d : Lane) (f : LaneWork → LaneWork) (x : Port) : (s.modLane d f).port x = s.port x := rfl
@[simp] theorem State.sup_modLane (d : Lane) (f : LaneWork → LaneWork) : (s.modLane d f).sup = s.sup := rfl
@[simp] theorem State.ms_modLane (d : Lane) (f : LaneWork → LaneWork) : (s.modLane d f).ms = s.ms := rfl
@[simp] theorem State.deckCfg_modLane (d : Lane) (f : LaneWork → LaneWork) (x : Deck) : (s.modLane d f).deckCfg x = s.deckCfg x := rfl
@[simp] theorem State.chanCfg_modLane (d : Lane) (f : LaneWork → LaneWork) (x : Channel) : (s.modLane d f).chanCfg x = s.chanCfg x := rfl
@[simp] theorem State.laneCfg_modLane (d : Lane) (f : LaneWork → LaneWork) (x : Lane) : (s.modLane d f).laneCfg x = s.laneCfg x := rfl
@[simp] theorem State.barCfg_modLane (d : Lane) (f : LaneWork → LaneWork) (x : Barrier) : (s.modLane d f).barCfg x = s.barCfg x := rfl
@[simp] theorem State.inpCfg_modLane (d : Lane) (f : LaneWork → LaneWork) (x : Input) : (s.modLane d f).inpCfg x = s.inpCfg x := rfl
@[simp] theorem State.portCfg_modLane (d : Lane) (f : LaneWork → LaneWork) (x : Port) : (s.modLane d f).portCfg x = s.portCfg x := rfl
@[simp] theorem State.mode_modLane (d : Lane) (f : LaneWork → LaneWork) : (s.modLane d f).mode = s.mode := rfl
@[simp] theorem State.calCounter_modLane (d : Lane) (f : LaneWork → LaneWork) : (s.modLane d f).backup.calCounter = s.backup.calCounter := rfl
@[simp] theorem State.lampInvert_modLane (d : Lane) (f : LaneWork → LaneWork) : (s.modLane d f).backup.lampInvert = s.backup.lampInvert := rfl
@[simp] theorem State.mask_modLane (d : Lane) (f : LaneWork → LaneWork) : (s.modLane d f).backup.mask = s.backup.mask := rfl
@[simp] theorem State.modeAt_modLane (d : Lane) (f : LaneWork → LaneWork) (x : ModeReader) : (s.modLane d f).modeAt x = s.modeAt x := rfl
@[simp] theorem State.supplyAt_modLane (d : Lane) (f : LaneWork → LaneWork) (x : SupplyReader) : (s.modLane d f).supplyAt x = s.supplyAt x := rfl
@[simp] theorem State.boomAtArbiter_modLane (d : Lane) (f : LaneWork → LaneWork) (x : Barrier) : (s.modLane d f).boomAtArbiter x = s.boomAtArbiter x := rfl
@[simp] theorem State.boomAtLane_modLane (d : Lane) (f : LaneWork → LaneWork) (l : Lane) (x : Barrier) : (s.modLane d f).boomAtLane l x = s.boomAtLane l x := rfl
@[simp] theorem State.raised_modLane (d : Lane) (f : LaneWork → LaneWork) : (s.modLane d f).main.raised = s.main.raised := rfl
@[simp] theorem State.check_modLane (d : Lane) (f : LaneWork → LaneWork) : (s.modLane d f).check = s.check := rfl
@[simp] theorem State.running_modLane (d : Lane) (f : LaneWork → LaneWork) : (s.modLane d f).running = s.running := rfl
@[simp] theorem State.pending_modLane (d : Lane) (f : LaneWork → LaneWork) : (s.modLane d f).pending = s.pending := rfl

/-! ### modBar -/

@[simp] theorem State.recs_modBar (d : Barrier) (f : BarrierWork → BarrierWork) : (s.modBar d f).recs = s.recs := rfl
@[simp] theorem State.arb_modBar (d : Barrier) (f : BarrierWork → BarrierWork) (x : Deck) : (s.modBar d f).arb x = s.arb x := rfl
@[simp] theorem State.eng_modBar (d : Barrier) (f : BarrierWork → BarrierWork) (x : Deck) : (s.modBar d f).eng x = s.eng x := rfl
@[simp] theorem State.win_modBar (d : Barrier) (f : BarrierWork → BarrierWork) (x : Deck) : (s.modBar d f).win x = s.win x := rfl
@[simp] theorem State.chan_modBar (d : Barrier) (f : BarrierWork → BarrierWork) (x : Channel) : (s.modBar d f).chan x = s.chan x := rfl
@[simp] theorem State.lane_modBar (d : Barrier) (f : BarrierWork → BarrierWork) (x : Lane) : (s.modBar d f).lane x = s.lane x := rfl
@[simp] theorem State.inp_modBar (d : Barrier) (f : BarrierWork → BarrierWork) (x : Input) : (s.modBar d f).inp x = s.inp x := rfl
@[simp] theorem State.port_modBar (d : Barrier) (f : BarrierWork → BarrierWork) (x : Port) : (s.modBar d f).port x = s.port x := rfl
@[simp] theorem State.sup_modBar (d : Barrier) (f : BarrierWork → BarrierWork) : (s.modBar d f).sup = s.sup := rfl
@[simp] theorem State.ms_modBar (d : Barrier) (f : BarrierWork → BarrierWork) : (s.modBar d f).ms = s.ms := rfl
@[simp] theorem State.deckCfg_modBar (d : Barrier) (f : BarrierWork → BarrierWork) (x : Deck) : (s.modBar d f).deckCfg x = s.deckCfg x := rfl
@[simp] theorem State.chanCfg_modBar (d : Barrier) (f : BarrierWork → BarrierWork) (x : Channel) : (s.modBar d f).chanCfg x = s.chanCfg x := rfl
@[simp] theorem State.laneCfg_modBar (d : Barrier) (f : BarrierWork → BarrierWork) (x : Lane) : (s.modBar d f).laneCfg x = s.laneCfg x := rfl
@[simp] theorem State.barCfg_modBar (d : Barrier) (f : BarrierWork → BarrierWork) (x : Barrier) : (s.modBar d f).barCfg x = s.barCfg x := rfl
@[simp] theorem State.inpCfg_modBar (d : Barrier) (f : BarrierWork → BarrierWork) (x : Input) : (s.modBar d f).inpCfg x = s.inpCfg x := rfl
@[simp] theorem State.portCfg_modBar (d : Barrier) (f : BarrierWork → BarrierWork) (x : Port) : (s.modBar d f).portCfg x = s.portCfg x := rfl
@[simp] theorem State.mode_modBar (d : Barrier) (f : BarrierWork → BarrierWork) : (s.modBar d f).mode = s.mode := rfl
@[simp] theorem State.calCounter_modBar (d : Barrier) (f : BarrierWork → BarrierWork) : (s.modBar d f).backup.calCounter = s.backup.calCounter := rfl
@[simp] theorem State.lampInvert_modBar (d : Barrier) (f : BarrierWork → BarrierWork) : (s.modBar d f).backup.lampInvert = s.backup.lampInvert := rfl
@[simp] theorem State.mask_modBar (d : Barrier) (f : BarrierWork → BarrierWork) : (s.modBar d f).backup.mask = s.backup.mask := rfl
@[simp] theorem State.modeAt_modBar (d : Barrier) (f : BarrierWork → BarrierWork) (x : ModeReader) : (s.modBar d f).modeAt x = s.modeAt x := rfl
@[simp] theorem State.supplyAt_modBar (d : Barrier) (f : BarrierWork → BarrierWork) (x : SupplyReader) : (s.modBar d f).supplyAt x = s.supplyAt x := rfl
@[simp] theorem State.boomAtArbiter_modBar (d : Barrier) (f : BarrierWork → BarrierWork) (x : Barrier) : (s.modBar d f).boomAtArbiter x = s.boomAtArbiter x := rfl
@[simp] theorem State.boomAtLane_modBar (d : Barrier) (f : BarrierWork → BarrierWork) (l : Lane) (x : Barrier) : (s.modBar d f).boomAtLane l x = s.boomAtLane l x := rfl
@[simp] theorem State.raised_modBar (d : Barrier) (f : BarrierWork → BarrierWork) : (s.modBar d f).main.raised = s.main.raised := rfl
@[simp] theorem State.check_modBar (d : Barrier) (f : BarrierWork → BarrierWork) : (s.modBar d f).check = s.check := rfl
@[simp] theorem State.running_modBar (d : Barrier) (f : BarrierWork → BarrierWork) : (s.modBar d f).running = s.running := rfl
@[simp] theorem State.pending_modBar (d : Barrier) (f : BarrierWork → BarrierWork) : (s.modBar d f).pending = s.pending := rfl

/-! ### modInp -/

@[simp] theorem State.recs_modInp (d : Input) (f : ConditionerWork → ConditionerWork) : (s.modInp d f).recs = s.recs := rfl
@[simp] theorem State.arb_modInp (d : Input) (f : ConditionerWork → ConditionerWork) (x : Deck) : (s.modInp d f).arb x = s.arb x := rfl
@[simp] theorem State.eng_modInp (d : Input) (f : ConditionerWork → ConditionerWork) (x : Deck) : (s.modInp d f).eng x = s.eng x := rfl
@[simp] theorem State.win_modInp (d : Input) (f : ConditionerWork → ConditionerWork) (x : Deck) : (s.modInp d f).win x = s.win x := rfl
@[simp] theorem State.chan_modInp (d : Input) (f : ConditionerWork → ConditionerWork) (x : Channel) : (s.modInp d f).chan x = s.chan x := rfl
@[simp] theorem State.lane_modInp (d : Input) (f : ConditionerWork → ConditionerWork) (x : Lane) : (s.modInp d f).lane x = s.lane x := rfl
@[simp] theorem State.bar_modInp (d : Input) (f : ConditionerWork → ConditionerWork) (x : Barrier) : (s.modInp d f).bar x = s.bar x := rfl
@[simp] theorem State.port_modInp (d : Input) (f : ConditionerWork → ConditionerWork) (x : Port) : (s.modInp d f).port x = s.port x := rfl
@[simp] theorem State.sup_modInp (d : Input) (f : ConditionerWork → ConditionerWork) : (s.modInp d f).sup = s.sup := rfl
@[simp] theorem State.ms_modInp (d : Input) (f : ConditionerWork → ConditionerWork) : (s.modInp d f).ms = s.ms := rfl
@[simp] theorem State.deckCfg_modInp (d : Input) (f : ConditionerWork → ConditionerWork) (x : Deck) : (s.modInp d f).deckCfg x = s.deckCfg x := rfl
@[simp] theorem State.chanCfg_modInp (d : Input) (f : ConditionerWork → ConditionerWork) (x : Channel) : (s.modInp d f).chanCfg x = s.chanCfg x := rfl
@[simp] theorem State.laneCfg_modInp (d : Input) (f : ConditionerWork → ConditionerWork) (x : Lane) : (s.modInp d f).laneCfg x = s.laneCfg x := rfl
@[simp] theorem State.barCfg_modInp (d : Input) (f : ConditionerWork → ConditionerWork) (x : Barrier) : (s.modInp d f).barCfg x = s.barCfg x := rfl
@[simp] theorem State.inpCfg_modInp (d : Input) (f : ConditionerWork → ConditionerWork) (x : Input) : (s.modInp d f).inpCfg x = s.inpCfg x := rfl
@[simp] theorem State.portCfg_modInp (d : Input) (f : ConditionerWork → ConditionerWork) (x : Port) : (s.modInp d f).portCfg x = s.portCfg x := rfl
@[simp] theorem State.mode_modInp (d : Input) (f : ConditionerWork → ConditionerWork) : (s.modInp d f).mode = s.mode := rfl
@[simp] theorem State.calCounter_modInp (d : Input) (f : ConditionerWork → ConditionerWork) : (s.modInp d f).backup.calCounter = s.backup.calCounter := rfl
@[simp] theorem State.lampInvert_modInp (d : Input) (f : ConditionerWork → ConditionerWork) : (s.modInp d f).backup.lampInvert = s.backup.lampInvert := rfl
@[simp] theorem State.mask_modInp (d : Input) (f : ConditionerWork → ConditionerWork) : (s.modInp d f).backup.mask = s.backup.mask := rfl
@[simp] theorem State.modeAt_modInp (d : Input) (f : ConditionerWork → ConditionerWork) (x : ModeReader) : (s.modInp d f).modeAt x = s.modeAt x := rfl
@[simp] theorem State.supplyAt_modInp (d : Input) (f : ConditionerWork → ConditionerWork) (x : SupplyReader) : (s.modInp d f).supplyAt x = s.supplyAt x := rfl
@[simp] theorem State.boomAtArbiter_modInp (d : Input) (f : ConditionerWork → ConditionerWork) (x : Barrier) : (s.modInp d f).boomAtArbiter x = s.boomAtArbiter x := rfl
@[simp] theorem State.boomAtLane_modInp (d : Input) (f : ConditionerWork → ConditionerWork) (l : Lane) (x : Barrier) : (s.modInp d f).boomAtLane l x = s.boomAtLane l x := rfl
@[simp] theorem State.raised_modInp (d : Input) (f : ConditionerWork → ConditionerWork) : (s.modInp d f).main.raised = s.main.raised := rfl
@[simp] theorem State.check_modInp (d : Input) (f : ConditionerWork → ConditionerWork) : (s.modInp d f).check = s.check := rfl
@[simp] theorem State.running_modInp (d : Input) (f : ConditionerWork → ConditionerWork) : (s.modInp d f).running = s.running := rfl
@[simp] theorem State.pending_modInp (d : Input) (f : ConditionerWork → ConditionerWork) : (s.modInp d f).pending = s.pending := rfl

/-! ### modPort -/

@[simp] theorem State.recs_modPort (d : Port) (f : PortWork → PortWork) : (s.modPort d f).recs = s.recs := rfl
@[simp] theorem State.arb_modPort (d : Port) (f : PortWork → PortWork) (x : Deck) : (s.modPort d f).arb x = s.arb x := rfl
@[simp] theorem State.eng_modPort (d : Port) (f : PortWork → PortWork) (x : Deck) : (s.modPort d f).eng x = s.eng x := rfl
@[simp] theorem State.win_modPort (d : Port) (f : PortWork → PortWork) (x : Deck) : (s.modPort d f).win x = s.win x := rfl
@[simp] theorem State.chan_modPort (d : Port) (f : PortWork → PortWork) (x : Channel) : (s.modPort d f).chan x = s.chan x := rfl
@[simp] theorem State.lane_modPort (d : Port) (f : PortWork → PortWork) (x : Lane) : (s.modPort d f).lane x = s.lane x := rfl
@[simp] theorem State.bar_modPort (d : Port) (f : PortWork → PortWork) (x : Barrier) : (s.modPort d f).bar x = s.bar x := rfl
@[simp] theorem State.inp_modPort (d : Port) (f : PortWork → PortWork) (x : Input) : (s.modPort d f).inp x = s.inp x := rfl
@[simp] theorem State.sup_modPort (d : Port) (f : PortWork → PortWork) : (s.modPort d f).sup = s.sup := rfl
@[simp] theorem State.ms_modPort (d : Port) (f : PortWork → PortWork) : (s.modPort d f).ms = s.ms := rfl
@[simp] theorem State.deckCfg_modPort (d : Port) (f : PortWork → PortWork) (x : Deck) : (s.modPort d f).deckCfg x = s.deckCfg x := rfl
@[simp] theorem State.chanCfg_modPort (d : Port) (f : PortWork → PortWork) (x : Channel) : (s.modPort d f).chanCfg x = s.chanCfg x := rfl
@[simp] theorem State.laneCfg_modPort (d : Port) (f : PortWork → PortWork) (x : Lane) : (s.modPort d f).laneCfg x = s.laneCfg x := rfl
@[simp] theorem State.barCfg_modPort (d : Port) (f : PortWork → PortWork) (x : Barrier) : (s.modPort d f).barCfg x = s.barCfg x := rfl
@[simp] theorem State.inpCfg_modPort (d : Port) (f : PortWork → PortWork) (x : Input) : (s.modPort d f).inpCfg x = s.inpCfg x := rfl
@[simp] theorem State.portCfg_modPort (d : Port) (f : PortWork → PortWork) (x : Port) : (s.modPort d f).portCfg x = s.portCfg x := rfl
@[simp] theorem State.mode_modPort (d : Port) (f : PortWork → PortWork) : (s.modPort d f).mode = s.mode := rfl
@[simp] theorem State.calCounter_modPort (d : Port) (f : PortWork → PortWork) : (s.modPort d f).backup.calCounter = s.backup.calCounter := rfl
@[simp] theorem State.lampInvert_modPort (d : Port) (f : PortWork → PortWork) : (s.modPort d f).backup.lampInvert = s.backup.lampInvert := rfl
@[simp] theorem State.mask_modPort (d : Port) (f : PortWork → PortWork) : (s.modPort d f).backup.mask = s.backup.mask := rfl
@[simp] theorem State.modeAt_modPort (d : Port) (f : PortWork → PortWork) (x : ModeReader) : (s.modPort d f).modeAt x = s.modeAt x := rfl
@[simp] theorem State.supplyAt_modPort (d : Port) (f : PortWork → PortWork) (x : SupplyReader) : (s.modPort d f).supplyAt x = s.supplyAt x := rfl
@[simp] theorem State.boomAtArbiter_modPort (d : Port) (f : PortWork → PortWork) (x : Barrier) : (s.modPort d f).boomAtArbiter x = s.boomAtArbiter x := rfl
@[simp] theorem State.boomAtLane_modPort (d : Port) (f : PortWork → PortWork) (l : Lane) (x : Barrier) : (s.modPort d f).boomAtLane l x = s.boomAtLane l x := rfl
@[simp] theorem State.raised_modPort (d : Port) (f : PortWork → PortWork) : (s.modPort d f).main.raised = s.main.raised := rfl
@[simp] theorem State.check_modPort (d : Port) (f : PortWork → PortWork) : (s.modPort d f).check = s.check := rfl
@[simp] theorem State.running_modPort (d : Port) (f : PortWork → PortWork) : (s.modPort d f).running = s.running := rfl
@[simp] theorem State.pending_modPort (d : Port) (f : PortWork → PortWork) : (s.modPort d f).pending = s.pending := rfl

/-! ### modPorts -/

@[simp] theorem State.recs_modPorts (f : PortWork → PortWork) : (s.modPorts f).recs = s.recs := rfl
@[simp] theorem State.arb_modPorts (f : PortWork → PortWork) (x : Deck) : (s.modPorts f).arb x = s.arb x := rfl
@[simp] theorem State.eng_modPorts (f : PortWork → PortWork) (x : Deck) : (s.modPorts f).eng x = s.eng x := rfl
@[simp] theorem State.win_modPorts (f : PortWork → PortWork) (x : Deck) : (s.modPorts f).win x = s.win x := rfl
@[simp] theorem State.chan_modPorts (f : PortWork → PortWork) (x : Channel) : (s.modPorts f).chan x = s.chan x := rfl
@[simp] theorem State.lane_modPorts (f : PortWork → PortWork) (x : Lane) : (s.modPorts f).lane x = s.lane x := rfl
@[simp] theorem State.bar_modPorts (f : PortWork → PortWork) (x : Barrier) : (s.modPorts f).bar x = s.bar x := rfl
@[simp] theorem State.inp_modPorts (f : PortWork → PortWork) (x : Input) : (s.modPorts f).inp x = s.inp x := rfl
@[simp] theorem State.sup_modPorts (f : PortWork → PortWork) : (s.modPorts f).sup = s.sup := rfl
@[simp] theorem State.ms_modPorts (f : PortWork → PortWork) : (s.modPorts f).ms = s.ms := rfl
@[simp] theorem State.deckCfg_modPorts (f : PortWork → PortWork) (x : Deck) : (s.modPorts f).deckCfg x = s.deckCfg x := rfl
@[simp] theorem State.chanCfg_modPorts (f : PortWork → PortWork) (x : Channel) : (s.modPorts f).chanCfg x = s.chanCfg x := rfl
@[simp] theorem State.laneCfg_modPorts (f : PortWork → PortWork) (x : Lane) : (s.modPorts f).laneCfg x = s.laneCfg x := rfl
@[simp] theorem State.barCfg_modPorts (f : PortWork → PortWork) (x : Barrier) : (s.modPorts f).barCfg x = s.barCfg x := rfl
@[simp] theorem State.inpCfg_modPorts (f : PortWork → PortWork) (x : Input) : (s.modPorts f).inpCfg x = s.inpCfg x := rfl
@[simp] theorem State.portCfg_modPorts (f : PortWork → PortWork) (x : Port) : (s.modPorts f).portCfg x = s.portCfg x := rfl
@[simp] theorem State.mode_modPorts (f : PortWork → PortWork) : (s.modPorts f).mode = s.mode := rfl
@[simp] theorem State.calCounter_modPorts (f : PortWork → PortWork) : (s.modPorts f).backup.calCounter = s.backup.calCounter := rfl
@[simp] theorem State.lampInvert_modPorts (f : PortWork → PortWork) : (s.modPorts f).backup.lampInvert = s.backup.lampInvert := rfl
@[simp] theorem State.mask_modPorts (f : PortWork → PortWork) : (s.modPorts f).backup.mask = s.backup.mask := rfl
@[simp] theorem State.modeAt_modPorts (f : PortWork → PortWork) (x : ModeReader) : (s.modPorts f).modeAt x = s.modeAt x := rfl
@[simp] theorem State.supplyAt_modPorts (f : PortWork → PortWork) (x : SupplyReader) : (s.modPorts f).supplyAt x = s.supplyAt x := rfl
@[simp] theorem State.boomAtArbiter_modPorts (f : PortWork → PortWork) (x : Barrier) : (s.modPorts f).boomAtArbiter x = s.boomAtArbiter x := rfl
@[simp] theorem State.boomAtLane_modPorts (f : PortWork → PortWork) (l : Lane) (x : Barrier) : (s.modPorts f).boomAtLane l x = s.boomAtLane l x := rfl
@[simp] theorem State.raised_modPorts (f : PortWork → PortWork) : (s.modPorts f).main.raised = s.main.raised := rfl
@[simp] theorem State.check_modPorts (f : PortWork → PortWork) : (s.modPorts f).check = s.check := rfl
@[simp] theorem State.running_modPorts (f : PortWork → PortWork) : (s.modPorts f).running = s.running := rfl
@[simp] theorem State.pending_modPorts (f : PortWork → PortWork) : (s.modPorts f).pending = s.pending := rfl

/-! ### modSup -/

@[simp] theorem State.recs_modSup (f : Supervisor → Supervisor) : (s.modSup f).recs = s.recs := rfl
@[simp] theorem State.arb_modSup (f : Supervisor → Supervisor) (x : Deck) : (s.modSup f).arb x = s.arb x := rfl
@[simp] theorem State.eng_modSup (f : Supervisor → Supervisor) (x : Deck) : (s.modSup f).eng x = s.eng x := rfl
@[simp] theorem State.win_modSup (f : Supervisor → Supervisor) (x : Deck) : (s.modSup f).win x = s.win x := rfl
@[simp] theorem State.chan_modSup (f : Supervisor → Supervisor) (x : Channel) : (s.modSup f).chan x = s.chan x := rfl
@[simp] theorem State.lane_modSup (f : Supervisor → Supervisor) (x : Lane) : (s.modSup f).lane x = s.lane x := rfl
@[simp] theorem State.bar_modSup (f : Supervisor → Supervisor) (x : Barrier) : (s.modSup f).bar x = s.bar x := rfl
@[simp] theorem State.inp_modSup (f : Supervisor → Supervisor) (x : Input) : (s.modSup f).inp x = s.inp x := rfl
@[simp] theorem State.port_modSup (f : Supervisor → Supervisor) (x : Port) : (s.modSup f).port x = s.port x := rfl
@[simp] theorem State.deckCfg_modSup (f : Supervisor → Supervisor) (x : Deck) : (s.modSup f).deckCfg x = s.deckCfg x := rfl
@[simp] theorem State.chanCfg_modSup (f : Supervisor → Supervisor) (x : Channel) : (s.modSup f).chanCfg x = s.chanCfg x := rfl
@[simp] theorem State.laneCfg_modSup (f : Supervisor → Supervisor) (x : Lane) : (s.modSup f).laneCfg x = s.laneCfg x := rfl
@[simp] theorem State.barCfg_modSup (f : Supervisor → Supervisor) (x : Barrier) : (s.modSup f).barCfg x = s.barCfg x := rfl
@[simp] theorem State.inpCfg_modSup (f : Supervisor → Supervisor) (x : Input) : (s.modSup f).inpCfg x = s.inpCfg x := rfl
@[simp] theorem State.portCfg_modSup (f : Supervisor → Supervisor) (x : Port) : (s.modSup f).portCfg x = s.portCfg x := rfl
@[simp] theorem State.mode_modSup (f : Supervisor → Supervisor) : (s.modSup f).mode = s.mode := rfl
@[simp] theorem State.calCounter_modSup (f : Supervisor → Supervisor) : (s.modSup f).backup.calCounter = s.backup.calCounter := rfl
@[simp] theorem State.lampInvert_modSup (f : Supervisor → Supervisor) : (s.modSup f).backup.lampInvert = s.backup.lampInvert := rfl
@[simp] theorem State.mask_modSup (f : Supervisor → Supervisor) : (s.modSup f).backup.mask = s.backup.mask := rfl
@[simp] theorem State.modeAt_modSup (f : Supervisor → Supervisor) (x : ModeReader) : (s.modSup f).modeAt x = s.modeAt x := rfl
@[simp] theorem State.supplyAt_modSup (f : Supervisor → Supervisor) (x : SupplyReader) : (s.modSup f).supplyAt x = s.supplyAt x := rfl
@[simp] theorem State.boomAtArbiter_modSup (f : Supervisor → Supervisor) (x : Barrier) : (s.modSup f).boomAtArbiter x = s.boomAtArbiter x := rfl
@[simp] theorem State.boomAtLane_modSup (f : Supervisor → Supervisor) (l : Lane) (x : Barrier) : (s.modSup f).boomAtLane l x = s.boomAtLane l x := rfl
@[simp] theorem State.raised_modSup (f : Supervisor → Supervisor) : (s.modSup f).main.raised = s.main.raised := rfl
@[simp] theorem State.check_modSup (f : Supervisor → Supervisor) : (s.modSup f).check = s.check := rfl
@[simp] theorem State.running_modSup (f : Supervisor → Supervisor) : (s.modSup f).running = s.running := rfl
@[simp] theorem State.pending_modSup (f : Supervisor → Supervisor) : (s.modSup f).pending = s.pending := rfl

/-! ### modDeckCfg -/

@[simp] theorem State.recs_modDeckCfg (d : Deck) (f : DeckCfg → DeckCfg) : (s.modDeckCfg d f).recs = s.recs := rfl
@[simp] theorem State.arb_modDeckCfg (d : Deck) (f : DeckCfg → DeckCfg) (x : Deck) : (s.modDeckCfg d f).arb x = s.arb x := rfl
@[simp] theorem State.eng_modDeckCfg (d : Deck) (f : DeckCfg → DeckCfg) (x : Deck) : (s.modDeckCfg d f).eng x = s.eng x := rfl
@[simp] theorem State.win_modDeckCfg (d : Deck) (f : DeckCfg → DeckCfg) (x : Deck) : (s.modDeckCfg d f).win x = s.win x := rfl
@[simp] theorem State.chan_modDeckCfg (d : Deck) (f : DeckCfg → DeckCfg) (x : Channel) : (s.modDeckCfg d f).chan x = s.chan x := rfl
@[simp] theorem State.lane_modDeckCfg (d : Deck) (f : DeckCfg → DeckCfg) (x : Lane) : (s.modDeckCfg d f).lane x = s.lane x := rfl
@[simp] theorem State.bar_modDeckCfg (d : Deck) (f : DeckCfg → DeckCfg) (x : Barrier) : (s.modDeckCfg d f).bar x = s.bar x := rfl
@[simp] theorem State.inp_modDeckCfg (d : Deck) (f : DeckCfg → DeckCfg) (x : Input) : (s.modDeckCfg d f).inp x = s.inp x := rfl
@[simp] theorem State.port_modDeckCfg (d : Deck) (f : DeckCfg → DeckCfg) (x : Port) : (s.modDeckCfg d f).port x = s.port x := rfl
@[simp] theorem State.sup_modDeckCfg (d : Deck) (f : DeckCfg → DeckCfg) : (s.modDeckCfg d f).sup = s.sup := rfl
@[simp] theorem State.ms_modDeckCfg (d : Deck) (f : DeckCfg → DeckCfg) : (s.modDeckCfg d f).ms = s.ms := rfl
@[simp] theorem State.chanCfg_modDeckCfg (d : Deck) (f : DeckCfg → DeckCfg) (x : Channel) : (s.modDeckCfg d f).chanCfg x = s.chanCfg x := rfl
@[simp] theorem State.laneCfg_modDeckCfg (d : Deck) (f : DeckCfg → DeckCfg) (x : Lane) : (s.modDeckCfg d f).laneCfg x = s.laneCfg x := rfl
@[simp] theorem State.barCfg_modDeckCfg (d : Deck) (f : DeckCfg → DeckCfg) (x : Barrier) : (s.modDeckCfg d f).barCfg x = s.barCfg x := rfl
@[simp] theorem State.inpCfg_modDeckCfg (d : Deck) (f : DeckCfg → DeckCfg) (x : Input) : (s.modDeckCfg d f).inpCfg x = s.inpCfg x := rfl
@[simp] theorem State.portCfg_modDeckCfg (d : Deck) (f : DeckCfg → DeckCfg) (x : Port) : (s.modDeckCfg d f).portCfg x = s.portCfg x := rfl
@[simp] theorem State.mode_modDeckCfg (d : Deck) (f : DeckCfg → DeckCfg) : (s.modDeckCfg d f).mode = s.mode := rfl
@[simp] theorem State.calCounter_modDeckCfg (d : Deck) (f : DeckCfg → DeckCfg) : (s.modDeckCfg d f).backup.calCounter = s.backup.calCounter := rfl
@[simp] theorem State.lampInvert_modDeckCfg (d : Deck) (f : DeckCfg → DeckCfg) : (s.modDeckCfg d f).backup.lampInvert = s.backup.lampInvert := rfl
@[simp] theorem State.mask_modDeckCfg (d : Deck) (f : DeckCfg → DeckCfg) : (s.modDeckCfg d f).backup.mask = s.backup.mask := rfl
@[simp] theorem State.modeAt_modDeckCfg (d : Deck) (f : DeckCfg → DeckCfg) (x : ModeReader) : (s.modDeckCfg d f).modeAt x = s.modeAt x := rfl
@[simp] theorem State.supplyAt_modDeckCfg (d : Deck) (f : DeckCfg → DeckCfg) (x : SupplyReader) : (s.modDeckCfg d f).supplyAt x = s.supplyAt x := rfl
@[simp] theorem State.boomAtArbiter_modDeckCfg (d : Deck) (f : DeckCfg → DeckCfg) (x : Barrier) : (s.modDeckCfg d f).boomAtArbiter x = s.boomAtArbiter x := rfl
@[simp] theorem State.boomAtLane_modDeckCfg (d : Deck) (f : DeckCfg → DeckCfg) (l : Lane) (x : Barrier) : (s.modDeckCfg d f).boomAtLane l x = s.boomAtLane l x := rfl
@[simp] theorem State.raised_modDeckCfg (d : Deck) (f : DeckCfg → DeckCfg) : (s.modDeckCfg d f).main.raised = s.main.raised := rfl
@[simp] theorem State.check_modDeckCfg (d : Deck) (f : DeckCfg → DeckCfg) : (s.modDeckCfg d f).check = s.check := rfl
@[simp] theorem State.running_modDeckCfg (d : Deck) (f : DeckCfg → DeckCfg) : (s.modDeckCfg d f).running = s.running := rfl
@[simp] theorem State.pending_modDeckCfg (d : Deck) (f : DeckCfg → DeckCfg) : (s.modDeckCfg d f).pending = s.pending := rfl

/-! ### modChanCfg -/

@[simp] theorem State.recs_modChanCfg (d : Channel) (f : ChannelCfg → ChannelCfg) : (s.modChanCfg d f).recs = s.recs := rfl
@[simp] theorem State.arb_modChanCfg (d : Channel) (f : ChannelCfg → ChannelCfg) (x : Deck) : (s.modChanCfg d f).arb x = s.arb x := rfl
@[simp] theorem State.eng_modChanCfg (d : Channel) (f : ChannelCfg → ChannelCfg) (x : Deck) : (s.modChanCfg d f).eng x = s.eng x := rfl
@[simp] theorem State.win_modChanCfg (d : Channel) (f : ChannelCfg → ChannelCfg) (x : Deck) : (s.modChanCfg d f).win x = s.win x := rfl
@[simp] theorem State.chan_modChanCfg (d : Channel) (f : ChannelCfg → ChannelCfg) (x : Channel) : (s.modChanCfg d f).chan x = s.chan x := rfl
@[simp] theorem State.lane_modChanCfg (d : Channel) (f : ChannelCfg → ChannelCfg) (x : Lane) : (s.modChanCfg d f).lane x = s.lane x := rfl
@[simp] theorem State.bar_modChanCfg (d : Channel) (f : ChannelCfg → ChannelCfg) (x : Barrier) : (s.modChanCfg d f).bar x = s.bar x := rfl
@[simp] theorem State.inp_modChanCfg (d : Channel) (f : ChannelCfg → ChannelCfg) (x : Input) : (s.modChanCfg d f).inp x = s.inp x := rfl
@[simp] theorem State.port_modChanCfg (d : Channel) (f : ChannelCfg → ChannelCfg) (x : Port) : (s.modChanCfg d f).port x = s.port x := rfl
@[simp] theorem State.sup_modChanCfg (d : Channel) (f : ChannelCfg → ChannelCfg) : (s.modChanCfg d f).sup = s.sup := rfl
@[simp] theorem State.ms_modChanCfg (d : Channel) (f : ChannelCfg → ChannelCfg) : (s.modChanCfg d f).ms = s.ms := rfl
@[simp] theorem State.deckCfg_modChanCfg (d : Channel) (f : ChannelCfg → ChannelCfg) (x : Deck) : (s.modChanCfg d f).deckCfg x = s.deckCfg x := rfl
@[simp] theorem State.laneCfg_modChanCfg (d : Channel) (f : ChannelCfg → ChannelCfg) (x : Lane) : (s.modChanCfg d f).laneCfg x = s.laneCfg x := rfl
@[simp] theorem State.barCfg_modChanCfg (d : Channel) (f : ChannelCfg → ChannelCfg) (x : Barrier) : (s.modChanCfg d f).barCfg x = s.barCfg x := rfl
@[simp] theorem State.inpCfg_modChanCfg (d : Channel) (f : ChannelCfg → ChannelCfg) (x : Input) : (s.modChanCfg d f).inpCfg x = s.inpCfg x := rfl
@[simp] theorem State.portCfg_modChanCfg (d : Channel) (f : ChannelCfg → ChannelCfg) (x : Port) : (s.modChanCfg d f).portCfg x = s.portCfg x := rfl
@[simp] theorem State.mode_modChanCfg (d : Channel) (f : ChannelCfg → ChannelCfg) : (s.modChanCfg d f).mode = s.mode := rfl
@[simp] theorem State.calCounter_modChanCfg (d : Channel) (f : ChannelCfg → ChannelCfg) : (s.modChanCfg d f).backup.calCounter = s.backup.calCounter := rfl
@[simp] theorem State.lampInvert_modChanCfg (d : Channel) (f : ChannelCfg → ChannelCfg) : (s.modChanCfg d f).backup.lampInvert = s.backup.lampInvert := rfl
@[simp] theorem State.mask_modChanCfg (d : Channel) (f : ChannelCfg → ChannelCfg) : (s.modChanCfg d f).backup.mask = s.backup.mask := rfl
@[simp] theorem State.modeAt_modChanCfg (d : Channel) (f : ChannelCfg → ChannelCfg) (x : ModeReader) : (s.modChanCfg d f).modeAt x = s.modeAt x := rfl
@[simp] theorem State.supplyAt_modChanCfg (d : Channel) (f : ChannelCfg → ChannelCfg) (x : SupplyReader) : (s.modChanCfg d f).supplyAt x = s.supplyAt x := rfl
@[simp] theorem State.boomAtArbiter_modChanCfg (d : Channel) (f : ChannelCfg → ChannelCfg) (x : Barrier) : (s.modChanCfg d f).boomAtArbiter x = s.boomAtArbiter x := rfl
@[simp] theorem State.boomAtLane_modChanCfg (d : Channel) (f : ChannelCfg → ChannelCfg) (l : Lane) (x : Barrier) : (s.modChanCfg d f).boomAtLane l x = s.boomAtLane l x := rfl
@[simp] theorem State.raised_modChanCfg (d : Channel) (f : ChannelCfg → ChannelCfg) : (s.modChanCfg d f).main.raised = s.main.raised := rfl
@[simp] theorem State.check_modChanCfg (d : Channel) (f : ChannelCfg → ChannelCfg) : (s.modChanCfg d f).check = s.check := rfl
@[simp] theorem State.running_modChanCfg (d : Channel) (f : ChannelCfg → ChannelCfg) : (s.modChanCfg d f).running = s.running := rfl
@[simp] theorem State.pending_modChanCfg (d : Channel) (f : ChannelCfg → ChannelCfg) : (s.modChanCfg d f).pending = s.pending := rfl

/-! ### modLaneCfg -/

@[simp] theorem State.recs_modLaneCfg (d : Lane) (f : LaneCfg → LaneCfg) : (s.modLaneCfg d f).recs = s.recs := rfl
@[simp] theorem State.arb_modLaneCfg (d : Lane) (f : LaneCfg → LaneCfg) (x : Deck) : (s.modLaneCfg d f).arb x = s.arb x := rfl
@[simp] theorem State.eng_modLaneCfg (d : Lane) (f : LaneCfg → LaneCfg) (x : Deck) : (s.modLaneCfg d f).eng x = s.eng x := rfl
@[simp] theorem State.win_modLaneCfg (d : Lane) (f : LaneCfg → LaneCfg) (x : Deck) : (s.modLaneCfg d f).win x = s.win x := rfl
@[simp] theorem State.chan_modLaneCfg (d : Lane) (f : LaneCfg → LaneCfg) (x : Channel) : (s.modLaneCfg d f).chan x = s.chan x := rfl
@[simp] theorem State.lane_modLaneCfg (d : Lane) (f : LaneCfg → LaneCfg) (x : Lane) : (s.modLaneCfg d f).lane x = s.lane x := rfl
@[simp] theorem State.bar_modLaneCfg (d : Lane) (f : LaneCfg → LaneCfg) (x : Barrier) : (s.modLaneCfg d f).bar x = s.bar x := rfl
@[simp] theorem State.inp_modLaneCfg (d : Lane) (f : LaneCfg → LaneCfg) (x : Input) : (s.modLaneCfg d f).inp x = s.inp x := rfl
@[simp] theorem State.port_modLaneCfg (d : Lane) (f : LaneCfg → LaneCfg) (x : Port) : (s.modLaneCfg d f).port x = s.port x := rfl
@[simp] theorem State.sup_modLaneCfg (d : Lane) (f : LaneCfg → LaneCfg) : (s.modLaneCfg d f).sup = s.sup := rfl
@[simp] theorem State.ms_modLaneCfg (d : Lane) (f : LaneCfg → LaneCfg) : (s.modLaneCfg d f).ms = s.ms := rfl
@[simp] theorem State.deckCfg_modLaneCfg (d : Lane) (f : LaneCfg → LaneCfg) (x : Deck) : (s.modLaneCfg d f).deckCfg x = s.deckCfg x := rfl
@[simp] theorem State.chanCfg_modLaneCfg (d : Lane) (f : LaneCfg → LaneCfg) (x : Channel) : (s.modLaneCfg d f).chanCfg x = s.chanCfg x := rfl
@[simp] theorem State.barCfg_modLaneCfg (d : Lane) (f : LaneCfg → LaneCfg) (x : Barrier) : (s.modLaneCfg d f).barCfg x = s.barCfg x := rfl
@[simp] theorem State.inpCfg_modLaneCfg (d : Lane) (f : LaneCfg → LaneCfg) (x : Input) : (s.modLaneCfg d f).inpCfg x = s.inpCfg x := rfl
@[simp] theorem State.portCfg_modLaneCfg (d : Lane) (f : LaneCfg → LaneCfg) (x : Port) : (s.modLaneCfg d f).portCfg x = s.portCfg x := rfl
@[simp] theorem State.mode_modLaneCfg (d : Lane) (f : LaneCfg → LaneCfg) : (s.modLaneCfg d f).mode = s.mode := rfl
@[simp] theorem State.calCounter_modLaneCfg (d : Lane) (f : LaneCfg → LaneCfg) : (s.modLaneCfg d f).backup.calCounter = s.backup.calCounter := rfl
@[simp] theorem State.lampInvert_modLaneCfg (d : Lane) (f : LaneCfg → LaneCfg) : (s.modLaneCfg d f).backup.lampInvert = s.backup.lampInvert := rfl
@[simp] theorem State.mask_modLaneCfg (d : Lane) (f : LaneCfg → LaneCfg) : (s.modLaneCfg d f).backup.mask = s.backup.mask := rfl
@[simp] theorem State.modeAt_modLaneCfg (d : Lane) (f : LaneCfg → LaneCfg) (x : ModeReader) : (s.modLaneCfg d f).modeAt x = s.modeAt x := rfl
@[simp] theorem State.supplyAt_modLaneCfg (d : Lane) (f : LaneCfg → LaneCfg) (x : SupplyReader) : (s.modLaneCfg d f).supplyAt x = s.supplyAt x := rfl
@[simp] theorem State.boomAtArbiter_modLaneCfg (d : Lane) (f : LaneCfg → LaneCfg) (x : Barrier) : (s.modLaneCfg d f).boomAtArbiter x = s.boomAtArbiter x := rfl
@[simp] theorem State.boomAtLane_modLaneCfg (d : Lane) (f : LaneCfg → LaneCfg) (l : Lane) (x : Barrier) : (s.modLaneCfg d f).boomAtLane l x = s.boomAtLane l x := rfl
@[simp] theorem State.raised_modLaneCfg (d : Lane) (f : LaneCfg → LaneCfg) : (s.modLaneCfg d f).main.raised = s.main.raised := rfl
@[simp] theorem State.check_modLaneCfg (d : Lane) (f : LaneCfg → LaneCfg) : (s.modLaneCfg d f).check = s.check := rfl
@[simp] theorem State.running_modLaneCfg (d : Lane) (f : LaneCfg → LaneCfg) : (s.modLaneCfg d f).running = s.running := rfl
@[simp] theorem State.pending_modLaneCfg (d : Lane) (f : LaneCfg → LaneCfg) : (s.modLaneCfg d f).pending = s.pending := rfl

/-! ### modBarCfg -/

@[simp] theorem State.recs_modBarCfg (d : Barrier) (f : BarrierCfg → BarrierCfg) : (s.modBarCfg d f).recs = s.recs := rfl
@[simp] theorem State.arb_modBarCfg (d : Barrier) (f : BarrierCfg → BarrierCfg) (x : Deck) : (s.modBarCfg d f).arb x = s.arb x := rfl
@[simp] theorem State.eng_modBarCfg (d : Barrier) (f : BarrierCfg → BarrierCfg) (x : Deck) : (s.modBarCfg d f).eng x = s.eng x := rfl
@[simp] theorem State.win_modBarCfg (d : Barrier) (f : BarrierCfg → BarrierCfg) (x : Deck) : (s.modBarCfg d f).win x = s.win x := rfl
@[simp] theorem State.chan_modBarCfg (d : Barrier) (f : BarrierCfg → BarrierCfg) (x : Channel) : (s.modBarCfg d f).chan x = s.chan x := rfl
@[simp] theorem State.lane_modBarCfg (d : Barrier) (f : BarrierCfg → BarrierCfg) (x : Lane) : (s.modBarCfg d f).lane x = s.lane x := rfl
@[simp] theorem State.bar_modBarCfg (d : Barrier) (f : BarrierCfg → BarrierCfg) (x : Barrier) : (s.modBarCfg d f).bar x = s.bar x := rfl
@[simp] theorem State.inp_modBarCfg (d : Barrier) (f : BarrierCfg → BarrierCfg) (x : Input) : (s.modBarCfg d f).inp x = s.inp x := rfl
@[simp] theorem State.port_modBarCfg (d : Barrier) (f : BarrierCfg → BarrierCfg) (x : Port) : (s.modBarCfg d f).port x = s.port x := rfl
@[simp] theorem State.sup_modBarCfg (d : Barrier) (f : BarrierCfg → BarrierCfg) : (s.modBarCfg d f).sup = s.sup := rfl
@[simp] theorem State.ms_modBarCfg (d : Barrier) (f : BarrierCfg → BarrierCfg) : (s.modBarCfg d f).ms = s.ms := rfl
@[simp] theorem State.deckCfg_modBarCfg (d : Barrier) (f : BarrierCfg → BarrierCfg) (x : Deck) : (s.modBarCfg d f).deckCfg x = s.deckCfg x := rfl
@[simp] theorem State.chanCfg_modBarCfg (d : Barrier) (f : BarrierCfg → BarrierCfg) (x : Channel) : (s.modBarCfg d f).chanCfg x = s.chanCfg x := rfl
@[simp] theorem State.laneCfg_modBarCfg (d : Barrier) (f : BarrierCfg → BarrierCfg) (x : Lane) : (s.modBarCfg d f).laneCfg x = s.laneCfg x := rfl
@[simp] theorem State.inpCfg_modBarCfg (d : Barrier) (f : BarrierCfg → BarrierCfg) (x : Input) : (s.modBarCfg d f).inpCfg x = s.inpCfg x := rfl
@[simp] theorem State.portCfg_modBarCfg (d : Barrier) (f : BarrierCfg → BarrierCfg) (x : Port) : (s.modBarCfg d f).portCfg x = s.portCfg x := rfl
@[simp] theorem State.mode_modBarCfg (d : Barrier) (f : BarrierCfg → BarrierCfg) : (s.modBarCfg d f).mode = s.mode := rfl
@[simp] theorem State.calCounter_modBarCfg (d : Barrier) (f : BarrierCfg → BarrierCfg) : (s.modBarCfg d f).backup.calCounter = s.backup.calCounter := rfl
@[simp] theorem State.lampInvert_modBarCfg (d : Barrier) (f : BarrierCfg → BarrierCfg) : (s.modBarCfg d f).backup.lampInvert = s.backup.lampInvert := rfl
@[simp] theorem State.mask_modBarCfg (d : Barrier) (f : BarrierCfg → BarrierCfg) : (s.modBarCfg d f).backup.mask = s.backup.mask := rfl
@[simp] theorem State.modeAt_modBarCfg (d : Barrier) (f : BarrierCfg → BarrierCfg) (x : ModeReader) : (s.modBarCfg d f).modeAt x = s.modeAt x := rfl
@[simp] theorem State.supplyAt_modBarCfg (d : Barrier) (f : BarrierCfg → BarrierCfg) (x : SupplyReader) : (s.modBarCfg d f).supplyAt x = s.supplyAt x := rfl
@[simp] theorem State.boomAtArbiter_modBarCfg (d : Barrier) (f : BarrierCfg → BarrierCfg) (x : Barrier) : (s.modBarCfg d f).boomAtArbiter x = s.boomAtArbiter x := rfl
@[simp] theorem State.boomAtLane_modBarCfg (d : Barrier) (f : BarrierCfg → BarrierCfg) (l : Lane) (x : Barrier) : (s.modBarCfg d f).boomAtLane l x = s.boomAtLane l x := rfl
@[simp] theorem State.raised_modBarCfg (d : Barrier) (f : BarrierCfg → BarrierCfg) : (s.modBarCfg d f).main.raised = s.main.raised := rfl
@[simp] theorem State.check_modBarCfg (d : Barrier) (f : BarrierCfg → BarrierCfg) : (s.modBarCfg d f).check = s.check := rfl
@[simp] theorem State.running_modBarCfg (d : Barrier) (f : BarrierCfg → BarrierCfg) : (s.modBarCfg d f).running = s.running := rfl
@[simp] theorem State.pending_modBarCfg (d : Barrier) (f : BarrierCfg → BarrierCfg) : (s.modBarCfg d f).pending = s.pending := rfl

/-! ### modInpCfg -/

@[simp] theorem State.recs_modInpCfg (d : Input) (f : ConditionerCfg → ConditionerCfg) : (s.modInpCfg d f).recs = s.recs := rfl
@[simp] theorem State.arb_modInpCfg (d : Input) (f : ConditionerCfg → ConditionerCfg) (x : Deck) : (s.modInpCfg d f).arb x = s.arb x := rfl
@[simp] theorem State.eng_modInpCfg (d : Input) (f : ConditionerCfg → ConditionerCfg) (x : Deck) : (s.modInpCfg d f).eng x = s.eng x := rfl
@[simp] theorem State.win_modInpCfg (d : Input) (f : ConditionerCfg → ConditionerCfg) (x : Deck) : (s.modInpCfg d f).win x = s.win x := rfl
@[simp] theorem State.chan_modInpCfg (d : Input) (f : ConditionerCfg → ConditionerCfg) (x : Channel) : (s.modInpCfg d f).chan x = s.chan x := rfl
@[simp] theorem State.lane_modInpCfg (d : Input) (f : ConditionerCfg → ConditionerCfg) (x : Lane) : (s.modInpCfg d f).lane x = s.lane x := rfl
@[simp] theorem State.bar_modInpCfg (d : Input) (f : ConditionerCfg → ConditionerCfg) (x : Barrier) : (s.modInpCfg d f).bar x = s.bar x := rfl
@[simp] theorem State.inp_modInpCfg (d : Input) (f : ConditionerCfg → ConditionerCfg) (x : Input) : (s.modInpCfg d f).inp x = s.inp x := rfl
@[simp] theorem State.port_modInpCfg (d : Input) (f : ConditionerCfg → ConditionerCfg) (x : Port) : (s.modInpCfg d f).port x = s.port x := rfl
@[simp] theorem State.sup_modInpCfg (d : Input) (f : ConditionerCfg → ConditionerCfg) : (s.modInpCfg d f).sup = s.sup := rfl
@[simp] theorem State.ms_modInpCfg (d : Input) (f : ConditionerCfg → ConditionerCfg) : (s.modInpCfg d f).ms = s.ms := rfl
@[simp] theorem State.deckCfg_modInpCfg (d : Input) (f : ConditionerCfg → ConditionerCfg) (x : Deck) : (s.modInpCfg d f).deckCfg x = s.deckCfg x := rfl
@[simp] theorem State.chanCfg_modInpCfg (d : Input) (f : ConditionerCfg → ConditionerCfg) (x : Channel) : (s.modInpCfg d f).chanCfg x = s.chanCfg x := rfl
@[simp] theorem State.laneCfg_modInpCfg (d : Input) (f : ConditionerCfg → ConditionerCfg) (x : Lane) : (s.modInpCfg d f).laneCfg x = s.laneCfg x := rfl
@[simp] theorem State.barCfg_modInpCfg (d : Input) (f : ConditionerCfg → ConditionerCfg) (x : Barrier) : (s.modInpCfg d f).barCfg x = s.barCfg x := rfl
@[simp] theorem State.portCfg_modInpCfg (d : Input) (f : ConditionerCfg → ConditionerCfg) (x : Port) : (s.modInpCfg d f).portCfg x = s.portCfg x := rfl
@[simp] theorem State.mode_modInpCfg (d : Input) (f : ConditionerCfg → ConditionerCfg) : (s.modInpCfg d f).mode = s.mode := rfl
@[simp] theorem State.calCounter_modInpCfg (d : Input) (f : ConditionerCfg → ConditionerCfg) : (s.modInpCfg d f).backup.calCounter = s.backup.calCounter := rfl
@[simp] theorem State.lampInvert_modInpCfg (d : Input) (f : ConditionerCfg → ConditionerCfg) : (s.modInpCfg d f).backup.lampInvert = s.backup.lampInvert := rfl
@[simp] theorem State.mask_modInpCfg (d : Input) (f : ConditionerCfg → ConditionerCfg) : (s.modInpCfg d f).backup.mask = s.backup.mask := rfl
@[simp] theorem State.modeAt_modInpCfg (d : Input) (f : ConditionerCfg → ConditionerCfg) (x : ModeReader) : (s.modInpCfg d f).modeAt x = s.modeAt x := rfl
@[simp] theorem State.supplyAt_modInpCfg (d : Input) (f : ConditionerCfg → ConditionerCfg) (x : SupplyReader) : (s.modInpCfg d f).supplyAt x = s.supplyAt x := rfl
@[simp] theorem State.boomAtArbiter_modInpCfg (d : Input) (f : ConditionerCfg → ConditionerCfg) (x : Barrier) : (s.modInpCfg d f).boomAtArbiter x = s.boomAtArbiter x := rfl
@[simp] theorem State.boomAtLane_modInpCfg (d : Input) (f : ConditionerCfg → ConditionerCfg) (l : Lane) (x : Barrier) : (s.modInpCfg d f).boomAtLane l x = s.boomAtLane l x := rfl
@[simp] theorem State.raised_modInpCfg (d : Input) (f : ConditionerCfg → ConditionerCfg) : (s.modInpCfg d f).main.raised = s.main.raised := rfl
@[simp] theorem State.check_modInpCfg (d : Input) (f : ConditionerCfg → ConditionerCfg) : (s.modInpCfg d f).check = s.check := rfl
@[simp] theorem State.running_modInpCfg (d : Input) (f : ConditionerCfg → ConditionerCfg) : (s.modInpCfg d f).running = s.running := rfl
@[simp] theorem State.pending_modInpCfg (d : Input) (f : ConditionerCfg → ConditionerCfg) : (s.modInpCfg d f).pending = s.pending := rfl

/-! ### modPortCfg -/

@[simp] theorem State.recs_modPortCfg (d : Port) (f : PortCfg → PortCfg) : (s.modPortCfg d f).recs = s.recs := rfl
@[simp] theorem State.arb_modPortCfg (d : Port) (f : PortCfg → PortCfg) (x : Deck) : (s.modPortCfg d f).arb x = s.arb x := rfl
@[simp] theorem State.eng_modPortCfg (d : Port) (f : PortCfg → PortCfg) (x : Deck) : (s.modPortCfg d f).eng x = s.eng x := rfl
@[simp] theorem State.win_modPortCfg (d : Port) (f : PortCfg → PortCfg) (x : Deck) : (s.modPortCfg d f).win x = s.win x := rfl
@[simp] theorem State.chan_modPortCfg (d : Port) (f : PortCfg → PortCfg) (x : Channel) : (s.modPortCfg d f).chan x = s.chan x := rfl
@[simp] theorem State.lane_modPortCfg (d : Port) (f : PortCfg → PortCfg) (x : Lane) : (s.modPortCfg d f).lane x = s.lane x := rfl
@[simp] theorem State.bar_modPortCfg (d : Port) (f : PortCfg → PortCfg) (x : Barrier) : (s.modPortCfg d f).bar x = s.bar x := rfl
@[simp] theorem State.inp_modPortCfg (d : Port) (f : PortCfg → PortCfg) (x : Input) : (s.modPortCfg d f).inp x = s.inp x := rfl
@[simp] theorem State.port_modPortCfg (d : Port) (f : PortCfg → PortCfg) (x : Port) : (s.modPortCfg d f).port x = s.port x := rfl
@[simp] theorem State.sup_modPortCfg (d : Port) (f : PortCfg → PortCfg) : (s.modPortCfg d f).sup = s.sup := rfl
@[simp] theorem State.ms_modPortCfg (d : Port) (f : PortCfg → PortCfg) : (s.modPortCfg d f).ms = s.ms := rfl
@[simp] theorem State.deckCfg_modPortCfg (d : Port) (f : PortCfg → PortCfg) (x : Deck) : (s.modPortCfg d f).deckCfg x = s.deckCfg x := rfl
@[simp] theorem State.chanCfg_modPortCfg (d : Port) (f : PortCfg → PortCfg) (x : Channel) : (s.modPortCfg d f).chanCfg x = s.chanCfg x := rfl
@[simp] theorem State.laneCfg_modPortCfg (d : Port) (f : PortCfg → PortCfg) (x : Lane) : (s.modPortCfg d f).laneCfg x = s.laneCfg x := rfl
@[simp] theorem State.barCfg_modPortCfg (d : Port) (f : PortCfg → PortCfg) (x : Barrier) : (s.modPortCfg d f).barCfg x = s.barCfg x := rfl
@[simp] theorem State.inpCfg_modPortCfg (d : Port) (f : PortCfg → PortCfg) (x : Input) : (s.modPortCfg d f).inpCfg x = s.inpCfg x := rfl
@[simp] theorem State.mode_modPortCfg (d : Port) (f : PortCfg → PortCfg) : (s.modPortCfg d f).mode = s.mode := rfl
@[simp] theorem State.calCounter_modPortCfg (d : Port) (f : PortCfg → PortCfg) : (s.modPortCfg d f).backup.calCounter = s.backup.calCounter := rfl
@[simp] theorem State.lampInvert_modPortCfg (d : Port) (f : PortCfg → PortCfg) : (s.modPortCfg d f).backup.lampInvert = s.backup.lampInvert := rfl
@[simp] theorem State.mask_modPortCfg (d : Port) (f : PortCfg → PortCfg) : (s.modPortCfg d f).backup.mask = s.backup.mask := rfl
@[simp] theorem State.modeAt_modPortCfg (d : Port) (f : PortCfg → PortCfg) (x : ModeReader) : (s.modPortCfg d f).modeAt x = s.modeAt x := rfl
@[simp] theorem State.supplyAt_modPortCfg (d : Port) (f : PortCfg → PortCfg) (x : SupplyReader) : (s.modPortCfg d f).supplyAt x = s.supplyAt x := rfl
@[simp] theorem State.boomAtArbiter_modPortCfg (d : Port) (f : PortCfg → PortCfg) (x : Barrier) : (s.modPortCfg d f).boomAtArbiter x = s.boomAtArbiter x := rfl
@[simp] theorem State.boomAtLane_modPortCfg (d : Port) (f : PortCfg → PortCfg) (l : Lane) (x : Barrier) : (s.modPortCfg d f).boomAtLane l x = s.boomAtLane l x := rfl
@[simp] theorem State.raised_modPortCfg (d : Port) (f : PortCfg → PortCfg) : (s.modPortCfg d f).main.raised = s.main.raised := rfl
@[simp] theorem State.check_modPortCfg (d : Port) (f : PortCfg → PortCfg) : (s.modPortCfg d f).check = s.check := rfl
@[simp] theorem State.running_modPortCfg (d : Port) (f : PortCfg → PortCfg) : (s.modPortCfg d f).running = s.running := rfl
@[simp] theorem State.pending_modPortCfg (d : Port) (f : PortCfg → PortCfg) : (s.modPortCfg d f).pending = s.pending := rfl

/-! ### modBackup -/

@[simp] theorem State.arb_modBackup (f : Backup → Backup) (x : Deck) : (s.modBackup f).arb x = s.arb x := rfl
@[simp] theorem State.eng_modBackup (f : Backup → Backup) (x : Deck) : (s.modBackup f).eng x = s.eng x := rfl
@[simp] theorem State.win_modBackup (f : Backup → Backup) (x : Deck) : (s.modBackup f).win x = s.win x := rfl
@[simp] theorem State.chan_modBackup (f : Backup → Backup) (x : Channel) : (s.modBackup f).chan x = s.chan x := rfl
@[simp] theorem State.lane_modBackup (f : Backup → Backup) (x : Lane) : (s.modBackup f).lane x = s.lane x := rfl
@[simp] theorem State.bar_modBackup (f : Backup → Backup) (x : Barrier) : (s.modBackup f).bar x = s.bar x := rfl
@[simp] theorem State.inp_modBackup (f : Backup → Backup) (x : Input) : (s.modBackup f).inp x = s.inp x := rfl
@[simp] theorem State.port_modBackup (f : Backup → Backup) (x : Port) : (s.modBackup f).port x = s.port x := rfl
@[simp] theorem State.sup_modBackup (f : Backup → Backup) : (s.modBackup f).sup = s.sup := rfl
@[simp] theorem State.ms_modBackup (f : Backup → Backup) : (s.modBackup f).ms = s.ms := rfl
@[simp] theorem State.modeAt_modBackup (f : Backup → Backup) (x : ModeReader) : (s.modBackup f).modeAt x = s.modeAt x := rfl
@[simp] theorem State.supplyAt_modBackup (f : Backup → Backup) (x : SupplyReader) : (s.modBackup f).supplyAt x = s.supplyAt x := rfl
@[simp] theorem State.boomAtArbiter_modBackup (f : Backup → Backup) (x : Barrier) : (s.modBackup f).boomAtArbiter x = s.boomAtArbiter x := rfl
@[simp] theorem State.boomAtLane_modBackup (f : Backup → Backup) (l : Lane) (x : Barrier) : (s.modBackup f).boomAtLane l x = s.boomAtLane l x := rfl
@[simp] theorem State.raised_modBackup (f : Backup → Backup) : (s.modBackup f).main.raised = s.main.raised := rfl
@[simp] theorem State.check_modBackup (f : Backup → Backup) : (s.modBackup f).check = s.check := rfl
@[simp] theorem State.running_modBackup (f : Backup → Backup) : (s.modBackup f).running = s.running := rfl
@[simp] theorem State.pending_modBackup (f : Backup → Backup) : (s.modBackup f).pending = s.pending := rfl

/-! ### modMain -/

@[simp] theorem State.recs_modMain (f : Main → Main) : (s.modMain f).recs = s.recs := rfl
@[simp] theorem State.deckCfg_modMain (f : Main → Main) (x : Deck) : (s.modMain f).deckCfg x = s.deckCfg x := rfl
@[simp] theorem State.chanCfg_modMain (f : Main → Main) (x : Channel) : (s.modMain f).chanCfg x = s.chanCfg x := rfl
@[simp] theorem State.laneCfg_modMain (f : Main → Main) (x : Lane) : (s.modMain f).laneCfg x = s.laneCfg x := rfl
@[simp] theorem State.barCfg_modMain (f : Main → Main) (x : Barrier) : (s.modMain f).barCfg x = s.barCfg x := rfl
@[simp] theorem State.inpCfg_modMain (f : Main → Main) (x : Input) : (s.modMain f).inpCfg x = s.inpCfg x := rfl
@[simp] theorem State.portCfg_modMain (f : Main → Main) (x : Port) : (s.modMain f).portCfg x = s.portCfg x := rfl
@[simp] theorem State.mode_modMain (f : Main → Main) : (s.modMain f).mode = s.mode := rfl
@[simp] theorem State.calCounter_modMain (f : Main → Main) : (s.modMain f).backup.calCounter = s.backup.calCounter := rfl
@[simp] theorem State.lampInvert_modMain (f : Main → Main) : (s.modMain f).backup.lampInvert = s.backup.lampInvert := rfl
@[simp] theorem State.mask_modMain (f : Main → Main) : (s.modMain f).backup.mask = s.backup.mask := rfl
@[simp] theorem State.check_modMain (f : Main → Main) : (s.modMain f).check = s.check := rfl
@[simp] theorem State.running_modMain (f : Main → Main) : (s.modMain f).running = s.running := rfl
@[simp] theorem State.pending_modMain (f : Main → Main) : (s.modMain f).pending = s.pending := rfl

/-! ### setModeAt -/

@[simp] theorem State.recs_setModeAt (r : ModeReader) (m : YardMode) : (s.setModeAt r m).recs = s.recs := rfl
@[simp] theorem State.arb_setModeAt (r : ModeReader) (m : YardMode) (x : Deck) : (s.setModeAt r m).arb x = s.arb x := rfl
@[simp] theorem State.eng_setModeAt (r : ModeReader) (m : YardMode) (x : Deck) : (s.setModeAt r m).eng x = s.eng x := rfl
@[simp] theorem State.win_setModeAt (r : ModeReader) (m : YardMode) (x : Deck) : (s.setModeAt r m).win x = s.win x := rfl
@[simp] theorem State.chan_setModeAt (r : ModeReader) (m : YardMode) (x : Channel) : (s.setModeAt r m).chan x = s.chan x := rfl
@[simp] theorem State.lane_setModeAt (r : ModeReader) (m : YardMode) (x : Lane) : (s.setModeAt r m).lane x = s.lane x := rfl
@[simp] theorem State.bar_setModeAt (r : ModeReader) (m : YardMode) (x : Barrier) : (s.setModeAt r m).bar x = s.bar x := rfl
@[simp] theorem State.inp_setModeAt (r : ModeReader) (m : YardMode) (x : Input) : (s.setModeAt r m).inp x = s.inp x := rfl
@[simp] theorem State.port_setModeAt (r : ModeReader) (m : YardMode) (x : Port) : (s.setModeAt r m).port x = s.port x := rfl
@[simp] theorem State.sup_setModeAt (r : ModeReader) (m : YardMode) : (s.setModeAt r m).sup = s.sup := rfl
@[simp] theorem State.ms_setModeAt (r : ModeReader) (m : YardMode) : (s.setModeAt r m).ms = s.ms := rfl
@[simp] theorem State.deckCfg_setModeAt (r : ModeReader) (m : YardMode) (x : Deck) : (s.setModeAt r m).deckCfg x = s.deckCfg x := rfl
@[simp] theorem State.chanCfg_setModeAt (r : ModeReader) (m : YardMode) (x : Channel) : (s.setModeAt r m).chanCfg x = s.chanCfg x := rfl
@[simp] theorem State.laneCfg_setModeAt (r : ModeReader) (m : YardMode) (x : Lane) : (s.setModeAt r m).laneCfg x = s.laneCfg x := rfl
@[simp] theorem State.barCfg_setModeAt (r : ModeReader) (m : YardMode) (x : Barrier) : (s.setModeAt r m).barCfg x = s.barCfg x := rfl
@[simp] theorem State.inpCfg_setModeAt (r : ModeReader) (m : YardMode) (x : Input) : (s.setModeAt r m).inpCfg x = s.inpCfg x := rfl
@[simp] theorem State.portCfg_setModeAt (r : ModeReader) (m : YardMode) (x : Port) : (s.setModeAt r m).portCfg x = s.portCfg x := rfl
@[simp] theorem State.mode_setModeAt (r : ModeReader) (m : YardMode) : (s.setModeAt r m).mode = s.mode := rfl
@[simp] theorem State.calCounter_setModeAt (r : ModeReader) (m : YardMode) : (s.setModeAt r m).backup.calCounter = s.backup.calCounter := rfl
@[simp] theorem State.lampInvert_setModeAt (r : ModeReader) (m : YardMode) : (s.setModeAt r m).backup.lampInvert = s.backup.lampInvert := rfl
@[simp] theorem State.mask_setModeAt (r : ModeReader) (m : YardMode) : (s.setModeAt r m).backup.mask = s.backup.mask := rfl
@[simp] theorem State.supplyAt_setModeAt (r : ModeReader) (m : YardMode) (x : SupplyReader) : (s.setModeAt r m).supplyAt x = s.supplyAt x := rfl
@[simp] theorem State.boomAtArbiter_setModeAt (r : ModeReader) (m : YardMode) (x : Barrier) : (s.setModeAt r m).boomAtArbiter x = s.boomAtArbiter x := rfl
@[simp] theorem State.boomAtLane_setModeAt (r : ModeReader) (m : YardMode) (l : Lane) (x : Barrier) : (s.setModeAt r m).boomAtLane l x = s.boomAtLane l x := rfl
@[simp] theorem State.raised_setModeAt (r : ModeReader) (m : YardMode) : (s.setModeAt r m).main.raised = s.main.raised := rfl
@[simp] theorem State.check_setModeAt (r : ModeReader) (m : YardMode) : (s.setModeAt r m).check = s.check := rfl
@[simp] theorem State.running_setModeAt (r : ModeReader) (m : YardMode) : (s.setModeAt r m).running = s.running := rfl
@[simp] theorem State.pending_setModeAt (r : ModeReader) (m : YardMode) : (s.setModeAt r m).pending = s.pending := rfl

/-! ### setSupplyAt -/

@[simp] theorem State.recs_setSupplyAt (r : SupplyReader) (st : SupplyState) : (s.setSupplyAt r st).recs = s.recs := rfl
@[simp] theorem State.arb_setSupplyAt (r : SupplyReader) (st : SupplyState) (x : Deck) : (s.setSupplyAt r st).arb x = s.arb x := rfl
@[simp] theorem State.eng_setSupplyAt (r : SupplyReader) (st : SupplyState) (x : Deck) : (s.setSupplyAt r st).eng x = s.eng x := rfl
@[simp] theorem State.win_setSupplyAt (r : SupplyReader) (st : SupplyState) (x : Deck) : (s.setSupplyAt r st).win x = s.win x := rfl
@[simp] theorem State.chan_setSupplyAt (r : SupplyReader) (st : SupplyState) (x : Channel) : (s.setSupplyAt r st).chan x = s.chan x := rfl
@[simp] theorem State.lane_setSupplyAt (r : SupplyReader) (st : SupplyState) (x : Lane) : (s.setSupplyAt r st).lane x = s.lane x := rfl
@[simp] theorem State.bar_setSupplyAt (r : SupplyReader) (st : SupplyState) (x : Barrier) : (s.setSupplyAt r st).bar x = s.bar x := rfl
@[simp] theorem State.inp_setSupplyAt (r : SupplyReader) (st : SupplyState) (x : Input) : (s.setSupplyAt r st).inp x = s.inp x := rfl
@[simp] theorem State.port_setSupplyAt (r : SupplyReader) (st : SupplyState) (x : Port) : (s.setSupplyAt r st).port x = s.port x := rfl
@[simp] theorem State.sup_setSupplyAt (r : SupplyReader) (st : SupplyState) : (s.setSupplyAt r st).sup = s.sup := rfl
@[simp] theorem State.ms_setSupplyAt (r : SupplyReader) (st : SupplyState) : (s.setSupplyAt r st).ms = s.ms := rfl
@[simp] theorem State.deckCfg_setSupplyAt (r : SupplyReader) (st : SupplyState) (x : Deck) : (s.setSupplyAt r st).deckCfg x = s.deckCfg x := rfl
@[simp] theorem State.chanCfg_setSupplyAt (r : SupplyReader) (st : SupplyState) (x : Channel) : (s.setSupplyAt r st).chanCfg x = s.chanCfg x := rfl
@[simp] theorem State.laneCfg_setSupplyAt (r : SupplyReader) (st : SupplyState) (x : Lane) : (s.setSupplyAt r st).laneCfg x = s.laneCfg x := rfl
@[simp] theorem State.barCfg_setSupplyAt (r : SupplyReader) (st : SupplyState) (x : Barrier) : (s.setSupplyAt r st).barCfg x = s.barCfg x := rfl
@[simp] theorem State.inpCfg_setSupplyAt (r : SupplyReader) (st : SupplyState) (x : Input) : (s.setSupplyAt r st).inpCfg x = s.inpCfg x := rfl
@[simp] theorem State.portCfg_setSupplyAt (r : SupplyReader) (st : SupplyState) (x : Port) : (s.setSupplyAt r st).portCfg x = s.portCfg x := rfl
@[simp] theorem State.mode_setSupplyAt (r : SupplyReader) (st : SupplyState) : (s.setSupplyAt r st).mode = s.mode := rfl
@[simp] theorem State.calCounter_setSupplyAt (r : SupplyReader) (st : SupplyState) : (s.setSupplyAt r st).backup.calCounter = s.backup.calCounter := rfl
@[simp] theorem State.lampInvert_setSupplyAt (r : SupplyReader) (st : SupplyState) : (s.setSupplyAt r st).backup.lampInvert = s.backup.lampInvert := rfl
@[simp] theorem State.mask_setSupplyAt (r : SupplyReader) (st : SupplyState) : (s.setSupplyAt r st).backup.mask = s.backup.mask := rfl
@[simp] theorem State.modeAt_setSupplyAt (r : SupplyReader) (st : SupplyState) (x : ModeReader) : (s.setSupplyAt r st).modeAt x = s.modeAt x := rfl
@[simp] theorem State.boomAtArbiter_setSupplyAt (r : SupplyReader) (st : SupplyState) (x : Barrier) : (s.setSupplyAt r st).boomAtArbiter x = s.boomAtArbiter x := rfl
@[simp] theorem State.boomAtLane_setSupplyAt (r : SupplyReader) (st : SupplyState) (l : Lane) (x : Barrier) : (s.setSupplyAt r st).boomAtLane l x = s.boomAtLane l x := rfl
@[simp] theorem State.raised_setSupplyAt (r : SupplyReader) (st : SupplyState) : (s.setSupplyAt r st).main.raised = s.main.raised := rfl
@[simp] theorem State.check_setSupplyAt (r : SupplyReader) (st : SupplyState) : (s.setSupplyAt r st).check = s.check := rfl
@[simp] theorem State.running_setSupplyAt (r : SupplyReader) (st : SupplyState) : (s.setSupplyAt r st).running = s.running := rfl
@[simp] theorem State.pending_setSupplyAt (r : SupplyReader) (st : SupplyState) : (s.setSupplyAt r st).pending = s.pending := rfl

/-! ### setBoomAt -/

@[simp] theorem State.recs_setBoomAt (r : BarrierReader) (b : Barrier) (st : BarrierState) : (s.setBoomAt r b st).recs = s.recs := rfl
@[simp] theorem State.arb_setBoomAt (r : BarrierReader) (b : Barrier) (st : BarrierState) (x : Deck) : (s.setBoomAt r b st).arb x = s.arb x := rfl
@[simp] theorem State.eng_setBoomAt (r : BarrierReader) (b : Barrier) (st : BarrierState) (x : Deck) : (s.setBoomAt r b st).eng x = s.eng x := rfl
@[simp] theorem State.win_setBoomAt (r : BarrierReader) (b : Barrier) (st : BarrierState) (x : Deck) : (s.setBoomAt r b st).win x = s.win x := rfl
@[simp] theorem State.chan_setBoomAt (r : BarrierReader) (b : Barrier) (st : BarrierState) (x : Channel) : (s.setBoomAt r b st).chan x = s.chan x := rfl
@[simp] theorem State.lane_setBoomAt (r : BarrierReader) (b : Barrier) (st : BarrierState) (x : Lane) : (s.setBoomAt r b st).lane x = s.lane x := rfl
@[simp] theorem State.bar_setBoomAt (r : BarrierReader) (b : Barrier) (st : BarrierState) (x : Barrier) : (s.setBoomAt r b st).bar x = s.bar x := rfl
@[simp] theorem State.inp_setBoomAt (r : BarrierReader) (b : Barrier) (st : BarrierState) (x : Input) : (s.setBoomAt r b st).inp x = s.inp x := rfl
@[simp] theorem State.port_setBoomAt (r : BarrierReader) (b : Barrier) (st : BarrierState) (x : Port) : (s.setBoomAt r b st).port x = s.port x := rfl
@[simp] theorem State.sup_setBoomAt (r : BarrierReader) (b : Barrier) (st : BarrierState) : (s.setBoomAt r b st).sup = s.sup := rfl
@[simp] theorem State.ms_setBoomAt (r : BarrierReader) (b : Barrier) (st : BarrierState) : (s.setBoomAt r b st).ms = s.ms := rfl
@[simp] theorem State.deckCfg_setBoomAt (r : BarrierReader) (b : Barrier) (st : BarrierState) (x : Deck) : (s.setBoomAt r b st).deckCfg x = s.deckCfg x := rfl
@[simp] theorem State.chanCfg_setBoomAt (r : BarrierReader) (b : Barrier) (st : BarrierState) (x : Channel) : (s.setBoomAt r b st).chanCfg x = s.chanCfg x := rfl
@[simp] theorem State.laneCfg_setBoomAt (r : BarrierReader) (b : Barrier) (st : BarrierState) (x : Lane) : (s.setBoomAt r b st).laneCfg x = s.laneCfg x := rfl
@[simp] theorem State.barCfg_setBoomAt (r : BarrierReader) (b : Barrier) (st : BarrierState) (x : Barrier) : (s.setBoomAt r b st).barCfg x = s.barCfg x := rfl
@[simp] theorem State.inpCfg_setBoomAt (r : BarrierReader) (b : Barrier) (st : BarrierState) (x : Input) : (s.setBoomAt r b st).inpCfg x = s.inpCfg x := rfl
@[simp] theorem State.portCfg_setBoomAt (r : BarrierReader) (b : Barrier) (st : BarrierState) (x : Port) : (s.setBoomAt r b st).portCfg x = s.portCfg x := rfl
@[simp] theorem State.mode_setBoomAt (r : BarrierReader) (b : Barrier) (st : BarrierState) : (s.setBoomAt r b st).mode = s.mode := rfl
@[simp] theorem State.calCounter_setBoomAt (r : BarrierReader) (b : Barrier) (st : BarrierState) : (s.setBoomAt r b st).backup.calCounter = s.backup.calCounter := rfl
@[simp] theorem State.lampInvert_setBoomAt (r : BarrierReader) (b : Barrier) (st : BarrierState) : (s.setBoomAt r b st).backup.lampInvert = s.backup.lampInvert := rfl
@[simp] theorem State.mask_setBoomAt (r : BarrierReader) (b : Barrier) (st : BarrierState) : (s.setBoomAt r b st).backup.mask = s.backup.mask := rfl
@[simp] theorem State.modeAt_setBoomAt (r : BarrierReader) (b : Barrier) (st : BarrierState) (x : ModeReader) : (s.setBoomAt r b st).modeAt x = s.modeAt x := rfl
@[simp] theorem State.supplyAt_setBoomAt (r : BarrierReader) (b : Barrier) (st : BarrierState) (x : SupplyReader) : (s.setBoomAt r b st).supplyAt x = s.supplyAt x := rfl
@[simp] theorem State.raised_setBoomAt (r : BarrierReader) (b : Barrier) (st : BarrierState) : (s.setBoomAt r b st).main.raised = s.main.raised := rfl
@[simp] theorem State.check_setBoomAt (r : BarrierReader) (b : Barrier) (st : BarrierState) : (s.setBoomAt r b st).check = s.check := rfl
@[simp] theorem State.running_setBoomAt (r : BarrierReader) (b : Barrier) (st : BarrierState) : (s.setBoomAt r b st).running = s.running := rfl
@[simp] theorem State.pending_setBoomAt (r : BarrierReader) (b : Barrier) (st : BarrierState) : (s.setBoomAt r b st).pending = s.pending := rfl

/-! ### seal -/

@[simp] theorem State.recs_seal  : (s.seal).recs = s.recs := rfl
@[simp] theorem State.arb_seal  (x : Deck) : (s.seal).arb x = s.arb x := rfl
@[simp] theorem State.eng_seal  (x : Deck) : (s.seal).eng x = s.eng x := rfl
@[simp] theorem State.win_seal  (x : Deck) : (s.seal).win x = s.win x := rfl
@[simp] theorem State.chan_seal  (x : Channel) : (s.seal).chan x = s.chan x := rfl
@[simp] theorem State.lane_seal  (x : Lane) : (s.seal).lane x = s.lane x := rfl
@[simp] theorem State.bar_seal  (x : Barrier) : (s.seal).bar x = s.bar x := rfl
@[simp] theorem State.inp_seal  (x : Input) : (s.seal).inp x = s.inp x := rfl
@[simp] theorem State.port_seal  (x : Port) : (s.seal).port x = s.port x := rfl
@[simp] theorem State.sup_seal  : (s.seal).sup = s.sup := rfl
@[simp] theorem State.ms_seal  : (s.seal).ms = s.ms := rfl
@[simp] theorem State.deckCfg_seal  (x : Deck) : (s.seal).deckCfg x = s.deckCfg x := rfl
@[simp] theorem State.chanCfg_seal  (x : Channel) : (s.seal).chanCfg x = s.chanCfg x := rfl
@[simp] theorem State.laneCfg_seal  (x : Lane) : (s.seal).laneCfg x = s.laneCfg x := rfl
@[simp] theorem State.barCfg_seal  (x : Barrier) : (s.seal).barCfg x = s.barCfg x := rfl
@[simp] theorem State.inpCfg_seal  (x : Input) : (s.seal).inpCfg x = s.inpCfg x := rfl
@[simp] theorem State.portCfg_seal  (x : Port) : (s.seal).portCfg x = s.portCfg x := rfl
@[simp] theorem State.mode_seal  : (s.seal).mode = s.mode := rfl
@[simp] theorem State.calCounter_seal  : (s.seal).backup.calCounter = s.backup.calCounter := rfl
@[simp] theorem State.lampInvert_seal  : (s.seal).backup.lampInvert = s.backup.lampInvert := rfl
@[simp] theorem State.mask_seal  : (s.seal).backup.mask = s.backup.mask := rfl
@[simp] theorem State.modeAt_seal  (x : ModeReader) : (s.seal).modeAt x = s.modeAt x := rfl
@[simp] theorem State.supplyAt_seal  (x : SupplyReader) : (s.seal).supplyAt x = s.supplyAt x := rfl
@[simp] theorem State.boomAtArbiter_seal  (x : Barrier) : (s.seal).boomAtArbiter x = s.boomAtArbiter x := rfl
@[simp] theorem State.boomAtLane_seal  (l : Lane) (x : Barrier) : (s.seal).boomAtLane l x = s.boomAtLane l x := rfl
@[simp] theorem State.raised_seal  : (s.seal).main.raised = s.main.raised := rfl
@[simp] theorem State.running_seal  : (s.seal).running = s.running := rfl
@[simp] theorem State.pending_seal  : (s.seal).pending = s.pending := rfl

/-! ### raise -/

@[simp] theorem State.recs_raise (cs : List Instr) : (s.raise cs).recs = s.recs := rfl
@[simp] theorem State.arb_raise (cs : List Instr) (x : Deck) : (s.raise cs).arb x = s.arb x := rfl
@[simp] theorem State.eng_raise (cs : List Instr) (x : Deck) : (s.raise cs).eng x = s.eng x := rfl
@[simp] theorem State.win_raise (cs : List Instr) (x : Deck) : (s.raise cs).win x = s.win x := rfl
@[simp] theorem State.chan_raise (cs : List Instr) (x : Channel) : (s.raise cs).chan x = s.chan x := rfl
@[simp] theorem State.lane_raise (cs : List Instr) (x : Lane) : (s.raise cs).lane x = s.lane x := rfl
@[simp] theorem State.bar_raise (cs : List Instr) (x : Barrier) : (s.raise cs).bar x = s.bar x := rfl
@[simp] theorem State.inp_raise (cs : List Instr) (x : Input) : (s.raise cs).inp x = s.inp x := rfl
@[simp] theorem State.port_raise (cs : List Instr) (x : Port) : (s.raise cs).port x = s.port x := rfl
@[simp] theorem State.sup_raise (cs : List Instr) : (s.raise cs).sup = s.sup := rfl
@[simp] theorem State.ms_raise (cs : List Instr) : (s.raise cs).ms = s.ms := rfl
@[simp] theorem State.deckCfg_raise (cs : List Instr) (x : Deck) : (s.raise cs).deckCfg x = s.deckCfg x := rfl
@[simp] theorem State.chanCfg_raise (cs : List Instr) (x : Channel) : (s.raise cs).chanCfg x = s.chanCfg x := rfl
@[simp] theorem State.laneCfg_raise (cs : List Instr) (x : Lane) : (s.raise cs).laneCfg x = s.laneCfg x := rfl
@[simp] theorem State.barCfg_raise (cs : List Instr) (x : Barrier) : (s.raise cs).barCfg x = s.barCfg x := rfl
@[simp] theorem State.inpCfg_raise (cs : List Instr) (x : Input) : (s.raise cs).inpCfg x = s.inpCfg x := rfl
@[simp] theorem State.portCfg_raise (cs : List Instr) (x : Port) : (s.raise cs).portCfg x = s.portCfg x := rfl
@[simp] theorem State.mode_raise (cs : List Instr) : (s.raise cs).mode = s.mode := rfl
@[simp] theorem State.calCounter_raise (cs : List Instr) : (s.raise cs).backup.calCounter = s.backup.calCounter := rfl
@[simp] theorem State.lampInvert_raise (cs : List Instr) : (s.raise cs).backup.lampInvert = s.backup.lampInvert := rfl
@[simp] theorem State.mask_raise (cs : List Instr) : (s.raise cs).backup.mask = s.backup.mask := rfl
@[simp] theorem State.modeAt_raise (cs : List Instr) (x : ModeReader) : (s.raise cs).modeAt x = s.modeAt x := rfl
@[simp] theorem State.supplyAt_raise (cs : List Instr) (x : SupplyReader) : (s.raise cs).supplyAt x = s.supplyAt x := rfl
@[simp] theorem State.boomAtArbiter_raise (cs : List Instr) (x : Barrier) : (s.raise cs).boomAtArbiter x = s.boomAtArbiter x := rfl
@[simp] theorem State.boomAtLane_raise (cs : List Instr) (l : Lane) (x : Barrier) : (s.raise cs).boomAtLane l x = s.boomAtLane l x := rfl
@[simp] theorem State.check_raise (cs : List Instr) : (s.raise cs).check = s.check := rfl
@[simp] theorem State.running_raise (cs : List Instr) : (s.raise cs).running = s.running := rfl
@[simp] theorem State.pending_raise (cs : List Instr) : (s.raise cs).pending = s.pending := rfl

/-! ### consume -/

@[simp] theorem State.recs_consume (c : Instr) : (s.consume c).recs = s.recs := rfl
@[simp] theorem State.arb_consume (c : Instr) (x : Deck) : (s.consume c).arb x = s.arb x := rfl
@[simp] theorem State.eng_consume (c : Instr) (x : Deck) : (s.consume c).eng x = s.eng x := rfl
@[simp] theorem State.win_consume (c : Instr) (x : Deck) : (s.consume c).win x = s.win x := rfl
@[simp] theorem State.chan_consume (c : Instr) (x : Channel) : (s.consume c).chan x = s.chan x := rfl
@[simp] theorem State.lane_consume (c : Instr) (x : Lane) : (s.consume c).lane x = s.lane x := rfl
@[simp] theorem State.bar_consume (c : Instr) (x : Barrier) : (s.consume c).bar x = s.bar x := rfl
@[simp] theorem State.inp_consume (c : Instr) (x : Input) : (s.consume c).inp x = s.inp x := rfl
@[simp] theorem State.port_consume (c : Instr) (x : Port) : (s.consume c).port x = s.port x := rfl
@[simp] theorem State.sup_consume (c : Instr) : (s.consume c).sup = s.sup := rfl
@[simp] theorem State.ms_consume (c : Instr) : (s.consume c).ms = s.ms := rfl
@[simp] theorem State.deckCfg_consume (c : Instr) (x : Deck) : (s.consume c).deckCfg x = s.deckCfg x := rfl
@[simp] theorem State.chanCfg_consume (c : Instr) (x : Channel) : (s.consume c).chanCfg x = s.chanCfg x := rfl
@[simp] theorem State.laneCfg_consume (c : Instr) (x : Lane) : (s.consume c).laneCfg x = s.laneCfg x := rfl
@[simp] theorem State.barCfg_consume (c : Instr) (x : Barrier) : (s.consume c).barCfg x = s.barCfg x := rfl
@[simp] theorem State.inpCfg_consume (c : Instr) (x : Input) : (s.consume c).inpCfg x = s.inpCfg x := rfl
@[simp] theorem State.portCfg_consume (c : Instr) (x : Port) : (s.consume c).portCfg x = s.portCfg x := rfl
@[simp] theorem State.mode_consume (c : Instr) : (s.consume c).mode = s.mode := rfl
@[simp] theorem State.calCounter_consume (c : Instr) : (s.consume c).backup.calCounter = s.backup.calCounter := rfl
@[simp] theorem State.lampInvert_consume (c : Instr) : (s.consume c).backup.lampInvert = s.backup.lampInvert := rfl
@[simp] theorem State.mask_consume (c : Instr) : (s.consume c).backup.mask = s.backup.mask := rfl
@[simp] theorem State.modeAt_consume (c : Instr) (x : ModeReader) : (s.consume c).modeAt x = s.modeAt x := rfl
@[simp] theorem State.supplyAt_consume (c : Instr) (x : SupplyReader) : (s.consume c).supplyAt x = s.supplyAt x := rfl
@[simp] theorem State.boomAtArbiter_consume (c : Instr) (x : Barrier) : (s.consume c).boomAtArbiter x = s.boomAtArbiter x := rfl
@[simp] theorem State.boomAtLane_consume (c : Instr) (l : Lane) (x : Barrier) : (s.consume c).boomAtLane l x = s.boomAtLane l x := rfl
@[simp] theorem State.check_consume (c : Instr) : (s.consume c).check = s.check := rfl
@[simp] theorem State.running_consume (c : Instr) : (s.consume c).running = s.running := rfl
@[simp] theorem State.pending_consume (c : Instr) : (s.consume c).pending = s.pending := rfl

/-! ### post -/

@[simp] theorem State.recs_post (k : Block) (n : NoticeBody) (o : Option Port) : (s.post k n o).recs = s.recs := rfl
@[simp] theorem State.arb_post (k : Block) (n : NoticeBody) (o : Option Port) (x : Deck) : (s.post k n o).arb x = s.arb x := rfl
@[simp] theorem State.eng_post (k : Block) (n : NoticeBody) (o : Option Port) (x : Deck) : (s.post k n o).eng x = s.eng x := rfl
@[simp] theorem State.win_post (k : Block) (n : NoticeBody) (o : Option Port) (x : Deck) : (s.post k n o).win x = s.win x := rfl
@[simp] theorem State.chan_post (k : Block) (n : NoticeBody) (o : Option Port) (x : Channel) : (s.post k n o).chan x = s.chan x := rfl
@[simp] theorem State.lane_post (k : Block) (n : NoticeBody) (o : Option Port) (x : Lane) : (s.post k n o).lane x = s.lane x := rfl
@[simp] theorem State.bar_post (k : Block) (n : NoticeBody) (o : Option Port) (x : Barrier) : (s.post k n o).bar x = s.bar x := rfl
@[simp] theorem State.inp_post (k : Block) (n : NoticeBody) (o : Option Port) (x : Input) : (s.post k n o).inp x = s.inp x := rfl
@[simp] theorem State.sup_post (k : Block) (n : NoticeBody) (o : Option Port) : (s.post k n o).sup = s.sup := rfl
@[simp] theorem State.ms_post (k : Block) (n : NoticeBody) (o : Option Port) : (s.post k n o).ms = s.ms := rfl
@[simp] theorem State.deckCfg_post (k : Block) (n : NoticeBody) (o : Option Port) (x : Deck) : (s.post k n o).deckCfg x = s.deckCfg x := rfl
@[simp] theorem State.chanCfg_post (k : Block) (n : NoticeBody) (o : Option Port) (x : Channel) : (s.post k n o).chanCfg x = s.chanCfg x := rfl
@[simp] theorem State.laneCfg_post (k : Block) (n : NoticeBody) (o : Option Port) (x : Lane) : (s.post k n o).laneCfg x = s.laneCfg x := rfl
@[simp] theorem State.barCfg_post (k : Block) (n : NoticeBody) (o : Option Port) (x : Barrier) : (s.post k n o).barCfg x = s.barCfg x := rfl
@[simp] theorem State.inpCfg_post (k : Block) (n : NoticeBody) (o : Option Port) (x : Input) : (s.post k n o).inpCfg x = s.inpCfg x := rfl
@[simp] theorem State.portCfg_post (k : Block) (n : NoticeBody) (o : Option Port) (x : Port) : (s.post k n o).portCfg x = s.portCfg x := rfl
@[simp] theorem State.mode_post (k : Block) (n : NoticeBody) (o : Option Port) : (s.post k n o).mode = s.mode := rfl
@[simp] theorem State.calCounter_post (k : Block) (n : NoticeBody) (o : Option Port) : (s.post k n o).backup.calCounter = s.backup.calCounter := rfl
@[simp] theorem State.lampInvert_post (k : Block) (n : NoticeBody) (o : Option Port) : (s.post k n o).backup.lampInvert = s.backup.lampInvert := rfl
@[simp] theorem State.mask_post (k : Block) (n : NoticeBody) (o : Option Port) : (s.post k n o).backup.mask = s.backup.mask := rfl
@[simp] theorem State.modeAt_post (k : Block) (n : NoticeBody) (o : Option Port) (x : ModeReader) : (s.post k n o).modeAt x = s.modeAt x := rfl
@[simp] theorem State.supplyAt_post (k : Block) (n : NoticeBody) (o : Option Port) (x : SupplyReader) : (s.post k n o).supplyAt x = s.supplyAt x := rfl
@[simp] theorem State.boomAtArbiter_post (k : Block) (n : NoticeBody) (o : Option Port) (x : Barrier) : (s.post k n o).boomAtArbiter x = s.boomAtArbiter x := rfl
@[simp] theorem State.boomAtLane_post (k : Block) (n : NoticeBody) (o : Option Port) (l : Lane) (x : Barrier) : (s.post k n o).boomAtLane l x = s.boomAtLane l x := rfl
@[simp] theorem State.raised_post (k : Block) (n : NoticeBody) (o : Option Port) : (s.post k n o).main.raised = s.main.raised := rfl
@[simp] theorem State.check_post (k : Block) (n : NoticeBody) (o : Option Port) : (s.post k n o).check = s.check := rfl
@[simp] theorem State.running_post (k : Block) (n : NoticeBody) (o : Option Port) : (s.post k n o).running = s.running := rfl
@[simp] theorem State.pending_post (k : Block) (n : NoticeBody) (o : Option Port) : (s.post k n o).pending = s.pending := rfl

/-! ### flag -/

@[simp] theorem State.recs_flag (f : Flag) : (s.flag f).recs = s.recs := rfl
@[simp] theorem State.arb_flag (f : Flag) (x : Deck) : (s.flag f).arb x = s.arb x := rfl
@[simp] theorem State.eng_flag (f : Flag) (x : Deck) : (s.flag f).eng x = s.eng x := rfl
@[simp] theorem State.win_flag (f : Flag) (x : Deck) : (s.flag f).win x = s.win x := rfl
@[simp] theorem State.chan_flag (f : Flag) (x : Channel) : (s.flag f).chan x = s.chan x := rfl
@[simp] theorem State.lane_flag (f : Flag) (x : Lane) : (s.flag f).lane x = s.lane x := rfl
@[simp] theorem State.bar_flag (f : Flag) (x : Barrier) : (s.flag f).bar x = s.bar x := rfl
@[simp] theorem State.inp_flag (f : Flag) (x : Input) : (s.flag f).inp x = s.inp x := rfl
@[simp] theorem State.sup_flag (f : Flag) : (s.flag f).sup = s.sup := rfl
@[simp] theorem State.ms_flag (f : Flag) : (s.flag f).ms = s.ms := rfl
@[simp] theorem State.deckCfg_flag (f : Flag) (x : Deck) : (s.flag f).deckCfg x = s.deckCfg x := rfl
@[simp] theorem State.chanCfg_flag (f : Flag) (x : Channel) : (s.flag f).chanCfg x = s.chanCfg x := rfl
@[simp] theorem State.laneCfg_flag (f : Flag) (x : Lane) : (s.flag f).laneCfg x = s.laneCfg x := rfl
@[simp] theorem State.barCfg_flag (f : Flag) (x : Barrier) : (s.flag f).barCfg x = s.barCfg x := rfl
@[simp] theorem State.inpCfg_flag (f : Flag) (x : Input) : (s.flag f).inpCfg x = s.inpCfg x := rfl
@[simp] theorem State.portCfg_flag (f : Flag) (x : Port) : (s.flag f).portCfg x = s.portCfg x := rfl
@[simp] theorem State.mode_flag (f : Flag) : (s.flag f).mode = s.mode := rfl
@[simp] theorem State.calCounter_flag (f : Flag) : (s.flag f).backup.calCounter = s.backup.calCounter := rfl
@[simp] theorem State.lampInvert_flag (f : Flag) : (s.flag f).backup.lampInvert = s.backup.lampInvert := rfl
@[simp] theorem State.mask_flag (f : Flag) : (s.flag f).backup.mask = s.backup.mask := rfl
@[simp] theorem State.modeAt_flag (f : Flag) (x : ModeReader) : (s.flag f).modeAt x = s.modeAt x := rfl
@[simp] theorem State.supplyAt_flag (f : Flag) (x : SupplyReader) : (s.flag f).supplyAt x = s.supplyAt x := rfl
@[simp] theorem State.boomAtArbiter_flag (f : Flag) (x : Barrier) : (s.flag f).boomAtArbiter x = s.boomAtArbiter x := rfl
@[simp] theorem State.boomAtLane_flag (f : Flag) (l : Lane) (x : Barrier) : (s.flag f).boomAtLane l x = s.boomAtLane l x := rfl
@[simp] theorem State.raised_flag (f : Flag) : (s.flag f).main.raised = s.main.raised := rfl
@[simp] theorem State.check_flag (f : Flag) : (s.flag f).check = s.check := rfl
@[simp] theorem State.running_flag (f : Flag) : (s.flag f).running = s.running := rfl
@[simp] theorem State.pending_flag (f : Flag) : (s.flag f).pending = s.pending := rfl

/-! ### An item after its own rewriting -/

@[simp] theorem State.arb_modArb_self (d : Deck) (f : Arbiter → Arbiter) : (s.modArb d f).arb d = f (s.arb d) := PerDeck.get_mod_self _ _ _
theorem State.arb_modArb_ne (d : Deck) (f : Arbiter → Arbiter) {x : Deck} (h : x ≠ d) : (s.modArb d f).arb x = s.arb x := PerDeck.get_mod_ne _ _ h
@[simp] theorem State.eng_modEng_self (d : Deck) (f : Engine → Engine) : (s.modEng d f).eng d = f (s.eng d) := PerDeck.get_mod_self _ _ _
theorem State.eng_modEng_ne (d : Deck) (f : Engine → Engine) {x : Deck} (h : x ≠ d) : (s.modEng d f).eng x = s.eng x := PerDeck.get_mod_ne _ _ h
@[simp] theorem State.win_modWin_self (d : Deck) (f : WindowWork → WindowWork) : (s.modWin d f).win d = f (s.win d) := PerDeck.get_mod_self _ _ _
theorem State.win_modWin_ne (d : Deck) (f : WindowWork → WindowWork) {x : Deck} (h : x ≠ d) : (s.modWin d f).win x = s.win x := PerDeck.get_mod_ne _ _ h
@[simp] theorem State.chan_modChan_self (d : Channel) (f : ChannelWork → ChannelWork) : (s.modChan d f).chan d = f (s.chan d) := Bank.get_mod_self _ _ _
theorem State.chan_modChan_ne (d : Channel) (f : ChannelWork → ChannelWork) {x : Channel} (h : x ≠ d) : (s.modChan d f).chan x = s.chan x := Bank.get_mod_ne _ _ h
@[simp] theorem State.lane_modLane_self (d : Lane) (f : LaneWork → LaneWork) : (s.modLane d f).lane d = f (s.lane d) := Bank.get_mod_self _ _ _
theorem State.lane_modLane_ne (d : Lane) (f : LaneWork → LaneWork) {x : Lane} (h : x ≠ d) : (s.modLane d f).lane x = s.lane x := Bank.get_mod_ne _ _ h
@[simp] theorem State.bar_modBar_self (d : Barrier) (f : BarrierWork → BarrierWork) : (s.modBar d f).bar d = f (s.bar d) := PerBarrier.get_mod_self _ _ _
theorem State.bar_modBar_ne (d : Barrier) (f : BarrierWork → BarrierWork) {x : Barrier} (h : x ≠ d) : (s.modBar d f).bar x = s.bar x := PerBarrier.get_mod_ne _ _ h
@[simp] theorem State.inp_modInp_self (d : Input) (f : ConditionerWork → ConditionerWork) : (s.modInp d f).inp d = f (s.inp d) := PerInput.get_mod_self _ _ _
theorem State.inp_modInp_ne (d : Input) (f : ConditionerWork → ConditionerWork) {x : Input} (h : x ≠ d) : (s.modInp d f).inp x = s.inp x := PerInput.get_mod_ne _ _ h
@[simp] theorem State.port_modPort_self (d : Port) (f : PortWork → PortWork) : (s.modPort d f).port d = f (s.port d) := Bank.get_mod_self _ _ _
theorem State.port_modPort_ne (d : Port) (f : PortWork → PortWork) {x : Port} (h : x ≠ d) : (s.modPort d f).port x = s.port x := Bank.get_mod_ne _ _ h
@[simp] theorem State.deckCfg_modDeckCfg_self (d : Deck) (f : DeckCfg → DeckCfg) : (s.modDeckCfg d f).deckCfg d = f (s.deckCfg d) := PerDeck.get_mod_self _ _ _
theorem State.deckCfg_modDeckCfg_ne (d : Deck) (f : DeckCfg → DeckCfg) {x : Deck} (h : x ≠ d) : (s.modDeckCfg d f).deckCfg x = s.deckCfg x := PerDeck.get_mod_ne _ _ h
@[simp] theorem State.chanCfg_modChanCfg_self (d : Channel) (f : ChannelCfg → ChannelCfg) : (s.modChanCfg d f).chanCfg d = f (s.chanCfg d) := Bank.get_mod_self _ _ _
theorem State.chanCfg_modChanCfg_ne (d : Channel) (f : ChannelCfg → ChannelCfg) {x : Channel} (h : x ≠ d) : (s.modChanCfg d f).chanCfg x = s.chanCfg x := Bank.get_mod_ne _ _ h
@[simp] theorem State.laneCfg_modLaneCfg_self (d : Lane) (f : LaneCfg → LaneCfg) : (s.modLaneCfg d f).laneCfg d = f (s.laneCfg d) := Bank.get_mod_self _ _ _
theorem State.laneCfg_modLaneCfg_ne (d : Lane) (f : LaneCfg → LaneCfg) {x : Lane} (h : x ≠ d) : (s.modLaneCfg d f).laneCfg x = s.laneCfg x := Bank.get_mod_ne _ _ h
@[simp] theorem State.barCfg_modBarCfg_self (d : Barrier) (f : BarrierCfg → BarrierCfg) : (s.modBarCfg d f).barCfg d = f (s.barCfg d) := PerBarrier.get_mod_self _ _ _
theorem State.barCfg_modBarCfg_ne (d : Barrier) (f : BarrierCfg → BarrierCfg) {x : Barrier} (h : x ≠ d) : (s.modBarCfg d f).barCfg x = s.barCfg x := PerBarrier.get_mod_ne _ _ h
@[simp] theorem State.inpCfg_modInpCfg_self (d : Input) (f : ConditionerCfg → ConditionerCfg) : (s.modInpCfg d f).inpCfg d = f (s.inpCfg d) := PerInput.get_mod_self _ _ _
theorem State.inpCfg_modInpCfg_ne (d : Input) (f : ConditionerCfg → ConditionerCfg) {x : Input} (h : x ≠ d) : (s.modInpCfg d f).inpCfg x = s.inpCfg x := PerInput.get_mod_ne _ _ h
@[simp] theorem State.portCfg_modPortCfg_self (d : Port) (f : PortCfg → PortCfg) : (s.modPortCfg d f).portCfg d = f (s.portCfg d) := Bank.get_mod_self _ _ _
theorem State.portCfg_modPortCfg_ne (d : Port) (f : PortCfg → PortCfg) {x : Port} (h : x ≠ d) : (s.modPortCfg d f).portCfg x = s.portCfg x := Bank.get_mod_ne _ _ h
@[simp] theorem State.recs_modRecs_self (f : Records → Records) : (s.modRecs f).recs = f s.recs := rfl
@[simp] theorem State.sup_modSup_self (f : Supervisor → Supervisor) : (s.modSup f).sup = f s.sup := rfl
@[simp] theorem State.port_modPorts_self (f : PortWork → PortWork) (x : Port) : (s.modPorts f).port x = f (s.port x) := by
  simp [State.modPorts, State.port, Vector.get_eq_getElem]
@[simp] theorem State.modeAt_setModeAt_self (r : ModeReader) (m : YardMode) : (s.setModeAt r m).modeAt r = m := by
  cases r <;> simp [State.setModeAt, State.modeAt, ModeViews.put, ModeViews.get]
theorem State.modeAt_setModeAt_ne (r : ModeReader) (m : YardMode) {x : ModeReader} (h : x ≠ r) :
    (s.setModeAt r m).modeAt x = s.modeAt x := by
  cases r <;> cases x <;>
    simp_all [State.setModeAt, State.modeAt, ModeViews.put, ModeViews.get, PerDeck.get_mod_ne, Bank.get_mod_ne]
/-- A reader that all readers' views gave one mode reads that mode. -/
@[simp] theorem ModeViews.get_all (m : YardMode) (r : ModeReader) : (ModeViews.all m).get r = m := by
  cases r <;> simp [ModeViews.all, ModeViews.get, PerDeck.get, Vector.get_eq_getElem]
  all_goals (rename_i d; cases d <;> rfl)
@[simp] theorem State.supplyAt_setSupplyAt_self (r : SupplyReader) (st : SupplyState) : (s.setSupplyAt r st).supplyAt r = st := by
  cases r <;> simp [State.setSupplyAt, State.supplyAt, SupplyViews.put, SupplyViews.get]
theorem State.supplyAt_setSupplyAt_ne (r : SupplyReader) (st : SupplyState) {x : SupplyReader} (h : x ≠ r) :
    (s.setSupplyAt r st).supplyAt x = s.supplyAt x := by
  cases r <;> cases x <;>
    simp_all [State.setSupplyAt, State.supplyAt, SupplyViews.put, SupplyViews.get, PerDeck.get_mod_ne, PerBarrier.get_mod_ne]
@[simp] theorem State.boomAtArbiter_setBoomAt_self (b : Barrier) (st : BarrierState) :
    (s.setBoomAt .arbiter b st).boomAtArbiter b = st := by
  simp [State.setBoomAt, State.boomAtArbiter, BarrierViews.put]
theorem State.boomAtArbiter_setBoomAt_ne (r : BarrierReader) (b : Barrier) (st : BarrierState) {x : Barrier}
    (h : r ≠ .arbiter ∨ x ≠ b) : (s.setBoomAt r b st).boomAtArbiter x = s.boomAtArbiter x := by
  cases r <;> simp_all [State.setBoomAt, State.boomAtArbiter, BarrierViews.put, PerBarrier.get_mod_ne]
@[simp] theorem State.boomAtLane_setBoomAt_self (l : Lane) (b : Barrier) (st : BarrierState) :
    (s.setBoomAt (.lane l) b st).boomAtLane l b = st := by
  simp [State.setBoomAt, State.boomAtLane, BarrierViews.put]
theorem State.boomAtLane_setBoomAt_ne (r : BarrierReader) (b : Barrier) (st : BarrierState) {l : Lane} {x : Barrier}
    (h : r ≠ .lane l ∨ x ≠ b) : (s.setBoomAt r b st).boomAtLane l x = s.boomAtLane l x := by
  cases r with
  | lane k =>
    by_cases e : l = k
    · subst e; simp_all [State.setBoomAt, State.boomAtLane, BarrierViews.put, PerBarrier.get_mod_ne]
    · simp [State.setBoomAt, State.boomAtLane, BarrierViews.put, Bank.get_mod_ne _ _ e]
  | _ => rfl
/-- An arbiter and a lane that every reader's view gave one state of the barriers read that state. -/
@[simp] theorem BarrierViews.arbiter_all (w : PerBarrier BarrierState) : (BarrierViews.all w).arbiter = w := rfl
@[simp] theorem BarrierViews.lane_all (w : PerBarrier BarrierState) (l : Lane) : (BarrierViews.all w).lane.get l = w := by
  simp [BarrierViews.all, Vector.get_eq_getElem]
@[simp] theorem State.check_seal_self : s.seal.check = checkValue s.backup := rfl
@[simp] theorem State.backup_seal : s.seal.backup = s.backup := rfl
@[simp] theorem State.main_seal : s.seal.main = s.main := rfl
@[simp] theorem State.raised_raise_self (cs : List Instr) : (s.raise cs).main.raised = s.main.raised ++ cs := rfl
@[simp] theorem State.raised_consume_self (c : Instr) : (s.consume c).main.raised = s.main.raised.erase c := rfl
@[simp] theorem State.port_flag_self (f : Flag) (x : Port) :
    (s.flag f).port x = { s.port x with latch := (s.port x).latch.set f } := by
  simp [State.flag]
@[simp] theorem State.port_post_self (k : Block) (n : NoticeBody) (o : Option Port) (x : Port) :
    (s.post k n o).port x =
      { s.port x with incoming := (s.port x).incoming ++ [{ block := k, body := n, at_ := s.ms, origin := o }] } := by
  simp [State.post]

end Sys2Proof.Machine
end

