-- ==== Sys2Proof/Laws/Inner.lean ====
section
/-! SUPPORT. The inner state under every rewriting, and what each shared operation can do: flags, notices, lamps, the
alarm line, the close of a step, and the taking of events and requests. -/

namespace Sys2Proof.Machine

set_option linter.all false

variable (s : State)

/-! ### The inner state under the rewritings of one item -/

@[simp] theorem State.inner_modRecs (f : Records → Records) : (s.modRecs f).inner = s.inner.modRecs f := rfl
@[simp] theorem State.inner_modBackup (f : Backup → Backup) : (s.modBackup f).inner = s.inner.modBackup f := rfl
@[simp] theorem State.inner_modArb (d : Deck) (f : Arbiter → Arbiter) : (s.modArb d f).inner = s.inner.modArb d f := rfl
@[simp] theorem State.inner_modEng (d : Deck) (f : Engine → Engine) : (s.modEng d f).inner = s.inner.modEng d f := rfl
@[simp] theorem State.inner_modWin (d : Deck) (f : WindowWork → WindowWork) :
    (s.modWin d f).inner = s.inner.modWin d f := rfl
@[simp] theorem State.inner_modChan (c : Channel) (f : ChannelWork → ChannelWork) :
    (s.modChan c f).inner = s.inner.modChan c f := rfl
@[simp] theorem State.inner_modBar (b : Barrier) (f : BarrierWork → BarrierWork) :
    (s.modBar b f).inner = s.inner.modBar b f := rfl
@[simp] theorem State.inner_modInp (i : Input) (f : ConditionerWork → ConditionerWork) :
    (s.modInp i f).inner = s.inner.modInp i f := rfl
@[simp] theorem State.inner_modDeckCfg (d : Deck) (f : DeckCfg → DeckCfg) :
    (s.modDeckCfg d f).inner = s.inner.modDeckCfg d f := rfl
@[simp] theorem State.inner_modChanCfg (c : Channel) (f : ChannelCfg → ChannelCfg) :
    (s.modChanCfg c f).inner = s.inner.modChanCfg c f := rfl
@[simp] theorem State.inner_modLaneCfg (l : Lane) (f : LaneCfg → LaneCfg) :
    (s.modLaneCfg l f).inner = s.inner.modLaneCfg l f := rfl
@[simp] theorem State.inner_modBarCfg (b : Barrier) (f : BarrierCfg → BarrierCfg) :
    (s.modBarCfg b f).inner = s.inner.modBarCfg b f := rfl
@[simp] theorem State.inner_modInpCfg (i : Input) (f : ConditionerCfg → ConditionerCfg) :
    (s.modInpCfg i f).inner = s.inner.modInpCfg i f := rfl
@[simp] theorem State.inner_modPortCfg (p : Port) (f : PortCfg → PortCfg) :
    (s.modPortCfg p f).inner = s.inner.modPortCfg p f := rfl
@[simp] theorem State.inner_raise (cs : List Instr) : (s.raise cs).inner = s.inner.raise cs := rfl
@[simp] theorem State.inner_consume (c : Instr) : (s.consume c).inner = s.inner.consume c := rfl
@[simp] theorem State.inner_setModeAt (r : ModeReader) (m : YardMode) :
    (s.setModeAt r m).inner = s.inner.setModeAt r m := rfl
@[simp] theorem State.inner_setSupplyAt (r : SupplyReader) (st : SupplyState) :
    (s.setSupplyAt r st).inner = s.inner.setSupplyAt r st := rfl
@[simp] theorem State.inner_setBoomAt (r : BarrierReader) (b : Barrier) (st : BarrierState) :
    (s.setBoomAt r b st).inner = s.inner.setBoomAt r b st := rfl
@[simp] theorem State.inner_seal : s.seal.inner = s.inner := rfl
@[simp] theorem State.inner_modPort (p : Port) (f : PortWork → PortWork) : (s.modPort p f).inner = s.inner := rfl
@[simp] theorem State.inner_modPorts (f : PortWork → PortWork) : (s.modPorts f).inner = s.inner := rfl
@[simp] theorem State.inner_post (k : Block) (n : NoticeBody) (o : Option Port) : (s.post k n o).inner = s.inner := rfl
@[simp] theorem State.inner_flag (f : Flag) : (s.flag f).inner = s.inner := rfl
@[simp] theorem State.inner_reply (q : Sender) (k : Nat) (r : Reply) : (s.reply q k r).inner = s.inner := rfl

@[simp] theorem State.inner_flagIf (b : Bool) (f : Flag) : (s.flagIf b f).inner = s.inner := by
  cases b <;> rfl

/-- The inner state keeps of the supervisor all but the alarm line. -/
@[simp] theorem State.inner_modSup (f : Supervisor → Supervisor) :
    (s.modSup f).inner = s.inner.modSup fun _ => { f s.sup with alarm := false } := rfl

/-- The inner state keeps of a lane all but its lamps. -/
@[simp] theorem State.inner_modLane (l : Lane) (f : LaneWork → LaneWork) :
    (s.modLane l f).inner = s.inner.modLane l fun _ => (f (s.lane l)).unlit := by
  have h : ∀ (v : Bank 4 LaneWork) (x : LaneWork),
      (Bank.mod v l fun _ => x).map LaneWork.unlit = Bank.mod (v.map LaneWork.unlit) l fun _ => x.unlit := by
    intro v x; simp [Bank.mod]
  have h' := h s.main.lanes (f (s.lane l))
  simp only [State.inner, State.modLane, State.lane, Bank.mod] at h' ⊢
  simp only [h']

/-- Putting back what a lane's inner state already holds changes nothing. -/
@[simp] theorem State.inner_putLane (l : Lane) : (s.inner.modLane l fun _ => (s.lane l).unlit) = s.inner := by
  have h : (Bank.mod (s.main.lanes.map LaneWork.unlit) l fun _ => (s.lane l).unlit) =
      s.main.lanes.map LaneWork.unlit := by
    ext i hi
    by_cases e : l.val = i
    · subst e; simp [Bank.mod, State.lane, Vector.get_eq_getElem]
    · simp [Bank.mod, State.lane, Vector.get_eq_getElem, Vector.getElem_set, e]
  simp only [State.inner, State.modLane, h]

/-! ### Lamps and the alarm line -/

@[simp] theorem State.inner_judgeLamps (l : Lane) : (s.judgeLamps l).inner = s.inner := by
  rw [State.judgeLamps, State.inner_modLane]
  exact State.inner_putLane s l

@[simp] theorem State.port_judgeLamps (l : Lane) (p : Port) : (s.judgeLamps l).port p = s.port p := rfl
@[simp] theorem State.sup_judgeLamps (l : Lane) : (s.judgeLamps l).sup = s.sup := rfl

@[simp] theorem State.inner_judgeAlarm : s.judgeAlarm.inner = s.inner := by
  unfold State.judgeAlarm
  split
  · rfl
  · simp only [State.inner_post, State.inner_modSup]
    rfl

/-- What judging the alarm line does to the ports: a change posts one ALARM_LINE, with the sources (R182). -/
theorem State.incoming_judgeAlarm (p : Port) :
    (s.judgeAlarm.port p).incoming = (s.port p).incoming ++
      (if s.sup.alarm = s.alarming.any then [] else
        [{ block := .supervisor, body := .alarmLine s.alarming.any s.alarming, at_ := s.ms, origin := none }]) := by
  unfold State.judgeAlarm
  split
  · simp
  · simp
    rfl

@[simp] theorem State.bare_judgeAlarm (p : Port) : (s.judgeAlarm.port p).bare = (s.port p).bare := by
  unfold State.judgeAlarm
  split <;> simp [PortWork.bare]

/-- The alarm line stands as the sources give it, once judged. -/
@[simp] theorem State.alarm_judgeAlarm : s.judgeAlarm.sup.alarm = s.alarming.any := by
  unfold State.judgeAlarm
  split
  · assumption
  · simp

@[simp] theorem State.alarming_judgeAlarm : s.judgeAlarm.alarming = s.alarming := by
  unfold State.judgeAlarm
  split <;> rfl

@[simp] theorem State.alarming_seal : s.seal.alarming = s.alarming := rfl
@[simp] theorem State.alarming_flag (f : Flag) : (s.flag f).alarming = s.alarming := rfl
@[simp] theorem State.alarming_flagIf (b : Bool) (f : Flag) : (s.flagIf b f).alarming = s.alarming := by
  cases b <;> rfl
@[simp] theorem State.sup_flagIf (b : Bool) (f : Flag) : (s.flagIf b f).sup = s.sup := by
  cases b <;> rfl
@[simp] theorem State.running_flagIf (b : Bool) (f : Flag) : (s.flagIf b f).running = s.running := by
  cases b <;> rfl
@[simp] theorem State.ms_flagIf (b : Bool) (f : Flag) : (s.flagIf b f).ms = s.ms := by
  cases b <;> rfl
@[simp] theorem State.running_judgeAlarm : s.judgeAlarm.running = s.running := by
  unfold State.judgeAlarm
  split <;> rfl

theorem Latch.set_holds (x : Latch) (f : Flag) : (x.set f).holds f = true := by cases f <;> rfl

theorem Latch.set_keeps (x : Latch) (f g : Flag) (h : x.holds g = true) : (x.set f).holds g = true := by
  cases f <;> cases g <;> first | rfl | exact h

theorem State.holds_flagIf (b : Bool) (f g : Flag) (p : Port) :
    ((s.flagIf b f).port p).latch.holds g = ((s.port p).latch.holds g || (b && decide (f = g))) := by
  cases b
  · simp [State.flagIf]
  · cases f <;> cases g <;> simp [State.flagIf, Latch.set, Latch.holds]

@[simp] theorem State.latch_judgeAlarm (p : Port) : (s.judgeAlarm.port p).latch = (s.port p).latch := by
  unfold State.judgeAlarm
  split <;> simp

@[simp] theorem State.bare_flagIf (b : Bool) (f : Flag) (p : Port) : ((s.flagIf b f).port p).bare = (s.port p).bare := by
  cases b <;> simp [State.flagIf, PortWork.bare]

@[simp] theorem State.incoming_flagIf (b : Bool) (f : Flag) (p : Port) :
    ((s.flagIf b f).port p).incoming = (s.port p).incoming := by
  cases b <;> simp [State.flagIf]

/-! ### The close of a step -/

theorem settleLamps_inner (old new : State) : (settleLamps old new).inner = new.inner := by
  simp only [settleLamps, Lane.all, List.foldl_cons, List.foldl_nil]
  repeat' split
  all_goals simp

theorem settleLamps_port (old new : State) (p : Port) : (settleLamps old new).port p = new.port p := by
  simp only [settleLamps, Lane.all, List.foldl_cons, List.foldl_nil]
  repeat' split
  all_goals simp

theorem settleLamps_sup (old new : State) : (settleLamps old new).sup = new.sup := by
  simp only [settleLamps, Lane.all, List.foldl_cons, List.foldl_nil]
  repeat' split
  all_goals simp

theorem settleLamps_alarming (old new : State) : (settleLamps old new).alarming = new.alarming := by
  simp only [settleLamps, Lane.all, List.foldl_cons, List.foldl_nil]
  repeat' split
  all_goals rfl

theorem settleLamps_running (old new : State) : (settleLamps old new).running = new.running := by
  simp only [settleLamps, Lane.all, List.foldl_cons, List.foldl_nil]
  repeat' split
  all_goals rfl

/-- The close of a step leaves the inner state as the step made it. -/
@[simp] theorem State.inner_settle (old new : State) : (State.settle old new).inner = new.inner := by
  simp [State.settle, settleFlags, settleLamps_inner]

@[simp] theorem State.bare_settle (old new : State) (p : Port) :
    ((State.settle old new).port p).bare = (new.port p).bare := by
  simp [State.settle, settleFlags, settleLamps_port]

/-- After the close of a step the alarm line stands as the sources give it (R182). -/
theorem State.alarm_settle (old new : State) :
    (State.settle old new).sup.alarm = (State.settle old new).alarming.any := by
  simp [State.settle, settleFlags]

@[simp] theorem State.alarming_settle (old new : State) : (State.settle old new).alarming = new.alarming := by
  simp [State.settle, settleFlags, settleLamps_alarming]

/-- After the close of a step the check value is that of the contents of the backup domain (R181). -/
@[simp] theorem State.check_settle (old new : State) :
    (State.settle old new).check = checkValue (State.settle old new).backup := rfl

@[simp] theorem State.running_settle (old new : State) : (State.settle old new).running = new.running := by
  simp [State.settle, settleFlags, settleLamps_running]

/-! ### Taking events and requests -/

/-- An event that is taken. -/
theorem event_spec (c : Instr) (f : State → State) (h : s.running = true) :
    event c f s = .next (State.settle s (f (s.consume c))) := by simp [event, h]

/-- An event finds nothing to take it while the main domain is stopped. -/
theorem event_stopped (c : Instr) (f : State → State) (h : s.running = false) : event c f s = .next s := by
  simp [event, h]

/-- An event whose effect, on the state it is taken in, is `u`. -/
theorem event_after (c : Instr) (f u : State → State) (h : s.running = true)
    (hu : f (s.consume c) = u (s.consume c)) : event c f s = .next (s.after c u) := by
  rw [event_spec s c f h, hu]; rfl

/-- A request finds nothing to take it while the main domain is stopped. -/
theorem request_stopped (c : Instr) (q : Sender) (f : Serve) (h : s.running = false) : request c q f s = .next s := by
  simp [request, h]

/-- A request that is taken is served under its role, and answered. -/
theorem request_spec (c : Instr) (q : Sender) (f : Serve) (role : Role) (h : s.Taken c q role) :
    request c q f s =
      .next (State.settle s ((f role (s.handed c q)).1.reply q c.requestCode (f role (s.handed c q)).2)) := by
  obtain ⟨hr, h⟩ := h
  rcases h with ⟨hm, rfl⟩ | ⟨hm, hh, hp, rfl⟩
  · simp [request, hr, State.takeRequest, State.handed, hm, State.serveHand]
  · simp [request, hr, State.takeRequest, State.handed, hm, hh, hp, State.serveHand]

/-- A request whose owning block makes `u` of the state and answers `r`. -/
theorem request_answered (c : Instr) (q : Sender) (f : Serve) (role : Role) (u : State → State) (r : Reply)
    (h : s.Taken c q role) (hu : f role (s.handed c q) = (u (s.handed c q), r)) :
    request c q f s = .next (s.answered c q u r) := by
  rw [request_spec s c q f role h, hu]; rfl

end Sys2Proof.Machine
end

