-- ==== Sys2Proof/Laws/Taking.lean ====
section
/-! SUPPORT. What the taking of a command leaves as it was: an event that waits no longer (`State.consume`) and a request
in hand (`State.handed`) change no reading of any other item. -/

namespace Sys2Proof.Machine

set_option linter.all false

variable (s : State)

/-! ### Readings that the taking of a command leaves alone -/

@[simp] theorem State.recs_handed (c : Instr) (q : Sender) : (s.handed c q).recs = s.recs := by
 unfold State.handed; split <;> rfl
@[simp] theorem State.arb_handed (c : Instr) (q : Sender) (x : Deck) : (s.handed c q).arb x = s.arb x := by
 unfold State.handed; split <;> rfl
@[simp] theorem State.eng_handed (c : Instr) (q : Sender) (x : Deck) : (s.handed c q).eng x = s.eng x := by
 unfold State.handed; split <;> rfl
@[simp] theorem State.win_handed (c : Instr) (q : Sender) (x : Deck) : (s.handed c q).win x = s.win x := by
 unfold State.handed; split <;> rfl
@[simp] theorem State.chan_handed (c : Instr) (q : Sender) (x : Channel) : (s.handed c q).chan x = s.chan x := by
 unfold State.handed; split <;> rfl
@[simp] theorem State.lane_handed (c : Instr) (q : Sender) (x : Lane) : (s.handed c q).lane x = s.lane x := by
 unfold State.handed; split <;> rfl
@[simp] theorem State.bar_handed (c : Instr) (q : Sender) (x : Barrier) : (s.handed c q).bar x = s.bar x := by
 unfold State.handed; split <;> rfl
@[simp] theorem State.inp_handed (c : Instr) (q : Sender) (x : Input) : (s.handed c q).inp x = s.inp x := by
 unfold State.handed; split <;> rfl
@[simp] theorem State.sup_handed (c : Instr) (q : Sender) : (s.handed c q).sup = s.sup := by
 unfold State.handed; split <;> rfl
@[simp] theorem State.ms_handed (c : Instr) (q : Sender) : (s.handed c q).ms = s.ms := by
 unfold State.handed; split <;> rfl
@[simp] theorem State.deckCfg_handed (c : Instr) (q : Sender) (x : Deck) : (s.handed c q).deckCfg x = s.deckCfg x := by
 unfold State.handed; split <;> rfl
@[simp] theorem State.chanCfg_handed (c : Instr) (q : Sender) (x : Channel) : (s.handed c q).chanCfg x = s.chanCfg x := by
 unfold State.handed; split <;> rfl
@[simp] theorem State.laneCfg_handed (c : Instr) (q : Sender) (x : Lane) : (s.handed c q).laneCfg x = s.laneCfg x := by
 unfold State.handed; split <;> rfl
@[simp] theorem State.barCfg_handed (c : Instr) (q : Sender) (x : Barrier) : (s.handed c q).barCfg x = s.barCfg x := by
 unfold State.handed; split <;> rfl
@[simp] theorem State.inpCfg_handed (c : Instr) (q : Sender) (x : Input) : (s.handed c q).inpCfg x = s.inpCfg x := by
 unfold State.handed; split <;> rfl
@[simp] theorem State.portCfg_handed (c : Instr) (q : Sender) (x : Port) : (s.handed c q).portCfg x = s.portCfg x := by
 unfold State.handed; split <;> rfl
@[simp] theorem State.mode_handed (c : Instr) (q : Sender) : (s.handed c q).mode = s.mode := by
 unfold State.handed; split <;> rfl
@[simp] theorem State.backup_handed (c : Instr) (q : Sender) : (s.handed c q).backup = s.backup := by
 unfold State.handed; split <;> rfl
@[simp] theorem State.running_handed (c : Instr) (q : Sender) : (s.handed c q).running = s.running := by
 unfold State.handed; split <;> rfl
@[simp] theorem State.pending_handed (c : Instr) (q : Sender) : (s.handed c q).pending = s.pending := by
 unfold State.handed; split <;> rfl
@[simp] theorem State.calibrated_handed (c : Instr) (q : Sender) (x : Deck) : (s.handed c q).calibrated x = s.calibrated x := by
 unfold State.handed; split <;> rfl
@[simp] theorem State.channelSet_handed (c : Instr) (q : Sender) (x : Deck) : (s.handed c q).channelSet x = s.channelSet x := by
 unfold State.handed; split <;> rfl
@[simp] theorem State.deckConditions_handed (c : Instr) (q : Sender) (x : Deck) : (s.handed c q).deckConditions x = s.deckConditions x := by
 unfold State.handed; split <;> rfl
@[simp] theorem State.deckEmptyCondition_handed (c : Instr) (q : Sender) (x : Deck) : (s.handed c q).deckEmptyCondition x = s.deckEmptyCondition x := by
 unfold State.handed; split <;> rfl
@[simp] theorem State.boomClear_handed (c : Instr) (q : Sender) (x : Barrier) : (s.handed c q).boomClear x = s.boomClear x := by
 unfold State.handed; split <;> rfl
@[simp] theorem State.loopActive_handed (c : Instr) (q : Sender) (x : Lane) : (s.handed c q).loopActive x = s.loopActive x := by
 unfold State.handed; split <;> rfl
@[simp] theorem State.deckClear_handed (c : Instr) (q : Sender) (x : Deck) : (s.handed c q).deckClear x = s.deckClear x := by
 unfold State.handed; split <;> rfl
@[simp] theorem State.supplyLow_handed (c : Instr) (q : Sender) : (s.handed c q).supplyLow = s.supplyLow := by
 unfold State.handed; split <;> rfl
@[simp] theorem State.permissiveNow_handed (c : Instr) (q : Sender) (x : Barrier) : (s.handed c q).permissiveNow x = s.permissiveNow x := by
 unfold State.handed; split <;> rfl
@[simp] theorem State.drainCondition_handed (c : Instr) (q : Sender) : (s.handed c q).drainCondition = s.drainCondition := by
 unfold State.handed; split <;> rfl
@[simp] theorem State.byLoop_handed (c : Instr) (q : Sender) (x : Lane) : (s.handed c q).byLoop x = s.byLoop x := by
 unfold State.handed; split <;> rfl
@[simp] theorem State.released_handed (c : Instr) (q : Sender) (x : Deck) : (s.handed c q).released x = s.released x := by
 unfold State.handed; split <;> rfl
@[simp] theorem State.currentEntry_handed (c : Instr) (q : Sender) (x : Deck) : (s.handed c q).currentEntry x = s.currentEntry x := by
 unfold State.handed; split <;> rfl
@[simp] theorem State.onBoundary_handed (c : Instr) (q : Sender) (x : Deck) : (s.handed c q).onBoundary x = s.onBoundary x := by
 unfold State.handed; split <;> rfl
@[simp] theorem State.mayLower_handed (c : Instr) (q : Sender) (x : Barrier) : (s.handed c q).mayLower x = s.mayLower x := by
 unfold State.handed; split <;> rfl
@[simp] theorem State.toggles_handed (c : Instr) (q : Sender) (x : Barrier) : (s.handed c q).toggles x = s.toggles x := by
 unfold State.handed; split <;> rfl
@[simp] theorem State.eligible_handed (c : Instr) (q : Sender) (x : Deck) : (s.handed c q).eligible x = s.eligible x := by
 unfold State.handed; split <;> rfl
@[simp] theorem State.mayStart_handed (c : Instr) (q : Sender) (x : Deck) : (s.handed c q).mayStart x = s.mayStart x := by
 unfold State.handed; split <;> rfl
@[simp] theorem State.inputFree_handed (c : Instr) (q : Sender) (x : Input) : (s.handed c q).inputFree x = s.inputFree x := by
 unfold State.handed; split <;> rfl
@[simp] theorem State.deckInUse_handed (c : Instr) (q : Sender) (x : Deck) : (s.handed c q).deckInUse x = s.deckInUse x := by
 unfold State.handed; split <;> rfl
@[simp] theorem State.counterReply_handed (c : Instr) (q : Sender) : (s.handed c q).counterReply = s.counterReply := by
 unfold State.handed; split <;> rfl
@[simp] theorem State.sources_handed (c : Instr) (q : Sender) : (s.handed c q).sources = s.sources := by
 unfold State.handed; split <;> rfl
@[simp] theorem State.readout_handed (c : Instr) (q : Sender) (x : Deck) : (s.handed c q).readout x = s.readout x := by
 unfold State.handed; split <;> rfl
@[simp] theorem State.barrierLine_handed (c : Instr) (q : Sender) (x : Barrier) : (s.handed c q).barrierLine x = s.barrierLine x := by
 unfold State.handed; split <;> rfl
@[simp] theorem State.inputLine_handed (c : Instr) (q : Sender) (x : Input) : (s.handed c q).inputLine x = s.inputLine x := by
 unfold State.handed; split <;> rfl
@[simp] theorem State.tickSource_handed (c : Instr) (q : Sender) : (s.handed c q).tickSource = s.tickSource := by
 unfold State.handed; split <;> rfl
@[simp] theorem State.deckWindows_handed (c : Instr) (q : Sender) (x : Deck) : (s.handed c q).deckWindows x = s.deckWindows x := by
 unfold State.handed; split <;> rfl
@[simp] theorem State.channelLine_handed (c : Instr) (q : Sender) (x : Channel) : (s.handed c q).channelLine x = s.channelLine x := by
 unfold State.handed; split <;> rfl
@[simp] theorem State.windowLength_handed (c : Instr) (q : Sender) (x : Deck) : (s.handed c q).windowLength x = s.windowLength x := by
 unfold State.handed; split <;> rfl

@[simp] theorem State.calibrated_consume (c : Instr) (x : Deck) : (s.consume c).calibrated x = s.calibrated x := rfl
@[simp] theorem State.channelSet_consume (c : Instr) (x : Deck) : (s.consume c).channelSet x = s.channelSet x := rfl
@[simp] theorem State.deckConditions_consume (c : Instr) (x : Deck) : (s.consume c).deckConditions x = s.deckConditions x := rfl
@[simp] theorem State.deckEmptyCondition_consume (c : Instr) (x : Deck) : (s.consume c).deckEmptyCondition x = s.deckEmptyCondition x := rfl
@[simp] theorem State.boomClear_consume (c : Instr) (x : Barrier) : (s.consume c).boomClear x = s.boomClear x := rfl
@[simp] theorem State.loopActive_consume (c : Instr) (x : Lane) : (s.consume c).loopActive x = s.loopActive x := rfl
@[simp] theorem State.deckClear_consume (c : Instr) (x : Deck) : (s.consume c).deckClear x = s.deckClear x := rfl
@[simp] theorem State.supplyLow_consume (c : Instr) : (s.consume c).supplyLow = s.supplyLow := rfl
@[simp] theorem State.permissiveNow_consume (c : Instr) (x : Barrier) : (s.consume c).permissiveNow x = s.permissiveNow x := rfl
@[simp] theorem State.drainCondition_consume (c : Instr) : (s.consume c).drainCondition = s.drainCondition := rfl
@[simp] theorem State.byLoop_consume (c : Instr) (x : Lane) : (s.consume c).byLoop x = s.byLoop x := rfl
@[simp] theorem State.released_consume (c : Instr) (x : Deck) : (s.consume c).released x = s.released x := rfl
@[simp] theorem State.currentEntry_consume (c : Instr) (x : Deck) : (s.consume c).currentEntry x = s.currentEntry x := rfl
@[simp] theorem State.onBoundary_consume (c : Instr) (x : Deck) : (s.consume c).onBoundary x = s.onBoundary x := rfl
@[simp] theorem State.mayLower_consume (c : Instr) (x : Barrier) : (s.consume c).mayLower x = s.mayLower x := rfl
@[simp] theorem State.toggles_consume (c : Instr) (x : Barrier) : (s.consume c).toggles x = s.toggles x := rfl
@[simp] theorem State.eligible_consume (c : Instr) (x : Deck) : (s.consume c).eligible x = s.eligible x := rfl
@[simp] theorem State.mayStart_consume (c : Instr) (x : Deck) : (s.consume c).mayStart x = s.mayStart x := rfl
@[simp] theorem State.inputFree_consume (c : Instr) (x : Input) : (s.consume c).inputFree x = s.inputFree x := rfl
@[simp] theorem State.deckInUse_consume (c : Instr) (x : Deck) : (s.consume c).deckInUse x = s.deckInUse x := rfl
@[simp] theorem State.counterReply_consume (c : Instr) : (s.consume c).counterReply = s.counterReply := rfl
@[simp] theorem State.sources_consume (c : Instr) : (s.consume c).sources = s.sources := rfl
@[simp] theorem State.readout_consume (c : Instr) (x : Deck) : (s.consume c).readout x = s.readout x := rfl
@[simp] theorem State.barrierLine_consume (c : Instr) (x : Barrier) : (s.consume c).barrierLine x = s.barrierLine x := rfl
@[simp] theorem State.inputLine_consume (c : Instr) (x : Input) : (s.consume c).inputLine x = s.inputLine x := rfl
@[simp] theorem State.tickSource_consume (c : Instr) : (s.consume c).tickSource = s.tickSource := rfl
@[simp] theorem State.deckWindows_consume (c : Instr) (x : Deck) : (s.consume c).deckWindows x = s.deckWindows x := rfl
@[simp] theorem State.channelLine_consume (c : Instr) (x : Channel) : (s.consume c).channelLine x = s.channelLine x := rfl
@[simp] theorem State.windowLength_consume (c : Instr) (x : Deck) : (s.consume c).windowLength x = s.windowLength x := rfl
@[simp] theorem State.backup_consume (c : Instr) : (s.consume c).backup = s.backup := rfl

@[simp] theorem State.modeAt_handed (c : Instr) (q : Sender) (r : ModeReader) : (s.handed c q).modeAt r = s.modeAt r := by
  unfold State.handed; split <;> rfl
@[simp] theorem State.supplyAt_handed (c : Instr) (q : Sender) (r : SupplyReader) : (s.handed c q).supplyAt r = s.supplyAt r := by
  unfold State.handed; split <;> rfl
@[simp] theorem State.lowAt_handed (c : Instr) (q : Sender) (r : SupplyReader) : (s.handed c q).lowAt r = s.lowAt r := by
  unfold State.handed; split <;> rfl
@[simp] theorem State.boomAtArbiter_handed (c : Instr) (q : Sender) (b : Barrier) : (s.handed c q).boomAtArbiter b = s.boomAtArbiter b := by
  unfold State.handed; split <;> rfl
@[simp] theorem State.boomAtLane_handed (c : Instr) (q : Sender) (l : Lane) (b : Barrier) : (s.handed c q).boomAtLane l b = s.boomAtLane l b := by
  unfold State.handed; split <;> rfl
@[simp] theorem State.lowAt_consume (c : Instr) (r : SupplyReader) : (s.consume c).lowAt r = s.lowAt r := rfl
@[simp] theorem State.check_handed (c : Instr) (q : Sender) : (s.handed c q).check = s.check := by
  unfold State.handed; split <;> rfl
@[simp] theorem State.backupOk_handed (c : Instr) (q : Sender) (x : Start) : (s.handed c q).backupOk x = s.backupOk x := by
  unfold State.handed; split <;> rfl
@[simp] theorem State.capturing_handed (c : Instr) (q : Sender) (e : Entry) : (s.handed c q).capturing e = s.capturing e := by
  unfold State.handed; split <;> rfl
@[simp] theorem State.lampSource_handed (c : Instr) (q : Sender) (l : Lane) (x : LampSource) :
    (s.handed c q).lampSource l x = s.lampSource l x := by
  unfold State.handed; split <;> rfl
@[simp] theorem State.lampSource_consume (c : Instr) (l : Lane) (x : LampSource) :
    (s.consume c).lampSource l x = s.lampSource l x := rfl
@[simp] theorem State.identifyLane_handed (c : Instr) (q : Sender) (role : Role) (q' : Sender) (n : Nat) :
    (s.handed c q).identifyLane role q' n = s.identifyLane role q' n := by
  unfold State.handed; split <;> rfl
@[simp] theorem State.admissionRefusal_handed (c : Instr) (q : Sender) (l : Lane) (p : Plate) (m : Mode) :
    (s.handed c q).admissionRefusal l p m = s.admissionRefusal l p m := by
  unfold State.handed; split <;> rfl
@[simp] theorem State.recallRefusal_handed (c : Instr) (q : Sender) (l : Lane) (e : Entry) (i : Intent) :
    (s.handed c q).recallRefusal l e i = s.recallRefusal l e i := by
  unfold State.handed; split <;> rfl
@[simp] theorem State.collectionRefusal_handed (c : Instr) (q : Sender) (d : Deck) :
    (s.handed c q).collectionRefusal d = s.collectionRefusal d := by
  unfold State.handed; split <;> rfl
@[simp] theorem State.collectionRefusal_consume (c : Instr) (d : Deck) :
    (s.consume c).collectionRefusal d = s.collectionRefusal d := rfl

/-- A request in hand at a port is not what its other items are. -/
theorem State.port_handed (c : Instr) (q : Sender) (p : Port) :
    (s.handed c q).port p =
      if c ∉ s.main.raised ∧ p = q.port then
        { s.port q.port with hand := some { tag := q.tag, role := (s.portCfg q.port).role } }
      else s.port p := by
  unfold State.handed
  by_cases h : c ∈ s.main.raised
  · simp [h]
  · by_cases e : p = q.port
    · subst e; simp [h]
    · simp [h, e, State.port_modPort_ne]

end Sys2Proof.Machine
end

