-- ==== Sys2Proof/Laws/Exec.lean ====
section
/-! SUPPORT. What `exec` is for each command: how its meaning takes it. Each holds by unfolding alone. -/

namespace Sys2Proof.Machine

set_option linter.all false

theorem exec_filing (d : Deck) (l : Lane) (number : Nat) (kind : FilingKind) (priority : Nat) (s : State) :
    exec (.filing d l number kind priority) s =
      event (.filing d l number kind priority) (fun s => s.modArb d fun a => a.setSlot l (some { number := number, kind := kind, priority := priority, time := s.ms })) s := rfl

theorem exec_choice (d : Deck) (s : State) :
    exec (.choice d) s =
      event (.choice d) (fun s => s.makeChoice d) s := rfl

theorem exec_withdrawal (d : Deck) (l : Lane) (s : State) :
    exec (.withdrawal d l) s =
      event (.withdrawal d l) (fun s => s.withdrawal d l) s := rfl

theorem exec_acceptance (d : Deck) (l : Lane) (number : Nat) (s : State) :
    exec (.acceptance d l number) s =
      event (.acceptance d l number) (fun s => s.acceptance d l number) s := rfl

theorem exec_decline (d : Deck) (l : Lane) (number : Nat) (s : State) :
    exec (.decline d l number) s =
      event (.decline d l number) (fun s => s.decline d l number) s := rfl

theorem exec_proceedTimeout (d : Deck) (s : State) :
    exec (.proceedTimeout d) s =
      event (.proceedTimeout d) (fun s => s.proceedTimeout d) s := rfl

theorem exec_entryLoopEdgeAtArbiter (d : Deck) (e : Edge) (s : State) :
    exec (.entryLoopEdgeAtArbiter d e) s =
      execEntryLoopEdgeAtArbiter d e s := rfl

theorem exec_exitLoopEdgeAtArbiter (d : Deck) (e : Edge) (s : State) :
    exec (.exitLoopEdgeAtArbiter d e) s =
      event (.exitLoopEdgeAtArbiter d e) (fun s => match e with | .rising => s | .falling => s.exitFall d) s := rfl

theorem exec_exitReleaseAtArbiter (d : Deck) (number : Option Nat) (s : State) :
    exec (.exitReleaseAtArbiter d number) s =
      event (.exitReleaseAtArbiter d number) (fun s => s.exitRelease d number) s := rfl

theorem exec_captureCompletionAtArbiter (r : CaptureResult) (s : State) :
    exec (.captureCompletionAtArbiter r) s =
      event (.captureCompletionAtArbiter r) (fun s => s.modCurrent r.deck r.number fun c => { c with outcome := .done r.weight r.cls }) s := rfl

theorem exec_captureFailureAtArbiter (d : Deck) (number : Nat) (reason : FailReason) (s : State) :
    exec (.captureFailureAtArbiter d number reason) s =
      event (.captureFailureAtArbiter d number reason) (fun s => s.modCurrent d number fun c => { c with outcome := .failed reason }) s := rfl

theorem exec_forceExitNoticeAtArbiter (d : Deck) (number : Nat) (s : State) :
    exec (.forceExitNoticeAtArbiter d number) s =
      event (.forceExitNoticeAtArbiter d number) (fun s => s.forceExitNotice d number) s := rfl

theorem exec_deckEmpty (d : Deck) (s : State) :
    exec (.deckEmpty d) s =
      event (.deckEmpty d) (fun s => s.deckEmpty d) s := rfl

theorem exec_barrierStateTaken (reader : BarrierReader) (b : Barrier) (st : BarrierState) (s : State) :
    exec (.barrierStateTaken reader b st) s =
      event (.barrierStateTaken reader b st) (fun s => s.barrierStateTaken reader b st) s := rfl

theorem exec_setProceedTime (q : Sender) (deck seconds : Nat) (s : State) :
    exec (.setProceedTime q deck seconds) s =
      request (.setProceedTime q deck seconds) q (serveSetProceedTime deck seconds) s := rfl

theorem exec_clearTailgate (q : Sender) (deck : Nat) (s : State) :
    exec (.clearTailgate q deck) s =
      request (.clearTailgate q deck) q (serveClearTailgate deck) s := rfl

theorem exec_setDeckService (q : Sender) (deck setting : Nat) (s : State) :
    exec (.setDeckService q deck setting) s =
      request (.setDeckService q deck setting) q (serveSetDeckService deck setting) s := rfl

theorem exec_readDeckState (q : Sender) (deck : Nat) (s : State) :
    exec (.readDeckState q deck) s =
      request (.readDeckState q deck) q (serveReadDeckState deck) s := rfl

theorem exec_permissiveRise (b : Barrier) (s : State) :
    exec (.permissiveRise b) s =
      event (.permissiveRise b) (fun s => s.permissiveRise b) s := rfl

theorem exec_permissiveFall (b : Barrier) (s : State) :
    exec (.permissiveFall b) s =
      event (.permissiveFall b) (fun s => s.permissiveFall b) s := rfl

theorem exec_barrierLoopEdge (b : Barrier) (e : Edge) (s : State) :
    exec (.barrierLoopEdge b e) s =
      event (.barrierLoopEdge b e) (fun s => s.barrierLoopEdge b e) s := rfl

theorem exec_closeDelayExpiry (b : Barrier) (s : State) :
    exec (.closeDelayExpiry b) s =
      event (.closeDelayExpiry b) (fun s => s.closeDelayExpiry b) s := rfl

theorem exec_motionTimeout (b : Barrier) (s : State) :
    exec (.motionTimeout b) s =
      event (.motionTimeout b) (fun s => s.motionTimeout b) s := rfl

theorem exec_limitEvent (b : Barrier) (which : LimitSwitch) (s : State) :
    exec (.limitEvent b which) s =
      event (.limitEvent b which) (fun s => s.limitEvent b which) s := rfl

theorem exec_keepaliveToggle (b : Barrier) (s : State) :
    exec (.keepaliveToggle b) s =
      event (.keepaliveToggle b) (fun s => s.keepaliveToggle b) s := rfl

theorem exec_setBarrier (q : Sender) (barrier failAction motionLimit closeDelay halfPeriod : Nat) (s : State) :
    exec (.setBarrier q barrier failAction motionLimit closeDelay halfPeriod) s =
      request (.setBarrier q barrier failAction motionLimit closeDelay halfPeriod) q (serveSetBarrier barrier failAction motionLimit closeDelay halfPeriod) s := rfl

theorem exec_barrierReset (q : Sender) (barrier : Nat) (s : State) :
    exec (.barrierReset q barrier) s =
      request (.barrierReset q barrier) q (serveBarrierReset barrier) s := rfl

theorem exec_barrierCommand (q : Sender) (barrier action : Nat) (s : State) :
    exec (.barrierCommand q barrier action) s =
      request (.barrierCommand q barrier action) q (serveBarrierCommand barrier action) s := rfl

theorem exec_readBarriers (q : Sender) (s : State) :
    exec (.readBarriers q) s =
      request (.readBarriers q) q serveReadBarriers s := rfl

theorem exec_setMetrology (q : Sender) (deck mode max1 max2 e1 e2 window f sc : Nat) (s : State) :
    exec (.setMetrology q deck mode max1 max2 e1 e2 window f sc) s =
      request (.setMetrology q deck mode max1 max2 e1 e2 window f sc) q (serveSetMetrology deck mode max1 max2 e1 e2 window f sc) s := rfl

theorem exec_setChannelFactor (q : Sender) (channel k : Nat) (s : State) :
    exec (.setChannelFactor q channel k) s =
      request (.setChannelFactor q channel k) q (serveSetChannelFactor channel k) s := rfl

theorem exec_setChannelZero (q : Sender) (channel z : Nat) (s : State) :
    exec (.setChannelZero q channel z) s =
      request (.setChannelZero q channel z) q (serveSetChannelZero channel z) s := rfl

theorem exec_calZeroDeck (q : Sender) (deck : Nat) (s : State) :
    exec (.calZeroDeck q deck) s =
      request (.calZeroDeck q deck) q (serveCalZeroDeck q deck) s := rfl

theorem exec_calSpanDeck (q : Sender) (deck : Nat) (load : Int) (s : State) :
    exec (.calSpanDeck q deck load) s =
      request (.calSpanDeck q deck load) q (serveCalSpanDeck q deck load) s := rfl

theorem exec_abortCalibration (q : Sender) (deck : Nat) (s : State) :
    exec (.abortCalibration q deck) s =
      request (.abortCalibration q deck) q (serveAbortCalibration deck) s := rfl

theorem exec_readCalibration (q : Sender) (deck : Nat) (s : State) :
    exec (.readCalibration q deck) s =
      request (.readCalibration q deck) q (serveReadCalibration deck) s := rfl

theorem exec_calSwitch (s : State) :
    exec .calSwitch s =
      event .calSwitch State.takeCalSwitch s := rfl

theorem exec_setCaptureOptions (q : Sender) (deck attempt n accept : Nat) (s : State) :
    exec (.setCaptureOptions q deck attempt n accept) s =
      request (.setCaptureOptions q deck attempt n accept) q (serveSetCaptureOptions deck attempt n accept) s := rfl

theorem exec_captureStart (d : Deck) (s : State) :
    exec (.captureStart d) s =
      event (.captureStart d) (fun s => if s.mayStart d then s.startCapture d none else s) s := rfl

theorem exec_capture (q : Sender) (deck : Nat) (s : State) :
    exec (.capture q deck) s =
      request (.capture q deck) q (serveCapture q deck) s := rfl

theorem exec_abortCapture (q : Sender) (deck : Nat) (s : State) :
    exec (.abortCapture q deck) s =
      request (.abortCapture q deck) q (serveAbortCapture deck) s := rfl

theorem exec_recordsAbort (d : Deck) (number : Nat) (s : State) :
    exec (.recordsAbort d number) s =
      event (.recordsAbort d number) (fun s => s.recordsAbort d number) s := rfl

theorem exec_captureExternalEnd (d : Deck) (cause : ExternalEnd) (s : State) :
    exec (.captureExternalEnd d cause) s =
      event (.captureExternalEnd d cause) (fun s => s.failCapture d (ExternalEnd.reason cause)) s := rfl

theorem exec_attemptTimerExpiry (d : Deck) (s : State) :
    exec (.attemptTimerExpiry d) s =
      event (.attemptTimerExpiry d) (fun s => s.attemptExpiry d) s := rfl

theorem exec_leaveDeckTimerExpiry (d : Deck) (s : State) :
    exec (.leaveDeckTimerExpiry d) s =
      event (.leaveDeckTimerExpiry d) (fun s => s.leaveDeckExpiry d) s := rfl

theorem exec_positioningEdge (d : Deck) (i : Input) (e : Edge) (s : State) :
    exec (.positioningEdge d i e) s =
      event (.positioningEdge d i e) (fun s => s.positioningEdge d i e) s := rfl

theorem exec_zeroDeck (q : Sender) (deck : Nat) (s : State) :
    exec (.zeroDeck q deck) s =
      request (.zeroDeck q deck) q (serveZeroDeck deck) s := rfl

theorem exec_readCapture (q : Sender) (deck : Nat) (s : State) :
    exec (.readCapture q deck) s =
      request (.readCapture q deck) q (serveReadCapture deck) s := rfl

theorem exec_setChannelMap (q : Sender) (channel map polarity : Nat) (s : State) :
    exec (.setChannelMap q channel map polarity) s =
      request (.setChannelMap q channel map polarity) q (serveSetChannelMap channel map polarity) s := rfl

theorem exec_setChannelLimits (q : Sender) (channel low high : Nat) (s : State) :
    exec (.setChannelLimits q channel low high) s =
      request (.setChannelLimits q channel low high) q (serveSetChannelLimits channel low high) s := rfl

theorem exec_clearFaults (q : Sender) (channel scope : Nat) (s : State) :
    exec (.clearFaults q channel scope) s =
      request (.clearFaults q channel scope) q (serveClearFaults channel scope) s := rfl

theorem exec_readChannels (q : Sender) (deck : Nat) (s : State) :
    exec (.readChannels q deck) s =
      request (.readChannels q deck) q (serveReadChannels deck) s := rfl

theorem exec_windowClose (d : Deck) (s : State) :
    exec (.windowClose d) s =
      event (.windowClose d) (fun s => s.windowClose d) s := rfl

theorem exec_converterEdge (c : Channel) (e : Edge) (s : State) :
    exec (.converterEdge c e) s =
      event (.converterEdge c e) (fun s => s.converterEdge c e) s := rfl

theorem exec_conditionerEdge (i : Input) (s : State) :
    exec (.conditionerEdge i) s =
      event (.conditionerEdge i) (fun s => s.conditionerEdge i) s := rfl

theorem exec_setConditioner (q : Sender) (input polarity debounce : Nat) (s : State) :
    exec (.setConditioner q input polarity debounce) s =
      request (.setConditioner q input polarity debounce) q (serveSetConditioner input polarity debounce) s := rfl

theorem exec_readInputs (q : Sender) (s : State) :
    exec (.readInputs q) s =
      request (.readInputs q) q serveReadInputs s := rfl

theorem exec_stopLoopEdge (l : Lane) (e : Edge) (s : State) :
    exec (.stopLoopEdge l e) s =
      event (.stopLoopEdge l e) (fun s => s.stopLoopEdge l e) s := rfl

theorem exec_stuckTimerExpiry (l : Lane) (s : State) :
    exec (.stuckTimerExpiry l) s =
      event (.stuckTimerExpiry l) (fun s => s.stuckExpiry l) s := rfl

theorem exec_filingOrder (l : Lane) (number : Nat) (kind : FilingKind) (priority : Nat) (s : State) :
    exec (.filingOrder l number kind priority) s =
      event (.filingOrder l number kind priority) (fun s => s.filingOrder l number kind priority) s := rfl

theorem exec_absenceTimerExpiry (l : Lane) (s : State) :
    exec (.absenceTimerExpiry l) s =
      event (.absenceTimerExpiry l) (fun s => s.absenceExpiry l) s := rfl

theorem exec_cancelOrder (l : Lane) (number : Nat) (s : State) :
    exec (.cancelOrder l number) s =
      event (.cancelOrder l number) (fun s => s.cancelOrder l number) s := rfl

theorem exec_offerAtLane (l : Lane) (d : Deck) (number : Nat) (s : State) :
    exec (.offerAtLane l d number) s =
      event (.offerAtLane l d number) (fun s => s.offerAtLane l d number) s := rfl

theorem exec_grantWithdrawnAtLane (l : Lane) (d : Deck) (number : Nat) (cause : WithdrawCause) (s : State) :
    exec (.grantWithdrawnAtLane l d number cause) s =
      event (.grantWithdrawnAtLane l d number cause) (fun s => s.grantWithdrawn l d number cause) s := rfl

theorem exec_entryPassageAtLane (l : Lane) (d : Deck) (number : Nat) (s : State) :
    exec (.entryPassageAtLane l d number) s =
      event (.entryPassageAtLane l d number) (fun s => s.entryPassageAtLane l d) s := rfl

theorem exec_stretchTimerExpiry (l : Lane) (k : Lamp) (s : State) :
    exec (.stretchTimerExpiry l k) s =
      event (.stretchTimerExpiry l k) (fun s => s.modLamp l k fun w => if w.stretch = some 0 then { w with stretch := none } else w) s := rfl

theorem exec_setLaneTimers (q : Sender) (lane absence stuck : Nat) (s : State) :
    exec (.setLaneTimers q lane absence stuck) s =
      request (.setLaneTimers q lane absence stuck) q (serveSetLaneTimers lane absence stuck) s := rfl

theorem exec_setLaneFeed (q : Sender) (lane feed : Nat) (s : State) :
    exec (.setLaneFeed q lane feed) s =
      request (.setLaneFeed q lane feed) q (serveSetLaneFeed lane feed) s := rfl

theorem exec_setLaneMode (q : Sender) (lane mode : Nat) (s : State) :
    exec (.setLaneMode q lane mode) s =
      request (.setLaneMode q lane mode) q (serveSetLaneMode lane mode) s := rfl

theorem exec_setLamp (q : Sender) (lane lamp source blink stretch : Nat) (s : State) :
    exec (.setLamp q lane lamp source blink stretch) s =
      request (.setLamp q lane lamp source blink stretch) q (serveSetLamp lane lamp source blink stretch) s := rfl

theorem exec_setSignalHead (q : Sender) (lane period : Nat) (s : State) :
    exec (.setSignalHead q lane period) s =
      request (.setSignalHead q lane period) q (serveSetSignalHead lane period) s := rfl

theorem exec_setLampInvert (q : Sender) (flag : Nat) (s : State) :
    exec (.setLampInvert q flag) s =
      request (.setLampInvert q flag) q (serveSetLampInvert flag) s := rfl

theorem exec_readLane (q : Sender) (lane : Nat) (s : State) :
    exec (.readLane q lane) s =
      request (.readLane q lane) q (serveReadLane lane) s := rfl

theorem exec_frameComplete (p : Port) (s : State) :
    exec (.frameComplete p) s =
      event (.frameComplete p) (fun s => s.frameComplete p) s := rfl

theorem exec_characterReceived (p : Port) (c : Byte) (error : Bool) (s : State) :
    exec (.characterReceived p c error) s =
      event (.characterReceived p c error) (fun s => s.character p c error) s := rfl

theorem exec_gapTimerExpiry (p : Port) (s : State) :
    exec (.gapTimerExpiry p) s =
      event (.gapTimerExpiry p) (fun s => s.modPort p PortWork.gapExpiry) s := rfl

theorem exec_frameSent (p : Port) (s : State) :
    exec (.frameSent p) s =
      event (.frameSent p) (fun s => s.frameSent p) s := rfl

theorem exec_noticeAdmission (p : Port) (b : Block) (s : State) :
    exec (.noticeAdmission p b) s =
      event (.noticeAdmission p b) (fun s => s.admitNotice p b) s := rfl

theorem exec_quietTimerExpiry (p : Port) (s : State) :
    exec (.quietTimerExpiry p) s =
      event (.quietTimerExpiry p) (fun s => s.modPort p PortWork.quietExpiry) s := rfl

theorem exec_setPortRate (q : Sender) (port rate : Nat) (s : State) :
    exec (.setPortRate q port rate) s =
      request (.setPortRate q port rate) q (serveSetPortRate q port rate) s := rfl

theorem exec_setPortRole (q : Sender) (port role : Nat) (s : State) :
    exec (.setPortRole q port role) s =
      request (.setPortRole q port role) q (serveSetPortRole port role) s := rfl

theorem exec_bindKiosk (q : Sender) (port lane : Nat) (s : State) :
    exec (.bindKiosk q port lane) s =
      request (.bindKiosk q port lane) q (serveBindKiosk port lane) s := rfl

theorem exec_setNoticeFloor (q : Sender) (floor : Nat) (s : State) :
    exec (.setNoticeFloor q floor) s =
      request (.setNoticeFloor q floor) q (serveSetNoticeFloor q floor) s := rfl

theorem exec_quiet (q : Sender) (n : Nat) (s : State) :
    exec (.quiet q n) s =
      request (.quiet q n) q (serveQuiet q n) s := rfl

theorem exec_readStatus (q : Sender) (s : State) :
    exec (.readStatus q) s =
      request (.readStatus q) q (serveReadStatus q) s := rfl

theorem exec_readPorts (q : Sender) (s : State) :
    exec (.readPorts q) s =
      request (.readPorts q) q serveReadPorts s := rfl

theorem exec_mainDomainStop (s : State) :
    exec .mainDomainStop s =
      execMainDomainStop s := rfl

theorem exec_mainReset (x : Start) (s : State) :
    exec (.mainReset x) s =
      execMainReset x s := rfl

theorem exec_yardResetEffect (x : Start) (s : State) :
    exec (.yardResetEffect x) s =
      execYardResetEffect x s := rfl

theorem exec_yardTick (x : Lines) (s : State) :
    exec (.yardTick x) s =
      execYardTick x s := rfl

theorem exec_setYardMode (q : Sender) (mode : Nat) (s : State) :
    exec (.setYardMode q mode) s =
      request (.setYardMode q mode) q (serveSetYardMode mode) s := rfl

theorem exec_drain (s : State) :
    exec .drain s =
      event .drain State.judgeDrain s := rfl

theorem exec_yardModeTaken (x : ModeDelivery) (s : State) :
    exec (.yardModeTaken x) s =
      event (.yardModeTaken x) (fun s => s.modeTaken x.reader x.mode) s := rfl

theorem exec_watchExpiry (x : Lines) (s : State) :
    exec (.watchExpiry x) s =
      event (.watchExpiry x) (fun s => s.watchExpiry x) s := rfl

theorem exec_qualification (s : State) :
    exec .qualification s =
      event .qualification State.qualify s := rfl

theorem exec_startTimerExpiry (s : State) :
    exec .startTimerExpiry s =
      event .startTimerExpiry State.startExpiry s := rfl

theorem exec_supplyLow (s : State) :
    exec .supplyLow s =
      event .supplyLow State.enterSupplyLow s := rfl

theorem exec_supplyRestored (s : State) :
    exec .supplyRestored s =
      event .supplyRestored State.restoreSupply s := rfl

theorem exec_supplyStateTaken (r : SupplyReader) (st : SupplyState) (s : State) :
    exec (.supplyStateTaken r st) s =
      event (.supplyStateTaken r st) (fun s => s.supplyTaken r st) s := rfl

theorem exec_yardReset (q : Sender) (s : State) :
    exec (.yardReset q) s =
      request (.yardReset q) q (serveYardReset q) s := rfl

theorem exec_setAlarmMask (q : Sender) (sources setting : Nat) (s : State) :
    exec (.setAlarmMask q sources setting) s =
      request (.setAlarmMask q sources setting) q (serveSetAlarmMask sources setting) s := rfl

theorem exec_readSupervisor (q : Sender) (s : State) :
    exec (.readSupervisor q) s =
      request (.readSupervisor q) q serveReadSupervisor s := rfl

theorem exec_storeTare (q : Sender) (plate : List Byte) (tag : Option Nat) (weight : Int) (cls validity account : Nat) (s : State) :
    exec (.storeTare q plate tag weight cls validity account) s =
      request (.storeTare q plate tag weight cls validity account) q (serveStoreTare plate tag weight cls validity account) s := rfl

theorem exec_deleteTare (q : Sender) (plate : List Byte) (s : State) :
    exec (.deleteTare q plate) s =
      request (.deleteTare q plate) q (serveDeleteTare plate) s := rfl

theorem exec_readTare (q : Sender) (plate : List Byte) (s : State) :
    exec (.readTare q plate) s =
      request (.readTare q plate) q (serveReadTare plate) s := rfl

theorem exec_listTares (q : Sender) (start : Nat) (s : State) :
    exec (.listTares q start) s =
      request (.listTares q start) q (serveListTares start) s := rfl

theorem exec_setTareValidity (q : Sender) (lane days : Nat) (s : State) :
    exec (.setTareValidity q lane days) s =
      request (.setTareValidity q lane days) q (serveSetTareValidity lane days) s := rfl

theorem exec_setClock (q : Sender) (year month day hour minute second : Nat) (s : State) :
    exec (.setClock q year month day hour minute second) s =
      request (.setClock q year month day hour minute second) q (serveSetClock year month day hour minute second) s := rfl

theorem exec_readClock (q : Sender) (s : State) :
    exec (.readClock q) s =
      request (.readClock q) q serveReadClock s := rfl

theorem exec_yardClockSecond (s : State) :
    exec .yardClockSecond s =
      execYardClockSecond s := rfl

theorem exec_setTicketBase (q : Sender) (n : Nat) (s : State) :
    exec (.setTicketBase q n) s =
      request (.setTicketBase q n) q (serveSetTicketBase n) s := rfl

theorem exec_voidTicket (q : Sender) (number reason : Nat) (s : State) :
    exec (.voidTicket q number reason) s =
      request (.voidTicket q number reason) q (serveVoidTicket number reason) s := rfl

theorem exec_collectNext (q : Sender) (s : State) :
    exec (.collectNext q) s =
      request (.collectNext q) q serveCollectNext s := rfl

theorem exec_readTicket (q : Sender) (number : Nat) (s : State) :
    exec (.readTicket q number) s =
      request (.readTicket q number) q (serveReadTicket number) s := rfl

theorem exec_confirmCollected (q : Sender) (n : Nat) (s : State) :
    exec (.confirmCollected q n) s =
      request (.confirmCollected q n) q (serveConfirmCollected n) s := rfl

theorem exec_engineWindow (w : WindowRecord) (s : State) :
    exec (.engineWindow w) s =
      event (.engineWindow w) (fun s => s.engineWindow w) s := rfl

theorem exec_setOccupancy (q : Sender) (deck threshold : Nat) (s : State) :
    exec (.setOccupancy q deck threshold) s =
      request (.setOccupancy q deck threshold) q (serveSetOccupancy deck threshold) s := rfl

theorem exec_readDeck (q : Sender) (deck : Nat) (s : State) :
    exec (.readDeck q deck) s =
      request (.readDeck q deck) q (serveReadDeck deck) s := rfl

theorem exec_identify (q : Sender) (lane : Nat) (plate : List Byte) (tag : Option Nat) (mode account material intent priority : Nat) (s : State) :
    exec (.identify q lane plate tag mode account material intent priority) s =
      request (.identify q lane plate tag mode account material intent priority) q (serveIdentify q lane plate tag mode account material intent priority) s := rfl

theorem exec_listYard (q : Sender) (s : State) :
    exec (.listYard q) s =
      request (.listYard q) q serveListYard s := rfl

theorem exec_readTransaction (q : Sender) (number : Nat) (s : State) :
    exec (.readTransaction q number) s =
      request (.readTransaction q number) q (serveReadTransaction number) s := rfl

theorem exec_findPlate (q : Sender) (plate : List Byte) (s : State) :
    exec (.findPlate q plate) s =
      request (.findPlate q plate) q (serveFindPlate plate) s := rfl

theorem exec_hold (q : Sender) (number reason : Nat) (s : State) :
    exec (.hold q number reason) s =
      request (.hold q number reason) q (serveHold q number reason) s := rfl

theorem exec_releaseHold (q : Sender) (number : Nat) (s : State) :
    exec (.releaseHold q number) s =
      request (.releaseHold q number) q (serveReleaseHold number) s := rfl

theorem exec_amend (q : Sender) (number : Nat) (account : Option Nat) (line : Option (Nat × Nat)) (s : State) :
    exec (.amend q number account line) s =
      request (.amend q number account line) q (serveAmend number account line) s := rfl

theorem exec_cancelTransaction (q : Sender) (number : Nat) (s : State) :
    exec (.cancelTransaction q number) s =
      request (.cancelTransaction q number) q (serveCancel number) s := rfl

theorem exec_quarantine (q : Sender) (number : Nat) (s : State) :
    exec (.quarantine q number) s =
      request (.quarantine q number) q (serveQuarantine number) s := rfl

theorem exec_close (q : Sender) (number : Nat) (s : State) :
    exec (.close q number) s =
      request (.close q number) q (serveClose number) s := rfl

theorem exec_forceExit (q : Sender) (number : Nat) (s : State) :
    exec (.forceExit q number) s =
      request (.forceExit q number) q (serveForceExit number) s := rfl

theorem exec_withdrawalReport (number : Nat) (cause : WithdrawCause) (s : State) :
    exec (.withdrawalReport number cause) s =
      event (.withdrawalReport number cause) (fun s => s.withdrawalReport number) s := rfl

theorem exec_entryPassageReport (d : Deck) (number : Nat) (s : State) :
    exec (.entryPassageReport d number) s =
      event (.entryPassageReport d number) (fun s => s.entryPassageReport d number) s := rfl

theorem exec_recordsCaptureCompletion (r : CaptureResult) (s : State) :
    exec (.recordsCaptureCompletion r) s =
      event (.recordsCaptureCompletion r) (fun s => s.captureCompletion r) s := rfl

theorem exec_recordsCaptureFailure (d : Deck) (number : Nat) (reason : FailReason) (s : State) :
    exec (.recordsCaptureFailure d number reason) s =
      event (.recordsCaptureFailure d number reason) (fun s => s.captureFailure number reason) s := rfl

theorem exec_exitPassageReport (d : Deck) (number : Nat) (s : State) :
    exec (.exitPassageReport d number) s =
      event (.exitPassageReport d number) (fun s => s.exitPassageReport number) s := rfl

end Sys2Proof.Machine
end

