-- ==== Sys2Proof/Laws/Lanes.lean ====
section
/-! SUPPORT. What a yard tick and the expiry of the absence timer do to a lane (R134). -/

namespace Sys2Proof.Machine

set_option linter.all false

@[simp] theorem LaneWork.offLoop_iff (w : LaneWork) (active : Bool) :
    w.offLoop active = true ↔ w.state = .waiting ∧ active = false := by simp [LaneWork.offLoop]

/-! ### The items of a lane after a tick -/

section
variable (w : LaneWork) (active : Bool)

@[simp] theorem LaneWork.state_tick : (w.tick active).state = w.state := rfl
@[simp] theorem LaneWork.request_tick : (w.tick active).request = w.request := rfl
@[simp] theorem LaneWork.grant_tick : (w.tick active).grant = w.grant := rfl
@[simp] theorem LaneWork.stuck_tick : (w.tick active).stuck = countDown w.stuck := rfl
@[simp] theorem LaneWork.absence_tick :
    (w.tick active).absence = if w.state = .waiting ∧ active = false then countDown w.absence else w.absence := by
  simp [LaneWork.tick]
theorem LaneWork.absence_present_tick : (w.tick active).absence.isSome = w.absence.isSome := by
  rw [LaneWork.absence_tick]; split <;> simp [countDown]

end

/-! ### A whole tick, and the expiry -/

/-- The sampling of the lines leaves the lanes as they were (R126). -/
theorem State.lane_sample (s : State) (x : Lines) (l : Lane) : (s.sample x).lane l = s.lane l := by
  simp [State.sample, Input.all]

/-- An expiry has its effect only where the lane is WAITING, its loop not ACTIVE and its timer at 0 (R134). -/
theorem State.absenceExpiry_idle (s : State) (l : Lane)
    (h : ¬ ((s.lane l).state = .waiting ∧ s.loopActive l = false ∧ (s.lane l).absence = some 0)) :
    s.absenceExpiry l = s := by
  unfold State.absenceExpiry
  split
  · rfl
  · split
    · rename_i e; simp only [LaneWork.offLoop_iff] at e; exact absurd ⟨e.1.1, e.1.2, e.2⟩ h
    · rfl

theorem State.lane_openWindow (s : State) (d : Deck) (n : Nat) (l : Lane) : (s.openWindow d n).lane l = s.lane l := by
  have h : ∀ (cs : List Channel) (t : State) (f : ChannelWork → ChannelWork), (t.modChans cs f).lane l = t.lane l := by
    intro cs
    induction cs with
    | nil => intro t f; rfl
    | cons c cs ih => intro t f; exact (ih (t.modChan c f) f).trans rfl
  simp [State.openWindow, h]

theorem State.lane_maybeOpen (s : State) (d : Deck) (l : Lane) : (s.maybeOpen d).lane l = s.lane l := by
  unfold State.maybeOpen; split
  · exact State.lane_openWindow ..
  · rfl

/-- On a tick that is not the first after a main reset a lane does what `LaneWork.tick` says and nothing else (R132, R134,
R146). -/
theorem State.lane_tick (s : State) (m : TickMark) (x : Lines) (l : Lane) (h : s.sup.firstTick = false) :
    (s.tick m x).lane l = (s.lane l).tick (s.loopActive l) := by
  simp only [State.tick, h, Bool.false_eq_true, if_false, State.lane_maybeOpen]
  simp [State.lane, State.modMain, Vector.get_eq_getElem]

end Sys2Proof.Machine
end

