-- ==== Sys2Proof/Tests/Slice0.lean ====
section
/-! SUPPORT. Small tests: what `Instr.wf` refuses, the worked figures of the spec, and a state and operands that meet the
hypotheses of each statement for the provers. The expected values stand in the rules named beside them. -/

namespace Sys2Proof.Machine

set_option linter.all false

/-! ### Helpers -/

/-- The console at P0. -/
def p0 : Sender := { port := 0, tag := 0x17#8 }
/-- A noon of 2026. -/
def noon : DateTime := { date := { year := 2026, month := 3, day := 2 }, hour := 12, minute := 0, second := 0 }
/-- The plate AB1. -/
def plateAB : List Byte := [0x41#8, 0x42#8, 0x31#8]
/-- A transaction of that plate, in the yard after its first weighing. -/
def inYard : Entry :=
  { number := 7, plate := plateAB, tag := none, account := 12, mode := .twoPass, state := .inYard, hold := none
    interrupted := false, closurePending := false, cancelling := false, blocked := none, request := none
    recallIntent := none, pass := none, departure := none
    weighings := [{ weight := 18100, cls := .approved, division := 10, deck := .a, time := some noon }]
    lines := [1], snapshot := none, admitted := noon }
/-- The same on deck A, its final pass awaiting its weighing. -/
def onDeckA : Entry :=
  { inYard with state := .onDeck, pass := some { purpose := .final, deck := .a, status := .awaiting } }
/-- An uncollected WEIGHT ticket. -/
def aTicket : Ticket :=
  { number := 40215, cls := .approved, seqStart := true, voided := false, collected := false, transaction := 3
    plate := plateAB, account := 12, mode := .twoPass, direction := .inboundDelivery, issued := noon
    body := .weight [] [(1, 6400)] 6400 none }
/-- An open yard, taken as open by every block, with its clock and ticket counter set, holding some entries. -/
def yardOf (es : List Entry) : State :=
  ((State.reset.modBackup fun b => { b with mode := .open }).modMain fun m => { m with modes := ModeViews.all .open }).modRecs fun r =>
    { r with entries := es, lastNumber := 7, clock := some noon, counter := some 40216, log := [aTicket] }
/-- A capture of transaction 7 on a deck. -/
def aCapture : Capture :=
  { number := 7, origin := none, lane := 0, attempt := 8, downshift := 2, accept := false, phase := .normal, failed := 0
    timer := 0, paused := false, leave := none, invalidRun := 9 }
/-- A yard with deck A OCCUPIED by transaction 7 and its capture in flight. -/
def capturing : State :=
  ((yardOf [onDeckA]).modArb .a fun a =>
    { a with state := .occupied, current := some { number := 7, lane := 0, released := true, outcome := .none } }).modEng .a
      fun g => { g with state := .capturing, capture := some aCapture, positioned := true }
/-- A yard with deck A FREE and lane 0 WAITING, filed there with transaction 7. -/
def waiting : State :=
  ((yardOf [{ inYard with state := .recalled }]).modArb .a fun a =>
    { a with state := .free, slots := #v[some { number := 7, kind := .recall, priority := 1, time := 5 }, none, none, none]
             offer := some { lane := 0, number := 7 } }).modLane 0 fun w =>
      { w with state := .waiting
               request := some { number := 7, kind := .recall, priority := 1, filed := ⟨true, false⟩ } }
/-- The state a command leaves. -/
def run (c : Instr) (s : State) : State :=
  match exec c s with
  | .next t => t
  | _ => s

/-- Any command of P0 is taken by a running part whose P0 is a console with nothing in hand and nothing waits. -/
theorem taken_console (s : State) (hr : s.running = true) (hq : s.main.raised = []) (hh : (s.port 0).hand = none)
    (hp : (s.portCfg 0).role = .console) (c : Instr) : s.Taken c p0 .console := by
  refine ⟨hr, Or.inr ⟨by simp [hq], hh, ?_, hp.symm⟩⟩
  show permitted (s.portCfg 0).role 0 c.requestCode = true
  rw [hp]; rfl

theorem taken_reset (c : Instr) : State.reset.Taken c p0 .console := taken_console _ rfl rfl rfl rfl c
theorem taken_yard (es : List Entry) (c : Instr) : (yardOf es).Taken c p0 .console := taken_console _ rfl rfl rfl rfl c

/-! ### Ill-formed commands -/

theorem test_wf_refuses_a_number_above_32_bits : (Instr.readTransaction p0 4294967296).wf = false := by decide
theorem test_wf_refuses_a_weight_beyond_32_bits :
    (Instr.storeTare p0 plateAB none 2147483648 0 1 1).wf = false := by decide
theorem test_wf_refuses_an_enumeration_above_a_byte : (Instr.setYardMode p0 256).wf = false := by decide
theorem test_wf_refuses_a_text_of_13 : (Instr.findPlate p0 (List.replicate 13 0x41#8)).wf = false := by decide
theorem test_wf_refuses_an_optional_number_above_32_bits :
    (Instr.amend p0 7 (some 4294967296) none).wf = false := by decide
theorem test_wf_refuses_a_pair_above_32_bits : (Instr.amend p0 7 none (some (1, 4294967296))).wf = false := by decide
theorem test_wf_refuses_a_year_below_2000 : (Instr.setClock p0 1999 1 1 0 0 0).wf = false := by decide
theorem test_wf_refuses_a_transaction_number_above_16_bits :
    (Instr.withdrawalReport 65536 .absence).wf = false := by decide
theorem test_wf_refuses_priority_4 : (Instr.filing .a 0 7 .recall 4).wf = false := by decide
/-- A window record within its ranges. -/
def aWindow : WindowRecord :=
  { deck := .a, number := 1041, closing := 208200, length := 200, timing := .reference, status := .valid
    channels := [⟨0, 61234, none⟩, ⟨1, 60987, none⟩, ⟨2, 62010, none⟩, ⟨3, 61555, none⟩], marked := false, serial := 2 }
theorem test_wf_takes_a_window : (Instr.engineWindow aWindow).wf = true := by decide
theorem test_wf_refuses_a_window_number : (Instr.engineWindow { aWindow with number := 4294967296 }).wf = false := by decide
theorem test_wf_refuses_a_closing_count :
    (Instr.engineWindow { aWindow with closing := 281474976710656 }).wf = false := by decide
theorem test_wf_refuses_a_window_length : (Instr.engineWindow { aWindow with length := 401 }).wf = false := by decide
theorem test_wf_refuses_17_channels :
    (Instr.engineWindow { aWindow with channels := List.replicate 17 ⟨0, 0, none⟩ }).wf = false := by decide
theorem test_wf_refuses_a_count : (Instr.engineWindow { aWindow with channels := [⟨0, 262144, none⟩] }).wf = false := by
  decide
/-- A capture result within its ranges. -/
def aResult : CaptureResult :=
  { deck := .a, number := 7, lane := 0, weight := 18100, division := 10, cls := .approved, window := 1041 }
theorem test_wf_takes_a_result : (Instr.recordsCaptureCompletion aResult).wf = true := by decide
theorem test_wf_refuses_a_result_number :
    (Instr.recordsCaptureCompletion { aResult with number := 65536 }).wf = false := by decide
theorem test_wf_refuses_a_result_weight :
    (Instr.captureCompletionAtArbiter { aResult with weight := -2147483649 }).wf = false := by decide
theorem test_wf_refuses_a_division_of_15 :
    (Instr.recordsCaptureCompletion { aResult with division := 15 }).wf = false := by decide
theorem test_wf_refuses_a_result_window :
    (Instr.recordsCaptureCompletion { aResult with window := 4294967296 }).wf = false := by decide
theorem test_wf_refuses_a_stop_loop_for_positioning : (Instr.positioningEdge .a (.stop 0) .rising).wf = false := by decide
theorem test_wf_refuses_an_exit_barrier_for_a_lane :
    (Instr.barrierStateTaken (.lane 0) .aExit .fault).wf = false := by decide

/-! ### Worked figures of the spec -/

/-- R72, R75: halves away from zero. -/
theorem test_rounding : roundDiv (-37) 2 = -19 ∧ deckWeight 25000 10 = 30 ∧ deckWeight (-25000) 10 = -30 ∧
    deckWeight 4999 10 = 0 := by decide
/-- Chapter 4's metrology: DUAL, 30,000 and 60,000 kg, 10 and 20 kg, 200 ms, F = 1, S = 4. -/
def dual : Metrology :=
  { mode := .dual, max1 := 30000, max2 := 60000, e1 := 10, e2 := 20, window := 200, f := 1, s := 4 }
/-- Deck A of chapter 4's first worked case. -/
def weighing : State :=
  ((((State.reset.modDeckCfg .a fun c => { c with metrology := dual, mark := true, zd := 12400 }).modChanCfg 0
    fun c => { c with map := some .a, zero := 10200, factor := 5767168 }).modChanCfg 1
    fun c => { c with map := some .a, zero := 10150, factor := 5799936 }).modChanCfg 2
    fun c => { c with map := some .a, zero := 10310, factor := 5832704 }).modChanCfg 3
    fun c => { c with map := some .a, zero := 10180, factor := 5767168 }
/-- Chapter 4: 18,112,367 g raw, 18,099,967 g filtered, a division of 10 kg, 18,100 kg, LOADED. -/
theorem test_four_channels :
    let r := (weighing.compute .a aWindow).1
    r.graw = some 18112367 ∧ r.gf = some 18099967 ∧ r.e = some 10 ∧ r.gd = some 18100 ∧ r.occupancy = .loaded := by
  decide
/-- Chapter 4: the filter sums of windows 2105 and 2107. -/
theorem test_filter :
    filtered 4 [18104210, 18096480, 18101735, 18098250] = some 18100169 ∧
      filtered 4 [18101735, 18098250, 18102890, 18100120] = some 18100749 := by decide
/-- Chapter 5: zero tracking at windows 7310 to 7313. -/
theorem test_zero_tracking :
    let s := (State.reset.modDeckCfg .a fun c => { c with metrology := dual, mark := true, zd := 1195300 }).modEng .a
      fun g => { g with state := .empty }
    let r := fun (gf : Int) => { invalidReading aWindow with gf := some gf, stable := some true, state := .empty }
    let a := s.trackZero .a (r 3900)
    let b := a.trackZero .a (r 2950)
    let c := (b.trackZero .a (r 2400)).trackZero .a (r 5600)
    (a.deckCfg .a).zd = 1197800 ∧ (a.eng .a).zeroLimit = false ∧ (b.deckCfg .a).zd = 1200000 ∧
      (b.eng .a).zeroLimit = true ∧ (c.deckCfg .a).zd = 1200000 := by decide
/-- Chapter 10: M, and the four factors scaled by 500 / 499. -/
theorem test_span :
    roundDiv 319359992 16 = 19960000 ∧ spanFactor 5767168 20000 19960000 = (5778725, false) ∧
      spanFactor 5799936 20000 19960000 = (5811559, false) ∧ spanFactor 5832704 20000 19960000 = (5844393, false) := by
  decide
/-- Chapter 12: the confirmation's request and answer, before their checks. -/
theorem test_worked_frames :
    decodeRequest { port := 3, tag := 0x2C#8 } 0x17 [0x00#8, 0x00#8, 0x9D#8, 0x17#8] =
        some (.confirmCollected { port := 3, tag := 0x2C#8 } 40215) ∧
      decodeRequest { port := 3, tag := 0x2C#8 } 0x17 [0x00#8, 0x9D#8, 0x17#8] = none ∧
      (answerFrames { tag := 0x2C#8, kind := 0x17#8, code := .ok, payload := u16 16, early := false }).map (·.take 9) =
        [[0xA5#8, 0x07#8, 0x80#8, 0x2C#8, 0x17#8, 0x00#8, 0x80#8, 0x00#8, 0x10#8]] := by
  refine ⟨rfl, rfl, ?_⟩
  decide
/-- R213: the kind bytes it names. -/
theorem test_kinds :
    (Instr.readClock p0).requestCode = 0x14 ∧ (Instr.collectNext p0).requestCode = 0x15 ∧
      (Instr.confirmCollected p0 1).requestCode = 0x17 ∧ (Instr.capture p0 0).requestCode = 0x1F ∧
      (Instr.yardReset p0).requestCode = 0x35 := by decide
/-- Chapter 6: with L2 last granted, deck B offers itself to L3 (priority 1) before L2 (priority 0). -/
theorem test_choice :
    let s := ((yardOf []).modArb .b fun a =>
      { a with state := .free, last := some 2
               slots := #v[none, none, some { number := 1302, kind := .recall, priority := 0, time := 3600200 },
                 some { number := 1304, kind := .admission, priority := 1, time := 3600900 }] }).modEng .b
        fun g => { g with state := .empty }
    let s := s.setSupplyAt (.arbiter .b) .normal
    ((run (.choice .b) s).arb .b).offer = some { lane := 3, number := 1304 } := by decide
/-- Chapter 1: 1185 is in use, so 1186 is allocated after 1184. -/
theorem test_allocation : allocate [{ inYard with number := 1185 }] 96 1184 = 1186 := by decide
/-- R36, R37: 29 February exists in 2028 and not in 2026; the last second of 2099 holds. -/
theorem test_calendar : monthDays 2028 2 = 29 ∧ monthDays 2026 2 = 28 ∧ nextSecond lastSecond = lastSecond := by decide
/-- R198: 28,800 baud lies equally near 19,200 and 38,400, so the higher is taken. -/
theorem test_nearest_rate : nearestRate 28800 = 38400 ∧ nearestRate 1 = 9600 ∧ nearestRate 200000 = 115200 := by decide
/-- R119: a rise of the entry loop is a tailgate while the barrier is UP, and none where the barrier took the same rise in
LOWERING and reversed, though LOWERING still waits to be taken by the arbiter. -/
theorem test_a_reversing_rise_is_no_tailgate :
    let s := (capturing.modArb .a fun a => { a with watch := true }).modBar .aEntry fun w => { w with state := .up }
    let t := (s.modBar .aEntry fun w => { w with state := .raising, reversal := true }).raise
      [.barrierStateTaken .arbiter .aEntry .lowering, .barrierStateTaken .arbiter .aEntry .raising]
    ((run (.entryLoopEdgeAtArbiter .a .rising) s).arb .a).tailgate = true ∧
      ((run (.entryLoopEdgeAtArbiter .a .rising) t).arb .a).tailgate = false := by decide
/-- R116, R119: a LOWERING that the arbiter takes after the arrival leaves the passage of a vehicle under a risen boom
armed; a barrier DOWN when the passage is taken, or closing at the passage's own falling edge, disarms it. -/
theorem test_the_passage_arms_the_watch :
    let g : Grant := { number := 7, lane := 0, arrived := true, late := false, timer := none }
    let s := ((State.reset.modArb .a fun a => { a with state := .granted, grant := some g }).modBar .aEntry fun w =>
      { w with state := .raising })
    let t := run (.barrierStateTaken .arbiter .aEntry .lowering) s
    let fall : Instr := .entryLoopEdgeAtArbiter .a .falling
    let u := (((s.modBar .aEntry fun w => { w with state := .lowering }).raise [fall]).markClosing .aEntry .up).modBar .aEntry
      fun w => { w with state := .raising }
    ((run fall t).arb .a).watch = true ∧ ((run fall u).arb .a).watch = false ∧
      ((run fall (s.modBar .aEntry fun w => { w with state := .down })).arb .a).watch = false := by decide
/-- R178: a barrier that takes SUPPLY_LOW and then NORMAL starts a full half-period, whatever the state is by then. -/
theorem test_a_dip_starts_a_full_half_period :
    let s := State.reset.modBar .aEntry fun w => { w with half := some 3 }
    let t := run (.supplyStateTaken (.barrier .aEntry) .supplyLow) s
    (t.bar .aEntry).half = none ∧
      ((run (.supplyStateTaken (.barrier .aEntry) .normal) t).bar .aEntry).half =
        some (s.barCfg .aEntry).halfPeriod := by decide
/-- R163, R168: a BARRIER_RESET under HOLD with the boom on its upper limit answers UP (02h), the placement, and leaves the
barrier STOPPED by the fail action. -/
theorem test_a_reset_answers_the_placement :
    let s := (State.reset.modBarCfg .aEntry fun c => { c with failAction := .hold }).modBar .aEntry fun w =>
      { w with state := .fault, cause := some .limitLost, upper := true, lower := false }
    (serveBarrierReset 0 .console s).2 = .ok [2#8] ∧ ((serveBarrierReset 0 .console s).1.bar .aEntry).state = .stopped := by
  decide
/-- R134: with its stop loop CLEAR the absence timer of a WAITING lane counts at a tick and runs out at 0; once the loop is
ACTIVE no tick counts it and no expiry is taken, until the lane takes the rising edge that drops it (R131). -/
theorem test_the_absence_timer_stops_with_the_loop_active :
    let off := fun (d : Debounced) (n : Nat) =>
      (waiting.modLane 0 fun w => { w with absence := some n }).modInp (.stop 0) fun w => { w with debounced := d }
    ((run (.yardTick restLines) (off .clear 3)).lane 0).absence = some 2 ∧
      ((run (.yardTick restLines) (off .active 3)).lane 0).absence = some 3 ∧
      ((run (.absenceTimerExpiry 0) (off .clear 0)).lane 0).state = .idle ∧
      ((run (.absenceTimerExpiry 0) (off .active 0)).lane 0).state = .waiting ∧
      ((run (.stopLoopEdge 0 .rising) (off .active 3)).lane 0).absence = none := by decide +kernel
/-- R181: a start that lost the backup domain leaves what State.reset holds. -/
theorem test_reset :
    let t := State.reset.restart { fellBelowStop := true, backupHeld := false, first := restLines } .powerOnBackupLost
    t.main = State.reset.main ∧ t.backup = State.reset.backup := by decide +kernel

/-! ### A state and operands for the hypotheses of each statement

A clause whose hypotheses are another clause's, or none, has no part of its own in a witness. -/

theorem witness_StepTakesTheFront :
    ({ State.reset with pending := [.drain] } : State).pending = [Instr.drain] ∧ State.reset.pending = [] := ⟨rfl, rfl⟩
theorem witness_StoppedMainDomain : ({ State.reset with running := false } : State).running = false := rfl
theorem yard_records (es : List Entry) (h : (es.map Entry.number).Nodup) (h2 : (es.map Entry.plate).Nodup)
    (h3 : es.length ≤ 96) : (yardOf es).recs.Law :=
  { table := h3, numbers := h, plates := h2, store := Nat.zero_le _, tarePlates := List.nodup_nil, log := (by decide : 1 ≤ 512)
    oldest := by simp [yardOf, State.modRecs, State.recs, State.modBackup, State.modMain], consecutive := by
      simp [yardOf, State.modRecs, State.recs, State.modBackup, State.modMain]
    next := by intro t ht; cases ht; rfl }
/-- The yard with one entry and a command at the front of the queue. -/
def stepping (c : Instr) (s : State) : State := { s with pending := [c] }
theorem witness_RecordsLawKept :
    (stepping (.withdrawalReport 7 .absence) (yardOf [inYard])).recs.Law ∧
      ∃ t, step (stepping (.withdrawalReport 7 .absence) (yardOf [inYard])) = .next t :=
  ⟨yard_records [inYard] (by decide) (by decide) (by decide), _, rfl⟩
/-- An entry IN_YARD and one ON_DECK hold the law of an entry. -/
theorem inYard_law : inYard.Law :=
  { number := by decide, plate := by decide, account := by decide, hold := (by intro h k; cases k), lines := by decide
    materials := by decide, blocked := by decide, request := by decide, intent := by decide, pass := by decide
    departure := by decide, snapshot := by decide, calm := by decide, weighings := by decide, unweighed := by decide
    pending := by decide, split := by decide
    purpose := by intro ps k; cases k }
theorem onDeckA_law : onDeckA.Law :=
  { number := by decide, plate := by decide, account := by decide, hold := (by intro h k; cases k), lines := by decide
    materials := by decide, blocked := by decide, request := by decide, intent := by decide, pass := by decide
    departure := by decide, snapshot := by decide, calm := by decide, weighings := by decide, unweighed := by decide
    pending := by decide, split := by decide
    purpose := by intro ps k _; cases k; exact ⟨rfl, rfl, rfl⟩ }
theorem witness_EntryLawKept :
    let s := stepping (.recordsCaptureCompletion aResult) (yardOf [onDeckA])
    s.recs.Law ∧ (∀ e ∈ s.recs.entries, e.Law) ∧ onDeckA ∈ s.recs.entries ∧ ∃ t, step s = .next t := by
  refine ⟨yard_records [onDeckA] (by decide) (by decide) (by decide), ?_, List.mem_singleton.2 rfl, _, rfl⟩
  intro e h
  cases List.mem_singleton.1 h
  exact onDeckA_law
theorem witness_UncollectedTicketsStay :
    let s := (stepping (.mainReset { fellBelowStop := true, backupHeld := true, first := restLines }) (yardOf [inYard])).seal
    s.recs.Law ∧ (∃ t, step s = .next t) ∧
      (∀ c rest, s.pending = c :: rest →
        match c with
        | .mainReset x => s.backupOk x = true
        | .yardResetEffect x => s.backupOk x = true
        | .confirmCollected _ n => ∃ older last newer, s.recs.log = older ++ last :: newer ∧ last.number = n ∧ aTicket ∈ newer
        | _ => True) ∧ aTicket ∈ s.recs.log ∧ aTicket.collected = false := by
  refine ⟨yard_records [inYard] (by decide) (by decide) (by decide), ⟨_, rfl⟩, ?_, List.mem_singleton.2 rfl, rfl⟩
  intro c rest h; cases h; simp [State.backupOk, State.seal]
theorem witness_ArbiterLawKept :
    let s := stepping (.exitLoopEdgeAtArbiter .a .falling) capturing
    (s.arb .a).Law ∧ ∃ t, step s = .next t :=
  ⟨⟨by decide, by decide, by decide, by intro g h; cases h⟩, _, rfl⟩
/-- The A-entry barrier UP, its latch CLEAR, its close delay at its end, its loop clear. -/
def barrierUp : State :=
  ((yardOf []).modBar .aEntry fun w => { w with state := .up, closeDelay := some 0, upper := true, lower := false }).modInp
    (.boom .aEntry) fun w => { w with debounced := .clear, run := none }
/-- What a lane that is WAITING or GO with a request holds. -/
theorem lane_law (w : LaneWork) (f : LaneFiling) (hr : w.request = some f) (hs : w.state = .waiting ∨ w.state = .go)
    (hg : w.grant.isSome = true ↔ w.state = .go) (ha : w.absence.isSome = true → w.state = .waiting)
    (hk : w.stuck = none) (hf : f.filed.a = true ∨ f.filed.b = true)
    (hd : ∀ d, w.grant = some d → f.filed.get d = true ∧ f.filed.get d.other = false) : w.Law :=
  { request := by simp [hr, hs], grant := hg, absence := ha
    stuck := by rcases hs with h | h <;> simp [hk, h]
    filed := by intro r h; rw [hr] at h; cases h; exact hf
    held := by intro r d h; rw [hr] at h; cases h; exact hd d }
/-- The lane of `waiting` holds the law of a lane, WAITING there and GO with its grant. -/
theorem waiting_lane : (waiting.lane 0).Law :=
  lane_law _ { number := 7, kind := .recall, priority := 1, filed := ⟨true, false⟩ } (by decide) (Or.inl (by decide)) (by decide)
    (by decide) (by decide) (by decide) (by intro d h; cases h)
theorem going_lane : { waiting.lane 0 with state := .go, grant := some .a : LaneWork }.Law :=
  lane_law _ { number := 7, kind := .recall, priority := 1, filed := ⟨true, false⟩ } (by decide) (Or.inr (by decide)) (by decide)
    (by decide) (by decide) (by decide) (by intro d h; cases h; decide)
theorem witness_BarrierAndLaneLawsKept :
    (let s := stepping (.closeDelayExpiry .aEntry) barrierUp
     (s.bar .aEntry).Law ∧ ∃ t, step s = .next t) ∧
    let s := stepping (.cancelOrder 0 7) waiting
    (s.lane 0).Law ∧ ∃ t, step s = .next t :=
  ⟨⟨⟨by decide, by decide, by decide, by decide, by decide, by decide⟩, _, rfl⟩, waiting_lane, _, rfl⟩
theorem witness_NoBoomComesDownOnAVehicle :
    let s := stepping (.closeDelayExpiry .aEntry) barrierUp
    (s.bar .aEntry).state ≠ .lowering ∧ ∃ t, step s = .next t ∧ (t.bar .aEntry).state = .lowering :=
  ⟨by decide, _, rfl, by decide +kernel⟩
theorem capturing_engine : (capturing.eng .a).Law := ⟨by decide, by decide⟩
theorem witness_EngineAndZeroLawsKept :
    let s := stepping (.attemptTimerExpiry .a) capturing
    (s.eng .a).Law ∧ (∃ t, step s = .next t) ∧
      ((s.modDeckCfg .a fun c => { c with zd := 1200000 }).deckCfg .a).ZeroLaw :=
  ⟨⟨by decide, by decide⟩, ⟨_, rfl⟩, by decide⟩
theorem reset_answers : State.reset.AnswersLaw := ⟨by decide, by decide, by decide⟩
theorem witness_PortLawKept :
    (State.reset.port 0).Law ∧ (stepping (.readClock p0) State.reset).AnswersLaw ∧
      ∃ t, step (stepping (.readClock p0) State.reset) = .next t :=
  ⟨⟨by decide, by decide, by decide, by decide, by decide, (by intro n h; cases h), by decide⟩,
    ⟨reset_answers.own, reset_answers.held, reset_answers.handed⟩, _, rfl⟩
/-- A port that holds a PORT_BUSY back behind the answer to the request in hand. -/
def holding : PortWork :=
  { hand := some { tag := 0x17#8, role := .console }
    held := [{ tag := 0x18#8, kind := 0x14#8, code := .portBusy, payload := [], early := true }] }
theorem holding_law : holding.Law :=
  ⟨by decide, by decide, by decide, by decide, by decide, (by intro n h; cases h), by decide⟩
theorem witness_AlarmLineFollowsItsSources :
    let s := stepping (.setAlarmMask p0 255 0) State.reset
    s.AlarmLaw ∧ s.CheckLaw ∧ ∃ t, step s = .next t := ⟨fun _ => by decide +kernel, rfl, _, rfl⟩
theorem witness_RequestRoundTrip :
    (Instr.confirmCollected p0 40215).wf = true ∧ (Instr.confirmCollected p0 40215).spelling.isSome = true := by decide
theorem witness_RequestsAreAnswered :
    let c := Instr.confirmCollected p0 40215
    c.spelling.isSome = true ∧ State.reset.Taken c p0 .console ∧ c ∉ State.reset.main.raised ∧
      ((State.reset.modPort 0 fun w => { w with hand := some { tag := 1#8, role := .console } }).port 0).hand.isSome = true ∧
      (State.reset.port 1).hand = none ∧ permitted (State.reset.portCfg 1).role 1 0x17 = false ∧
      (∃ h, holding.hand = some h ∧ h.answered = false) ∧ (holding.held.filter Answer.early).length < 4 :=
  ⟨by decide, taken_reset _, by decide, by decide, by decide, by decide, ⟨_, rfl, rfl⟩, by decide⟩
/-- A kiosk at P1, bound to lane 0, whose vehicle is PRESENT. -/
def kioskYard (es : List Entry) (bound : Option Lane) : State :=
  ((yardOf es).modPortCfg 1 fun c => { c with role := .kiosk, binding := bound }).modLane 0 fun w =>
    { w with state := .present, stuck := some 180000 }
/-- The kiosk. -/
def p1 : Sender := { port := 1, tag := 0x2C#8 }
theorem taken_kiosk (es : List Entry) (b : Option Lane) (lane : Nat) (plate : List Byte) (m a k i p : Nat) :
    (kioskYard es b).Taken (.identify p1 lane plate none m a k i p) p1 .kiosk :=
  ⟨rfl, Or.inr ⟨by simp [kioskYard, yardOf, State.modPortCfg, State.modLane, State.modRecs, State.modBackup, State.modMain, State.reset], rfl, rfl, rfl⟩⟩
theorem witness_IdentifyRefusesOrRecalls :
    (kioskYard [] none).Taken (.identify p1 0 plateAB none 0 12 1 0 2) p1 .kiosk ∧
      ((kioskYard [] none).portCfg 1).binding = none ∧
      (yardOf []).Taken (.identify p0 4 plateAB none 3 12 1 0 2) p0 .console ∧
      (kioskYard [inYard] (some 0)).Taken (.identify p1 0 plateAB none 0 12 1 0 2) p1 .kiosk ∧
      (kioskYard [inYard] (some 0)).identifyLane .kiosk p1 0 = .inl 0 ∧ plateOk (trimPlate plateAB) = true ∧
      (kioskYard [inYard] (some 0)).recs.findPlate (trimPlate plateAB) = some inYard :=
  ⟨taken_kiosk _ _ _ _ _ _ _ _ _, rfl, taken_yard _ _, taken_kiosk _ _ _ _ _ _ _ _ _, by decide, by decide, by decide⟩
theorem witness_IdentifyAdmitsAnUnknownPlate :
    let s := kioskYard [] (some 0)
    s.Taken (.identify p1 0 plateAB none 0 12 1 0 2) p1 .kiosk ∧ s.identifyLane .kiosk p1 0 = .inl 0 ∧
      modeOf 0 = some .twoPass ∧ plateOk (trimPlate plateAB) = true ∧
      (∀ e ∈ s.recs.entries, e.plate ≠ trimPlate plateAB) ∧ [inYard].length ≤ 96 :=
  ⟨taken_kiosk _ _ _ _ _ _ _ _ _, by decide, rfl, by decide, by decide, by decide⟩
theorem witness_EntryRequests :
    (∀ c, (yardOf [inYard]).Taken c p0 .console) ∧ (yardOf [inYard]).recs.find 7 = some inYard ∧
      inYard.finished = false ∧ (yardOf [inYard]).recs.find 8 = none ∧
      1 ≤ inYard.lines.length ∧
      ({ inYard with recallIntent := some { intent := .split 2, origin := .inYard } } : Entry).recallIntent =
        some { intent := .split 2, origin := .inYard } :=
  ⟨taken_yard _, by decide, by decide, by decide, by decide, rfl⟩
/-- An admitted entry with its pending request. -/
def newcomer : Entry := { inYard with state := .admitted, request := some { lane := 0, priority := 1 }, weighings := [] }
theorem witness_CancellationAndWithdrawal :
    (∀ es c, (yardOf es).Taken c p0 .console) ∧ (yardOf [inYard]).recs.find 7 = some inYard ∧ inYard.finished = false ∧
      (yardOf [newcomer]).recs.find 7 = some newcomer ∧ newcomer.finished = false ∧
      newcomer.request = some { lane := 0, priority := 1 } ∧ (yardOf [onDeckA]).recs.find 7 = some onDeckA ∧
      onDeckA.finished = false ∧ onDeckA.pass = some { purpose := .final, deck := .a, status := .awaiting } ∧
      (yardOf [newcomer]).running = true :=
  ⟨taken_yard, by decide, by decide, by decide, by decide, rfl, by decide, by decide, rfl, rfl⟩
theorem witness_QuarantineForceExitAndClose :
    (∀ es c, (yardOf es).Taken c p0 .console) ∧ (yardOf [inYard]).recs.find 7 = some inYard ∧ inYard.finished = false ∧
      inYard.state ≠ .onDeck ∧ (yardOf [onDeckA]).recs.find 7 = some onDeckA ∧ onDeckA.finished = false ∧
      onDeckA.state = .onDeck ∧ onDeckA.pass.isSome = true :=
  ⟨taken_yard, by decide, by decide, by decide, by decide, by decide, by decide, by decide⟩
theorem witness_EntryPassageTakesItsPass :
    (yardOf [newcomer]).running = true ∧ (yardOf [newcomer]).recs.find 7 = some newcomer ∧
      newcomer.state = .admitted ∧ (yardOf [inYard]).recs.find 7 = some inYard ∧ inYard.state ≠ .admitted ∧
      inYard.state ≠ .recalled ∧ newcomer.mode = .twoPass ∧ newcomer.weighings = [] ∧ inYard.weighings ≠ [] :=
  ⟨rfl, by decide, rfl, by decide, by decide, by decide, rfl, rfl, by decide⟩
theorem witness_CaptureReportsAtTheRecords :
    (yardOf [onDeckA]).running = true ∧ (yardOf [onDeckA]).recs.find aResult.number = some onDeckA ∧
      onDeckA.pass = some { purpose := .final, deck := .a, status := .awaiting } ∧
      ((yardOf []).recs.find aResult.number).bind Entry.pass = none ∧
      ((yardOf [inYard]).recs.find aResult.number).bind Entry.pass = none :=
  ⟨rfl, by decide, rfl, by decide, by decide⟩
theorem witness_ClosureIssuesATicketOrIsBlocked :
    (yardOf [onDeckA]).recs.closureBlock onDeckA = none ∧ (yardOf [onDeckA]).recs.counter = some 40216 ∧
      (yardOf [onDeckA]).recs.clock = some noon ∧
      (yardOf []).recs.closureBlock { onDeckA with hold := some { reason := 1, port := 0 } } = some .held ∧
      (let e : Entry := { inYard with
          weighings := inYard.weighings ++ [{ weight := 11240, cls := .approved, division := 10, deck := .a, time := none }] }
       e.weights.length = e.lines.length + 1 ∧ e.lineNets = [(1, 6860)] ∧ e.totalNet = 6860) := by
  refine ⟨by decide, by decide, by decide, by decide, by decide⟩
/-- Two weighings about one line (an outbound load), and a gross weighing equal to its tare snapshot. -/
theorem witness_NetsAtClosure :
    (let e : Entry := { inYard with
        weighings := [{ weight := 11240, cls := .approved, division := 10, deck := .a, time := none },
          { weight := 18100, cls := .approved, division := 10, deck := .a, time := none }] }
     e.mode = .twoPass ∧ e.snapshot = none ∧ 2 ≤ e.weighings.length ∧ e.weighings.length = e.lines.length + 1 ∧
       e.lines[0]? = some 1 ∧ e.lineNets = [(1, -6860)] ∧ e.totalNet = 6860 ∧ e.direction = .outboundCollection) ∧
    (let w : Weighing := { weight := 11240, cls := .approved, division := 10, deck := .a, time := none }
     let k : Snapshot := { weight := 11240, cls := .approved, stored := noon.date }
     let e : Entry := { inYard with mode := .storedTare, weighings := [w], snapshot := some k, lines := [1] }
     e.mode = .storedTare ∧ e.weighings = [w] ∧ e.snapshot = some k ∧ e.lines = [1] ∧ e.lineNets = [(1, 0)] ∧
       e.totalNet = 0 ∧ e.direction = .inboundDelivery) := by
  decide
theorem witness_TareStoreWrites (c : Instr) : (yardOf []).Taken c p0 .console := taken_yard _ _
/-- A tare stored on the day of `noon` for some days. -/
def aTare (plate : Plate) (days : Nat) : Tare :=
  { plate := plate, tag := none, weight := 11240, cls := .approved, stored := noon.date, validity := days, account := 12 }
/-- A full tare store, of distinct plates. -/
def fullStore (days : Nat) : List Tare := (List.range 256).map fun i => aTare [BitVec.ofNat 8 i] days
theorem witness_TareStoreWrites_in_the_store :
    (let r : Records := { tares := [aTare plateAB 5] }
     ∃ u ∈ r.tares, u.plate = (aTare plateAB 5).plate) ∧
    (let r : Records := {}
     (∀ u ∈ r.tares, u.plate ≠ plateAB) ∧ r.tares.length < 256) ∧
    (let r : Records := { tares := fullStore 30, clock := some noon }
     (∀ u ∈ r.tares, u.plate ≠ plateAB) ∧ 256 ≤ r.tares.length ∧ ∀ u ∈ r.tares, u.standing r.today ≠ .expired) ∧
    (let r : Records := { tares := fullStore 30, clock := some { noon with date := { noon.date with month := 6 } } }
     (∀ u ∈ r.tares, u.plate ≠ plateAB) ∧ 256 ≤ r.tares.length ∧ ∃ u ∈ r.tares, u.standing r.today = .expired) := by
  refine ⟨⟨_, by simp, rfl⟩, ⟨by decide, by decide⟩, ?_, ?_⟩
  · decide +kernel
  · decide +kernel
theorem witness_TareStandingDeletesAndReads (c : Instr) : (yardOf []).Taken c p0 .console := taken_yard _ _
theorem witness_YardClock :
    (∀ c, (yardOf []).Taken c p0 .console) ∧ timeExists noon = true ∧ noon ≠ lastSecond ∧
      (let a : Date := { year := 2028, month := 2, day := 29 }
       let b : Date := { year := 2028, month := 3, day := 1 }
       a.day ≤ monthDays a.year a.month ∧ b.day ≤ monthDays b.year b.month ∧ dateKey a < dateKey b) :=
  ⟨taken_yard _, by decide, by decide, by decide⟩
theorem witness_TicketLogRequests :
    (∀ c, (yardOf []).Taken c p0 .console) ∧ (∀ x ∈ [aTicket], x.number ≠ 40216) ∧
      ({ aTicket with number := 40216 } : Ticket).number = 40216 := ⟨taken_yard _, by decide, rfl⟩

theorem witness_ChannelSettingsAndEdges : (∀ c, State.reset.Taken c p0 .console) ∧ State.reset.running = true :=
  ⟨taken_reset, rfl⟩
theorem witness_WindowsOpenCloseAndAreJudged :
    let s := State.reset.modWin .a fun w => { w with number := 4294967295, current := some { opened := 0 } }
    s.running = true ∧ (s.win .a).number ≤ 4294967295 := ⟨rfl, by decide⟩
theorem witness_EngineTakesAWindow :
    State.reset.running = true ∧ (State.reset.eng aWindow.deck).state = .off ∧ (capturing.eng aWindow.deck).state ≠ .off := by
  decide
theorem witness_StagesOfAReading : (0 : Nat) < 65536 := by decide
/-- A reading at the edge of the normal band. -/
def aReading : Reading :=
  { invalidReading aWindow with
    gf := some 18100749, e := some 10, gd := some 18100, range := some .inRange, spread := some 10000, stable := some true
    occupancy := .loaded, state := .capturing }
theorem witness_CaptureJudgesReadings :
    (capturing.eng .a).capture = some aCapture ∧ (capturing.eng .a).state = .capturing ∧ aReading.e = some 10 ∧
      aReading.spread = some 10000 ∧ aReading.range = some .inRange ∧ aReading.gd = some 18100 ∧
      ({ aReading with range := some .overload } : Reading).range = some .overload ∧ (State.reset.eng .a).capture = none ∧
      (invalidReading aWindow).spread = none :=
  ⟨by decide, by decide, rfl, rfl, rfl, rfl, rfl, by decide, rfl⟩
theorem taken_capturing (c : Instr) : capturing.Taken c p0 .console := taken_console _ rfl rfl rfl rfl c
theorem witness_CapturesStartAndEnd :
    (capturing.arb .a).current = some { number := 7, lane := 0, released := true, outcome := .none } ∧
      capturing.running = true ∧ deckOf 0 = some .a ∧ (capturing.eng .a).capture = some aCapture ∧
      (capturing.eng .a).state = .capturing ∧ (∀ c, capturing.Taken c p0 .console) ∧ (State.reset.eng .a).capture = none ∧
      (State.reset.arb .a).state ≠ .occupied ∧ (∀ c, State.reset.Taken c p0 .console) ∧ (State.reset.eng .a).state = .off ∧
      (let g : Engine := { state := .warmup }
       g.capture = none ∧ g.state = g.activeState) :=
  ⟨by decide, rfl, rfl, by decide, by decide, taken_capturing, by decide, by decide, taken_reset, by decide,
    by decide⟩
theorem witness_AttemptsAndPauses :
    capturing.running = true ∧ (capturing.eng .a).capture = some aCapture ∧ (capturing.eng .a).state = .capturing ∧
      aCapture.timer = 0 := ⟨rfl, by decide, by decide, rfl⟩
theorem witness_ZeroSettingAndTracking :
    deckOf 1 = some .b ∧ 2 ≤ 255 ∧ (∀ c, State.reset.Taken c p0 .console) ∧ aReading.gf = some 18100749 :=
  ⟨rfl, by decide, taken_reset, rfl⟩
/-- Deck B of chapter 6's worked sequence: FREE, L2 and L3 waiting, L2 last granted. -/
def deckB : State :=
  ((((yardOf []).modArb .b fun a =>
    { a with state := .free, last := some 2
             slots := #v[none, none, some { number := 1302, kind := .recall, priority := 0, time := 3600200 },
               some { number := 1304, kind := .admission, priority := 1, time := 3600900 }] }).modEng .b
    fun g => { g with state := .empty }).setSupplyAt (.arbiter .b) .normal).setBoomAt .arbiter .bEntry .down
theorem witness_FilingsAndChoice :
    deckB.running = true ∧ (deckB.arb .b).Law ∧
      ((deckB.arb .b).state = .free ∧ (deckB.arb .b).offer = none ∧ deckB.supplyAt (.arbiter .b) = .normal ∧
        (deckB.eng .b).state ≠ .off ∧ deckB.boomAtArbiter (Deck.entry .b) = .down) ∧
      deckB.modeAt (.arbiter .b) = .open ∧
      (deckB.arb .b).slots.get 3 = some { number := 1304, kind := .admission, priority := 1, time := 3600900 } ∧
      (∀ l' p', l' ≠ 3 → (deckB.arb .b).slots.get l' = some p' → p'.priority < 1) ∧
      ¬(State.reset.arb .b).state = .free ∧ (State.reset.arb .b).Law ∧
      ∀ l p, (State.reset.arb .b).slots.get l ≠ some p := by
  refine ⟨rfl, ⟨by decide, by decide, by decide, by intro g h; cases h⟩, by decide, by decide, by decide, ?_, by decide,
    ⟨by decide, by decide, by decide, by intro g h; cases h⟩, ?_⟩
  · intro l' p' hl h
    fin_cases l' <;> first | exact absurd rfl hl | (cases h; decide) | cases h
  · intro l p h
    fin_cases l <;> cases h
/-- Deck A GRANTED to lane 0, its proceed timer at its end. -/
def granted : State :=
  (yardOf [newcomer]).modArb .a fun a =>
    { a with state := .granted, grant := some { lane := 0, number := 7, arrived := false, late := false, timer := some 0 } }
theorem granted_law : (granted.arb .a).Law := ⟨by decide, by decide, by decide, by intro g h; cases h; rfl⟩
theorem waiting_law : (waiting.arb .a).Law := ⟨by decide, by decide, by decide, by intro g h; cases h⟩
theorem witness_OffersAndGrants :
    waiting.running = true ∧ (waiting.arb .a).Law ∧ (waiting.arb .a).offer = some { lane := 0, number := 7 } ∧
      granted.running = true ∧ (granted.arb .a).Law := ⟨rfl, waiting_law, by decide, rfl, granted_law⟩
theorem capturing_arbiter : (capturing.arb .a).Law := ⟨by decide, by decide, by decide, by intro g h; cases h⟩
theorem witness_DeckPassagesAndIntrusions :
    granted.running = true ∧ (granted.arb .a).Law ∧ (granted.arb .a).current = none ∧ capturing.running = true ∧
      (capturing.arb .a).Law ∧
      (capturing.arb .a).current = some { number := 7, lane := 0, released := true, outcome := .none } ∧
      aResult.deck = .a ∧ deckOf 0 = some .a ∧ ∀ c, capturing.Taken c p0 .console :=
  ⟨rfl, granted_law, by decide, rfl, capturing_arbiter, by decide, rfl, rfl, taken_capturing⟩
theorem witness_DeckServiceByState : deckOf 1 = some .b ∧ ∀ c, State.reset.Taken c p0 .console := ⟨rfl, taken_reset⟩
theorem witness_ConditionersAndStopLoops :
    let s := State.reset.modInp (.stop 0) fun w => { w with raw := true, run := some 200 }
    s.running = true ∧ (s.inp (.stop 0)).run = some 200 := ⟨rfl, by decide⟩
theorem witness_LaneRequestsAndSettings :
    waiting.running = true ∧ (waiting.lane 0).state = .waiting ∧
      (waiting.lane 0).request = some { number := 7, kind := .recall, priority := 1, filed := ⟨true, false⟩ } ∧
      (State.reset.lane 0).state ≠ .waiting ∧ laneOf 3 = some 3 ∧ feedOf 2 = some .both ∧ laneOf 4 = none ∧ feedOf 3 = none ∧
      ∀ c, waiting.Taken c p0 .console :=
  ⟨rfl, by decide, by decide, by decide, rfl, rfl, rfl, rfl, taken_console _ rfl rfl rfl rfl⟩
/-- Deck A GRANTED, its entry barrier having taken NORMAL supply. -/
def permissive (st : BarrierState) (p : Bool) : State :=
  (granted.setSupplyAt (.barrier .aEntry) .normal).modBar .aEntry fun w =>
    { w with state := st, permissive := p, upper := false, lower := false, closeDelay := none
             motion := if st = .raising then some 8000 else none }
/-- A barrier whose permissive has fallen with its latch SET. -/
def fallen (st : BarrierState) (inLoop reversal : Bool) : State :=
  (yardOf []).modBar .aEntry fun w =>
    { w with state := st, permissive := true, latch := true, inLoop := inLoop, reversal := reversal
             motion := if st = .raising then some 8000 else none }
theorem fallen_law (st : BarrierState) (h : st ∈ [BarrierState.raising, .up]) (i : Bool) :
    ((fallen st i false).bar .aEntry).Law := by
  rcases (by simpa using h : st = .raising ∨ st = .up) with rfl | rfl <;> cases i <;>
    exact ⟨by decide, by decide, by decide, by decide, by decide, by decide⟩
theorem witness_Permissives :
    (∀ st ∈ [BarrierState.down, .stopped, .lowering, .raising, .up],
      (permissive st false).running = true ∧ (permissive st false).permissiveNow .aEntry = true ∧
        ((permissive st false).bar .aEntry).permissive = false ∧ ((permissive st false).bar .aEntry).state = st) ∧
      (∀ st ∈ [BarrierState.raising, .up], ∀ i, ((fallen st i false).bar .aEntry).Law ∧
        (fallen st i false).running = true ∧ (fallen st i false).permissiveNow .aEntry = false ∧
        ((fallen st i false).bar .aEntry).permissive = true ∧ ((fallen st i false).bar .aEntry).latch = true ∧
        ((fallen st i false).bar .aEntry).inLoop = i) ∧
      ((fallen .up true false).barCfg .aEntry).failAction = .lower ∧ (State.reset.bar .aEntry).Law ∧
      State.reset.permissiveNow .aEntry = false ∧ (State.reset.bar .aEntry).permissive = false := by
  refine ⟨?_, ?_, by decide, ⟨by decide, by decide, by decide, by decide, by decide, by decide⟩, by decide, by decide⟩
  · intro st h; fin_cases h <;> decide
  · intro st h i; refine ⟨fallen_law st h i, ?_⟩; fin_cases h <;> cases i <;> decide
theorem witness_BoomLoopsAndLowering :
    (barrierUp.bar .aEntry).state = .up ∧ (barrierUp.bar .aEntry).latch = false ∧
      (barrierUp.bar .aEntry).hold = .none ∧ (barrierUp.inp (.boom .aEntry)).debounced = .clear ∧
      (barrierUp.bar .aEntry).closeDelay ≠ none ∧ barrierUp.running = true ∧ (State.reset.bar .aEntry).state = .down ∧
      0 < (barrierUp.barCfg .aEntry).closeDelay := by decide
theorem witness_LimitsPlacementAndTimers :
    State.reset.running = true ∧ (State.reset.bar .aEntry).lower = true ∧ (State.reset.bar .aEntry).upper = false ∧
      (barrierUp.bar .aEntry).lower = false ∧
      (let s := State.reset.modBar .aEntry fun w => { w with upper := true }
       (s.bar .aEntry).lower = true ∧ (s.bar .aEntry).upper = true) ∧
      (let s := barrierUp.modBarCfg .aEntry fun c => { c with failAction := .hold }
       (s.bar .aEntry).lower = false ∧
         (s.modBar .aEntry fun w => { w with state := .stopped }).permissiveNow .aEntry = false ∧
         (s.barCfg .aEntry).failAction = .hold) ∧
      (let s := barrierUp
       (s.bar .aEntry).upper = true ∧ (s.bar .aEntry).lower = false ∧ (s.barCfg .aEntry).failAction = .lower) := by decide
theorem witness_BarrierRequests :
    barrierOf 3 = some .bExit ∧ barrierOf 4 = none ∧ ∀ c, State.reset.Taken c p0 .console := ⟨rfl, rfl, taken_reset⟩
theorem witness_YardTickCounts :
    State.reset.running = true ∧ State.reset.sup.firstTick = true ∧
      (State.reset.modSup fun v => { v with firstTick := false }).sup.firstTick = false := ⟨rfl, rfl, rfl⟩
theorem witness_SupplyAndReferenceMonitors :
    capturing.running = true ∧ (capturing.eng .a).Law ∧ (granted.arb .a).Law ∧ granted.running = true ∧
      (State.reset.modSup fun v => { v with monitor := .locked }).sup.monitor = .locked ∧
      State.reset.sup.monitor ≠ .locked := ⟨rfl, capturing_engine, granted_law, rfl, rfl, by decide⟩
theorem witness_YardModes :
    (∀ c, State.reset.Taken c p0 .console) ∧ State.reset.running = true ∧ (capturing.eng .a).Law ∧
      capturing.running = true := ⟨taken_reset, rfl, capturing_engine, rfl⟩
theorem witness_ResetsStartAfresh :
    (∀ c, State.reset.Taken c p0 .console) ∧ State.reset.sup.reset ≠ .due ∧
      (State.reset.modSup fun v => { v with reset := .due }).sup.reset = .due ∧
      State.reset.backupOk { fellBelowStop := true, backupHeld := true, first := restLines } = true ∧
      State.reset.backupOk { fellBelowStop := true, backupHeld := false, first := restLines } = false ∧
      (State.reset.modSup fun v => { v with reset := .due }).running = true ∧
      (yardOf [onDeckA]).recs.entries = [onDeckA] :=
  ⟨taken_reset, by decide, rfl, by simp [State.backupOk, State.reset], rfl, rfl, rfl⟩
theorem witness_AlarmMaskAndSupervisorRead : ∀ c, State.reset.Taken c p0 .console := taken_reset
/-- A part whose calibration switch is CLOSED. -/
def switched : State := State.reset.modSup fun v => { v with calSwitch := true }
theorem taken_switched (c : Instr) : switched.Taken c p0 .console := taken_console _ rfl rfl rfl rfl c
theorem witness_MetrologicalChanges :
    [Deck.a, Deck.b] ∈ [[], [Deck.a], [Deck.b], [Deck.a, Deck.b]] ∧ (State.reset.eng .a).Law ∧ (State.reset.eng .b).Law ∧
      (State.reset.eng .a).capture = none ∧ State.reset.calibrated .a = false ∧
      (let s := weighing.modBackup fun b => { b with mode := .open }
       s.modeAt (.engine .a) = .closed ∧ s.calibrated .a = true ∧
         (s.setModeAt (.engine .a) .open).modeAt (.engine .a) ≠ .closed) ∧
      ((State.reset.win .a).runs = false ∧
        ((State.reset.modWin .a fun w => { w with runs := true }).win .a).current = none ∧
        State.reset.sup.ms % (State.reset.deckCfg .a).metrology.window = 0) ∧
      (∀ c, switched.Taken c p0 .console) ∧ switched.sup.calSwitch = true ∧ State.reset.sup.calSwitch = false ∧
      (∀ c, State.reset.Taken c p0 .console) ∧ deckOf 1 = some .b ∧
      (switched.deckCfg .a).metrology ≠ dual ∧ (weighing.deckCfg .a).metrology = dual ∧ (weighing.deckCfg .a).mark = true := by
  exact ⟨by decide, ⟨by decide, by decide⟩, ⟨by decide, by decide⟩, by decide, by decide, by decide, by decide, taken_switched, rfl, rfl,
    taken_reset, rfl, by decide, by decide, by decide⟩
theorem witness_ChannelSettingsUnderTheSwitch :
    (∀ c, switched.Taken c p0 .console) ∧ channelOf 15 = some 15 ∧ mapOf 2 = some none ∧ edgeOf 1 = some .falling ∧
      (State.reset.win .a).current = none ∧
      (let s := (State.reset.modWin .a fun w => { w with current := some { opened := 0 } }).modSup fun v => { v with ms := 199 }
       (s.win .a).current = some { opened := 0 } ∧ s.sup.ms < 0 + (s.deckCfg .a).metrology.window ∧
         0 < (s.deckCfg .a).metrology.window ∧
         0 + (s.deckCfg .a).metrology.window ≤ (s.modSup fun v => { v with ms := 200 }).sup.ms) ∧
      channelOf 16 = none ∧ mapOf 3 = none ∧ edgeOf 2 = none :=
  ⟨taken_switched, by decide, rfl, rfl, by decide, by decide, by decide, rfl, rfl⟩
/-- A collection of deck A with fifteen windows. -/
def aCollection (k : CollectionKind) : Collection :=
  { kind := k, origin := 0, windows := 14, invalidRun := 9
    sums := match k with
      | .zero => [(0, 163200), (1, 162400), (2, 164960), (3, 162880)]
      | .span _ => []
    weightSum := 319359992, after := 1 }
/-- Deck A collecting. -/
def collecting (k : CollectionKind) : State := weighing.modEng .a fun g => { g with collection := some (aCollection k) }
theorem witness_CalibrationCollections :
    deckOf 0 = some .a ∧ (∀ c, switched.Taken c p0 .console) ∧
      ((collecting .zero).eng .a).collection = some (aCollection .zero) ∧ (aCollection .zero).after < aWindow.serial ∧
      aWindow.status = .valid ∧ aWindow.marked = false ∧ (aCollection .zero).windows + 1 < 16 ∧
      10 ≤ (aCollection .zero).invalidRun + 1 ∧ (aCollection .zero).kind = .zero ∧
      (aCollection .zero).sums.map Prod.fst = (collecting .zero).channelSet .a ∧
      ((collecting (.span 20000)).eng .a).collection = some (aCollection (.span 20000)) ∧
      (aCollection (.span 20000)).kind = .span 20000 ∧ aReading.occupancy ≠ .empty ∧
      ({ aReading with gz := some 18099967 } : Reading).gz = some 18099967 ∧
      (let m := roundDiv (aCollection (.span 20000)).weightSum 16
       0 < m ∧ m ≤ 2 * (20000 * 1000) ∧ 20000 * 1000 ≤ 2 * m) ∧
      2 * roundDiv (aCollection (.span 39921)).weightSum 16 < 39921 * 1000 ∧ State.reset.running = true ∧
      16 ≤ ({ aCollection .zero with windows := 15 } : Collection).windows + 1 ∧
      (let s := (collecting .zero).setModeAt (.engine .a) .open
       (s.eng .a).capture = none ∧ s.modeAt (.engine .a) ≠ .closed ∧ s.calibrated .a = true) ∧ deckOf 2 = none := by
  refine ⟨rfl, taken_switched, ?_⟩
  decide +kernel
/-- A port that has received some bytes. -/
def receiving (bs : List Byte) : State := State.reset.modPort 0 fun w => { w with receiver := .collecting bs 0 }
theorem witness_FramesAreReceivedAndJudged :
    State.reset.running = true ∧ (State.reset.port 0).receiver = .hunting ∧
      ((receiving (0x02#8 :: [0x14#8, 0x17#8] ++ [0#8, 0#8])).port 0).receiver =
        .collecting (0x02#8 :: [0x14#8, 0x17#8] ++ [0#8, 0#8]) 0 ∧
      [0#8, 0#8] ≠ u16 (crc16 [0x02#8, 0x14#8, 0x17#8]).toNat ∧
      (let check := u16 (crc16 (0x02#8 :: 0x14#8 :: 0x17#8 :: [])).toNat
       let s := receiving (0x02#8 :: 0x14#8 :: 0x17#8 :: [] ++ check)
       (s.port 0).receiver = .collecting (0x02#8 :: 0x14#8 :: 0x17#8 :: [] ++ check) 0 ∧ check.length = 2 ∧
         (s.port 0).hand = none ∧ permitted (s.portCfg 0).role 0 0x14 = true ∧
         decodeRequest p0 0x14 [] = some (.readClock p0) ∧ decodeRequest p0 0x14 [0#8] = none ∧
         permitted (s.portCfg 1).role 1 0x14 = false) := by decide +kernel
theorem witness_AnswersAndNoticesAreSent :
    let n : Notice := { block := .supervisor, body := .supplyLow, at_ := 0, origin := none }
    let a : Answer := { tag := 0#8, kind := 0x14#8, code := .ok, payload := [], early := false }
    let s := State.reset.modPort 0 fun w => { w with incoming := [n] }
    s.running = true ∧ (s.port 0).incoming = [] ++ n :: [] ∧ n.block = .supervisor ∧
      (∀ m ∈ (s.port 0).incoming, m.block ≠ .records) ∧ (s.port 0).sending = none ∧
      answerFrames a ≠ [] ∧ (holding.sending = none ∧ holding.answers = [] ∧ holding.held ≠ []) ∧
      ({ s.port 0 with queue := [{ number := 1, notice := n }] } : PortWork).queue = [{ number := 1, notice := n }] := by
  decide +kernel
theorem witness_PortRequests :
    (∀ c, State.reset.Taken c p0 .console) ∧ portOf 5 = some 5 ∧ (5 : Port) ≠ 0 ∧ roleOf 3 = some .console ∧
      (State.reset.portCfg 5).role ≠ .console ∧ roleOf 0 = some .none ∧ (State.reset.portCfg 5).role = .none :=
  ⟨taken_reset, by decide, by decide, rfl, by decide, rfl, by decide⟩
theorem witness_SettingsAreClamped :
    (∀ c, State.reset.Taken c p0 .console) ∧ laneOf 3 = some 3 ∧ deckOf 1 = some .b ∧ barrierOf 3 = some .bExit ∧
      inputOf 11 ≠ none ∧ lampOf 3 = some 2 ∧ sourceOf 8 = some .off ∧ (State.reset.lane 0).state ≠ .maintenance ∧
      ((State.reset.modLane 0 fun w => { w with state := .maintenance }).lane 0).state = .maintenance ∧
      ((State.reset.modArb .a fun a => { a with state := .outOfService }).arb .a).state = .outOfService ∧
      State.reset.running = true ∧ inputOf 12 = none ∧ lampOf 0 = none ∧ lampOf 4 = none ∧ sourceOf 9 = none ∧
      (let s := State.reset.modLane 0 fun w => { w with lamps := w.lamps.set 2 { value := false, stretch := some 0 } }
       ((s.lane 0).lamps.get 2).stretch = some 0) :=
  ⟨taken_reset, by decide, rfl, rfl, by decide, rfl, rfl, by decide, by decide, by decide, rfl, by decide, rfl, rfl, rfl, by decide⟩
theorem witness_ReadoutsChangeNothing :
    (∀ c, State.reset.Taken c p0 .console) ∧ deckOf 1 = some .b ∧ laneOf 3 = some 3 ∧ deckOf 2 = none ∧ laneOf 4 = none ∧
      (yardOf [inYard]).recs.find 7 = some inYard := ⟨taken_reset, rfl, by decide, rfl, rfl, by decide⟩

end Sys2Proof.Machine
end

section
/-! SUPPORT. The frame of the yard records: every operation that is not of the records, and every request that is not a
record request, leaves `State.recs` as it was. -/

namespace Sys2Proof.Machine

@[simp] theorem State.recs_modBackup (s : State) (f : Backup → Backup) (h : ∀ b, (f b).records = b.records) :
    (s.modBackup f).recs = s.recs := h _
@[simp] theorem State.recs_ite (c : Prop) [Decidable c] (s t : State) :
    (if c then s else t).recs = if c then s.recs else t.recs := apply_ite State.recs c s t
@[simp] theorem State.recs_foldl {α : Type} (f : State → α → State) (h : ∀ s a, (f s a).recs = s.recs) (xs : List α)
    (s : State) : (xs.foldl f s).recs = s.recs := by
  induction xs generalizing s with
  | nil => rfl
  | cons a xs ih => rw [List.foldl_cons, ih, h]
@[simp] theorem State.recs_flagIf (s : State) (b : Bool) (f : Flag) : (s.flagIf b f).recs = s.recs := by
  simp [State.flagIf]
@[simp] theorem State.recs_changeArb (s : State) (d : Deck) (f : Arbiter → Arbiter) :
    (s.changeArb d f).recs = s.recs := by
  simp [State.changeArb]
@[simp] theorem State.recs_changeLane (s : State) (l : Lane) (f : LaneWork → LaneWork) :
    (s.changeLane l f).recs = s.recs := by
  simp [State.changeLane]
@[simp] theorem State.recs_judgeLamps (s : State) (l : Lane) : (s.judgeLamps l).recs = s.recs := rfl
@[simp] theorem State.recs_judgeAlarm (s : State) : (s.judgeAlarm).recs = s.recs := by
  simp [State.judgeAlarm]
@[simp] theorem State.recs_settleLamps (old s : State) : (settleLamps old s).recs = s.recs := by
  simp [settleLamps]
@[simp] theorem State.recs_settleFlags (old s : State) : (settleFlags old s).recs = s.recs := by
  simp [settleFlags]
@[simp] theorem State.recs_settle (old s : State) : (State.settle old s).recs = s.recs := by
  simp [State.settle]
@[simp] theorem State.recs_reply (s : State) (q : Sender) (kind : Nat) (r : Reply) :
    (s.reply q kind r).recs = s.recs := rfl
@[simp] theorem State.recs_changeBar (s : State) (b : Barrier) (reason : BarrierReason) (f : BarrierWork → BarrierWork) :
    (s.changeBar b reason f).recs = s.recs := by
  simp [State.changeBar]
@[simp] theorem State.recs_faultBar (s : State) (b : Barrier) (cause : FaultCause) :
    (s.faultBar b cause).recs = s.recs := by
  simp [State.faultBar]
@[simp] theorem State.recs_judgeLowering (s : State) (b : Barrier) : (s.judgeLowering b).recs = s.recs := by
  simp [State.judgeLowering]
@[simp] theorem State.recs_judgeKeepalive (s : State) (b : Barrier) : (s.judgeKeepalive b).recs = s.recs := rfl
@[simp] theorem State.recs_failAction (s : State) (b : Barrier) : (s.failAction b).recs = s.recs := by
  simp [State.failAction]
@[simp] theorem State.recs_place (s : State) (b : Barrier) : (s.place b).recs = s.recs := by
  simp [State.place]
@[simp] theorem State.recs_permissiveRise (s : State) (b : Barrier) : (s.permissiveRise b).recs = s.recs := by
  simp [State.permissiveRise]
@[simp] theorem State.recs_permissiveFall (s : State) (b : Barrier) : (s.permissiveFall b).recs = s.recs := by
  simp [State.permissiveFall]
@[simp] theorem State.recs_markClosing (s : State) (b : Barrier) (old : BarrierState) :
    (s.markClosing b old).recs = s.recs := by
  simp [State.markClosing]
@[simp] theorem State.recs_barrierLoopEdge (s : State) (b : Barrier) (e : Edge) :
    (s.barrierLoopEdge b e).recs = s.recs := by
  unfold State.barrierLoopEdge; split <;> simp
@[simp] theorem State.recs_closeDelayExpiry (s : State) (b : Barrier) : (s.closeDelayExpiry b).recs = s.recs := by
  simp [State.closeDelayExpiry]
@[simp] theorem State.recs_motionTimeout (s : State) (b : Barrier) : (s.motionTimeout b).recs = s.recs := by
  simp [State.motionTimeout]
@[simp] theorem State.recs_limitEvent (s : State) (b : Barrier) (which : LimitSwitch) :
    (s.limitEvent b which).recs = s.recs := by
  unfold State.limitEvent; split <;> simp
@[simp] theorem State.recs_keepaliveToggle (s : State) (b : Barrier) : (s.keepaliveToggle b).recs = s.recs := by
  simp [State.keepaliveToggle]
@[simp] theorem recs_serveSetBarrier (barrier failAction motionLimit closeDelay halfPeriod : Nat) (r : Role) (s : State) :
    (serveSetBarrier barrier failAction motionLimit closeDelay halfPeriod r s).1.recs = s.recs := by
  unfold serveSetBarrier; split <;> simp
@[simp] theorem recs_serveBarrierReset (barrier : Nat) (r : Role) (s : State) :
    (serveBarrierReset barrier r s).1.recs = s.recs := by
  unfold serveBarrierReset; split <;> simp [apply_ite Prod.fst]
@[simp] theorem recs_serveBarrierCommand (barrier action : Nat) (r : Role) (s : State) :
    (serveBarrierCommand barrier action r s).1.recs = s.recs := by
  unfold serveBarrierCommand; split <;> simp [apply_ite Prod.fst]
@[simp] theorem recs_serveReadBarriers  (r : Role) (s : State) : (serveReadBarriers  r s).1.recs = s.recs := rfl
@[simp] theorem State.recs_modChans (s : State) (cs : List Channel) (f : ChannelWork → ChannelWork) :
    (s.modChans cs f).recs = s.recs := by
  exact State.recs_foldl (fun s c => s.modChan c f) (fun _ _ => rfl) cs s
@[simp] theorem State.recs_openWindow (s : State) (d : Deck) (boundary : Nat) :
    (s.openWindow d boundary).recs = s.recs := by
  simp [State.openWindow]
@[simp] theorem State.recs_maybeOpen (s : State) (d : Deck) : (s.maybeOpen d).recs = s.recs := by
  simp [State.maybeOpen]
@[simp] theorem State.recs_dropCounts (s : State) (d : Deck) : (s.dropCounts d).recs = s.recs := by
  simp [State.dropCounts]
@[simp] theorem State.recs_judgeChannel (s : State) (d : Deck) (window : Nat) (c : Channel) :
    (s.judgeChannel d window c).recs = s.recs := by
  simp only [State.judgeChannel]; split <;> simp
@[simp] theorem State.recs_windowClose (s : State) (d : Deck) : (s.windowClose d).recs = s.recs := by
  unfold State.windowClose; split <;> simp
@[simp] theorem State.recs_closeDue (s : State) (d : Deck) (n : Nat) : (s.closeDue d n).recs = s.recs := by
  induction n generalizing s with
  | zero => rfl
  | succ n ih => rw [State.closeDue, ih, State.recs_windowClose]
@[simp] theorem State.recs_shortRecord (s : State) (d : Deck) : (s.shortRecord d).recs = s.recs := by
  unfold State.shortRecord; split <;> simp
@[simp] theorem State.recs_shortClose (s : State) (d : Deck) : (s.shortClose d).recs = s.recs := by
  rw [State.shortClose, State.recs_shortRecord, State.recs_closeDue]
@[simp] theorem State.recs_dropCapture (s : State) (d : Deck) (reason : FailReason) :
    (s.dropCapture d reason).recs = s.recs := by
  unfold State.dropCapture; split <;> simp
@[simp] theorem State.recs_failCollection (s : State) (d : Deck) (reason : CalFailReason) :
    (s.failCollection d reason).recs = s.recs := by
  unfold State.failCollection; split <;> simp
@[simp] theorem State.recs_refreshEngine (s : State) (d : Deck) (window : Option Nat) :
    (s.refreshEngine d window).recs = s.recs := by
  simp [State.refreshEngine]
@[simp] theorem State.recs_refreshActive (s : State) (d : Deck) (window : Option Nat) :
    (s.refreshActive d window).recs = s.recs := by
  simp [State.refreshActive]
@[simp] theorem State.recs_failCapture (s : State) (d : Deck) (reason : FailReason) (window : Option Nat) :
    (s.failCapture d reason window).recs = s.recs := by
  simp [State.failCapture]
@[simp] theorem State.recs_changeZd (s : State) (d : Deck) (delta : Int) : (s.changeZd d delta).recs = s.recs := rfl
@[simp] theorem State.recs_latchZeroLimit (s : State) (d : Deck) (positive : Bool) (window : Option Nat) :
    (s.latchZeroLimit d positive window).recs = s.recs := by
  simp [State.latchZeroLimit]
@[simp] theorem State.recs_advanceCounter (s : State) : (s.advanceCounter).recs = s.recs := rfl
@[simp] theorem State.recs_touchDeck (old s : State) (window : Option Nat) (d : Deck) :
    (State.touchDeck old s window d).recs = s.recs := by
  simp [State.touchDeck]
@[simp] theorem State.recs_metroChange (old s : State) (ds : List Deck) (window : Option Nat) :
    (State.metroChange old s ds window).recs = s.recs := by
  simp [State.metroChange]
@[simp] theorem State.recs_setChange (old s : State) (r : CalRequest) (ds : List Deck) (ch : Option Channel) :
    (State.setChange old s r ds ch).recs = s.recs := by
  simp [State.setChange]
@[simp] theorem State.recs_makeChoice (s : State) (d : Deck) : (s.makeChoice d).recs = s.recs := by
  simp only [State.makeChoice]; (repeat' split) <;> simp
@[simp] theorem State.recs_withdrawal (s : State) (d : Deck) (l : Lane) : (s.withdrawal d l).recs = s.recs := by
  unfold State.withdrawal; split <;> simp
@[simp] theorem State.recs_acceptance (s : State) (d : Deck) (l : Lane) (number : Nat) :
    (s.acceptance d l number).recs = s.recs := by
  simp [State.acceptance]
@[simp] theorem State.recs_decline (s : State) (d : Deck) (l : Lane) (number : Nat) :
    (s.decline d l number).recs = s.recs := by
  simp [State.decline]
@[simp] theorem State.recs_withdrawGrant (s : State) (d : Deck) (cause : WithdrawCause) :
    (s.withdrawGrant d cause).recs = s.recs := by
  unfold State.withdrawGrant; split <;> simp
@[simp] theorem State.recs_proceedTimeout (s : State) (d : Deck) : (s.proceedTimeout d).recs = s.recs := by
  simp [State.proceedTimeout]
@[simp] theorem State.recs_entryRise (s : State) (d : Deck) : (s.entryRise d).recs = s.recs := by
  simp only [State.entryRise]; split <;> simp
@[simp] theorem State.recs_entryPassage (s : State) (d : Deck) (g : Grant) : (s.entryPassage d g).recs = s.recs := by
  simp [State.entryPassage]
@[simp] theorem State.recs_intrusion (s : State) (d : Deck) : (s.intrusion d).recs = s.recs := by
  simp [State.intrusion]
@[simp] theorem State.recs_entryFall (s : State) (d : Deck) : (s.entryFall d).recs = s.recs := by
  simp only [State.entryFall]; (repeat' split) <;> simp
@[simp] theorem State.recs_exitFall (s : State) (d : Deck) : (s.exitFall d).recs = s.recs := by
  unfold State.exitFall; split <;> simp
@[simp] theorem State.recs_modCurrent (s : State) (d : Deck) (number : Nat) (f : Current → Current) :
    (s.modCurrent d number f).recs = s.recs := rfl
@[simp] theorem State.recs_exitRelease (s : State) (d : Deck) (number : Option Nat) :
    (s.exitRelease d number).recs = s.recs := rfl
@[simp] theorem State.recs_forceExitNotice (s : State) (d : Deck) (number : Nat) :
    (s.forceExitNotice d number).recs = s.recs := rfl
@[simp] theorem State.recs_deckEmpty (s : State) (d : Deck) : (s.deckEmpty d).recs = s.recs := by
  simp [State.deckEmpty]
@[simp] theorem State.recs_barrierStateTaken (s : State) (reader : BarrierReader) (b : Barrier) (st : BarrierState) :
    (s.barrierStateTaken reader b st).recs = s.recs := by
  unfold State.barrierStateTaken; split <;> simp
@[simp] theorem recs_serveSetProceedTime (deck seconds : Nat) (r : Role) (s : State) :
    (serveSetProceedTime deck seconds r s).1.recs = s.recs := by
  unfold serveSetProceedTime; split <;> simp
@[simp] theorem recs_serveClearTailgate (deck : Nat) (r : Role) (s : State) :
    (serveClearTailgate deck r s).1.recs = s.recs := by
  unfold serveClearTailgate; split <;> simp [apply_ite Prod.fst]
@[simp] theorem State.recs_endCommandHold (s : State) (b : Barrier) : (s.endCommandHold b).recs = s.recs := by
  simp [State.endCommandHold]
@[simp] theorem State.recs_returnToService (s : State) (d : Deck) : (s.returnToService d).recs = s.recs := by
  simp [State.returnToService]
@[simp] theorem recs_serveSetDeckService (deck setting : Nat) (r : Role) (s : State) :
    (serveSetDeckService deck setting r s).1.recs = s.recs := by
  simp only [serveSetDeckService]; (repeat' split) <;> simp
@[simp] theorem recs_serveReadDeckState (deck : Nat) (r : Role) (s : State) :
    (serveReadDeckState deck r s).1.recs = s.recs := by
  unfold serveReadDeckState; split <;> simp
@[simp] theorem State.recs_storeMetrology (s : State) (d : Deck) (m : Metrology) :
    (s.storeMetrology d m).recs = s.recs := by
  simp [State.storeMetrology]
@[simp] theorem recs_serveSetMetrology (deck mode max1 max2 e1 e2 window f sc : Nat) (r : Role) (s : State) :
    (serveSetMetrology deck mode max1 max2 e1 e2 window f sc r s).1.recs = s.recs := by
  unfold serveSetMetrology; split <;> simp [apply_ite Prod.fst]
@[simp] theorem State.recs_writePair (s : State) (r : CalRequest) (c : Channel) (f : ChannelCfg → ChannelCfg) :
    (s.writePair r c f).1.recs = s.recs := by
  simp [State.writePair, apply_ite Prod.fst]
@[simp] theorem recs_serveSetChannelFactor (channel k : Nat) (r : Role) (s : State) :
    (serveSetChannelFactor channel k r s).1.recs = s.recs := by
  unfold serveSetChannelFactor; split <;> simp [apply_ite Prod.fst]
@[simp] theorem recs_serveSetChannelZero (channel z : Nat) (r : Role) (s : State) :
    (serveSetChannelZero channel z r s).1.recs = s.recs := by
  unfold serveSetChannelZero; split <;> simp [apply_ite Prod.fst]
@[simp] theorem State.recs_startCollection (s : State) (d : Deck) (k : CollectionKind) (origin : Port) :
    (s.startCollection d k origin).1.recs = s.recs := by
  unfold State.startCollection; split <;> simp
@[simp] theorem recs_serveCalZeroDeck (q : Sender) (deck : Nat) (r : Role) (s : State) :
    (serveCalZeroDeck q deck r s).1.recs = s.recs := by
  unfold serveCalZeroDeck; split <;> simp
@[simp] theorem recs_serveCalSpanDeck (q : Sender) (deck : Nat) (load : Int) (r : Role) (s : State) :
    (serveCalSpanDeck q deck load r s).1.recs = s.recs := by
  unfold serveCalSpanDeck; split <;> simp [apply_ite Prod.fst]
@[simp] theorem recs_serveAbortCalibration (deck : Nat) (r : Role) (s : State) :
    (serveAbortCalibration deck r s).1.recs = s.recs := by
  unfold serveAbortCalibration; split <;> simp [apply_ite Prod.fst]
@[simp] theorem recs_serveReadCalibration (deck : Nat) (r : Role) (s : State) :
    (serveReadCalibration deck r s).1.recs = s.recs := by
  unfold serveReadCalibration; split <;> simp
@[simp] theorem State.recs_takeCalSwitch (s : State) : (s.takeCalSwitch).recs = s.recs := by
  simp [State.takeCalSwitch]
@[simp] theorem State.recs_giveRelease (s : State) (d : Deck) (n : Option Nat) :
    (s.giveRelease d n).recs = s.recs := rfl
@[simp] theorem recs_serveSetCaptureOptions (deck attempt n accept : Nat) (r : Role) (s : State) :
    (serveSetCaptureOptions deck attempt n accept r s).1.recs = s.recs := by
  unfold serveSetCaptureOptions; split <;> simp
@[simp] theorem State.recs_startCapture (s : State) (d : Deck) (origin : Option Port) :
    (s.startCapture d origin).recs = s.recs := by
  unfold State.startCapture; split <;> simp
@[simp] theorem recs_serveCapture (q : Sender) (deck : Nat) (r : Role) (s : State) :
    (serveCapture q deck r s).1.recs = s.recs := by
  unfold serveCapture; split <;> simp [apply_ite Prod.fst]
@[simp] theorem recs_serveAbortCapture (deck : Nat) (r : Role) (s : State) :
    (serveAbortCapture deck r s).1.recs = s.recs := by
  unfold serveAbortCapture; split <;> simp [apply_ite Prod.fst]
@[simp] theorem State.recs_recordsAbort (s : State) (d : Deck) (number : Nat) :
    (s.recordsAbort d number).recs = s.recs := by
  simp [State.recordsAbort]
@[simp] theorem State.recs_attemptExpiry (s : State) (d : Deck) : (s.attemptExpiry d).recs = s.recs := by
  simp only [State.attemptExpiry]; (repeat' split) <;> simp
@[simp] theorem State.recs_leaveDeckExpiry (s : State) (d : Deck) : (s.leaveDeckExpiry d).recs = s.recs := by
  simp [State.leaveDeckExpiry]
@[simp] theorem State.recs_positioningEdge (s : State) (d : Deck) (i : Input) (e : Edge) :
    (s.positioningEdge d i e).recs = s.recs := by
  simp only [State.positioningEdge]; (repeat' split) <;> simp
@[simp] theorem recs_serveZeroDeck (deck : Nat) (r : Role) (s : State) :
    (serveZeroDeck deck r s).1.recs = s.recs := by
  simp only [serveZeroDeck]; (repeat' split) <;> simp
@[simp] theorem recs_serveReadCapture (deck : Nat) (r : Role) (s : State) :
    (serveReadCapture deck r s).1.recs = s.recs := by
  unfold serveReadCapture; split <;> simp
@[simp] theorem State.recs_mapChannel (s : State) (c : Channel) (m : Option Deck) (p : Edge) :
    (s.mapChannel c m p).recs = s.recs := by
  simp [State.mapChannel]
@[simp] theorem recs_serveSetChannelMap (channel map polarity : Nat) (r : Role) (s : State) :
    (serveSetChannelMap channel map polarity r s).1.recs = s.recs := by
  unfold serveSetChannelMap; split <;> simp [apply_ite Prod.fst]
@[simp] theorem recs_serveSetChannelLimits (channel low high : Nat) (r : Role) (s : State) :
    (serveSetChannelLimits channel low high r s).1.recs = s.recs := by
  unfold serveSetChannelLimits; split <;> simp [apply_ite Prod.fst]
@[simp] theorem recs_serveClearFaults (channel scope : Nat) (r : Role) (s : State) :
    (serveClearFaults channel scope r s).1.recs = s.recs := by
  unfold serveClearFaults; split <;> simp
@[simp] theorem recs_serveReadChannels (deck : Nat) (r : Role) (s : State) :
    (serveReadChannels deck r s).1.recs = s.recs := by
  simp only [serveReadChannels]; (repeat' split) <;> simp
@[simp] theorem State.recs_converterEdge (s : State) (c : Channel) (e : Edge) :
    (s.converterEdge c e).recs = s.recs := by
  unfold State.converterEdge; split <;> simp
@[simp] theorem State.recs_conditionerEdge (s : State) (i : Input) : (s.conditionerEdge i).recs = s.recs := by
  simp [State.conditionerEdge]
@[simp] theorem recs_serveSetConditioner (input polarity debounce : Nat) (r : Role) (s : State) :
    (serveSetConditioner input polarity debounce r s).1.recs = s.recs := by
  unfold serveSetConditioner; split <;> simp [apply_ite Prod.fst]
@[simp] theorem recs_serveReadInputs  (r : Role) (s : State) : (serveReadInputs  r s).1.recs = s.recs := rfl
@[simp] theorem State.recs_stopLoopEdge (s : State) (l : Lane) (e : Edge) : (s.stopLoopEdge l e).recs = s.recs := by
  unfold State.stopLoopEdge; split <;> simp
@[simp] theorem State.recs_stuckExpiry (s : State) (l : Lane) : (s.stuckExpiry l).recs = s.recs := by
  simp [State.stuckExpiry]
@[simp] theorem State.recs_filingOrder (s : State) (l : Lane) (number : Nat) (kind : FilingKind) (priority : Nat) :
    (s.filingOrder l number kind priority).recs = s.recs := by
  simp only [State.filingOrder]; split <;> simp
@[simp] theorem State.recs_absenceExpiry (s : State) (l : Lane) : (s.absenceExpiry l).recs = s.recs := by
  unfold State.absenceExpiry; split <;> simp
@[simp] theorem State.recs_cancelOrder (s : State) (l : Lane) (number : Nat) :
    (s.cancelOrder l number).recs = s.recs := by
  simp only [State.cancelOrder]; (repeat' split) <;> simp
@[simp] theorem State.recs_offerAtLane (s : State) (l : Lane) (d : Deck) (number : Nat) :
    (s.offerAtLane l d number).recs = s.recs := by
  simp [State.offerAtLane]
@[simp] theorem State.recs_grantWithdrawn (s : State) (l : Lane) (d : Deck) (number : Nat) (cause : WithdrawCause) :
    (s.grantWithdrawn l d number cause).recs = s.recs := by
  simp [State.grantWithdrawn]
@[simp] theorem State.recs_entryPassageAtLane (s : State) (l : Lane) (d : Deck) :
    (s.entryPassageAtLane l d).recs = s.recs := by
  simp [State.entryPassageAtLane]
@[simp] theorem State.recs_modLamp (s : State) (l : Lane) (k : Lamp) (f : LampWork → LampWork) :
    (s.modLamp l k f).recs = s.recs := rfl
@[simp] theorem recs_serveSetLaneTimers (lane absence stuck : Nat) (r : Role) (s : State) :
    (serveSetLaneTimers lane absence stuck r s).1.recs = s.recs := by
  unfold serveSetLaneTimers; split <;> simp
@[simp] theorem State.recs_realign (s : State) (l : Lane) (r : LaneFiling) (f : Feed) :
    (s.realign l r f).recs = s.recs := rfl
@[simp] theorem recs_serveSetLaneFeed (lane feed : Nat) (r : Role) (s : State) :
    (serveSetLaneFeed lane feed r s).1.recs = s.recs := by
  simp only [serveSetLaneFeed]; (repeat' split) <;> simp
@[simp] theorem recs_serveSetLaneMode (lane mode : Nat) (r : Role) (s : State) :
    (serveSetLaneMode lane mode r s).1.recs = s.recs := by
  simp only [serveSetLaneMode]; (repeat' split) <;> simp
@[simp] theorem recs_serveSetLamp (lane lamp source blink stretch : Nat) (r : Role) (s : State) :
    (serveSetLamp lane lamp source blink stretch r s).1.recs = s.recs := by
  unfold serveSetLamp; split <;> simp
@[simp] theorem recs_serveSetSignalHead (lane period : Nat) (r : Role) (s : State) :
    (serveSetSignalHead lane period r s).1.recs = s.recs := by
  unfold serveSetSignalHead; split <;> simp
@[simp] theorem recs_serveSetLampInvert (flag : Nat) (r : Role) (s : State) :
    (serveSetLampInvert flag r s).1.recs = s.recs := by
  unfold serveSetLampInvert; split <;> simp
@[simp] theorem recs_serveReadLane (lane : Nat) (r : Role) (s : State) :
    (serveReadLane lane r s).1.recs = s.recs := by
  unfold serveReadLane; split <;> simp
@[simp] theorem State.recs_sample (s : State) (x : Lines) : (s.sample x).recs = s.recs := by
  simp [State.sample, Input.all]
@[simp] theorem State.recs_firstLimits (s : State) (x : Lines) (b : Barrier) : (s.firstLimits x b).recs = s.recs := by
  simp [State.firstLimits]
@[simp] theorem State.recs_changeMode (s : State) (m : YardMode) (drain : Bool) :
    (s.changeMode m drain).recs = s.recs := rfl
@[simp] theorem State.recs_judgeDrain (s : State) : (s.judgeDrain).recs = s.recs := by
  simp [State.judgeDrain]
@[simp] theorem recs_serveSetYardMode (mode : Nat) (r : Role) (s : State) :
    (serveSetYardMode mode r s).1.recs = s.recs := by
  simp only [serveSetYardMode]; (repeat' split) <;> simp
@[simp] theorem State.recs_modeAtCapture (s : State) (d : Deck) (m : YardMode) :
    (s.modeAtCapture d m).recs = s.recs := by
  simp [State.modeAtCapture]
@[simp] theorem State.recs_modeTaken (s : State) (r : ModeReader) (m : YardMode) :
    (s.modeTaken r m).recs = s.recs := by
  unfold State.modeTaken; split <;> simp
@[simp] theorem State.recs_qualify (s : State) : (s.qualify).recs = s.recs := by
  simp [State.qualify]
@[simp] theorem State.recs_startExpiry (s : State) : (s.startExpiry).recs = s.recs := by
  simp [State.startExpiry]
@[simp] theorem State.recs_enterSupplyLow (s : State) : (s.enterSupplyLow).recs = s.recs := by
  simp [State.enterSupplyLow]
@[simp] theorem State.recs_restoreSupply (s : State) : (s.restoreSupply).recs = s.recs := by
  simp [State.restoreSupply]
@[simp] theorem State.recs_supplyTaken (s : State) (r : SupplyReader) (st : SupplyState) :
    (s.supplyTaken r st).recs = s.recs := by
  unfold State.supplyTaken; split <;> simp
@[simp] theorem recs_serveYardReset (q : Sender) (r : Role) (s : State) :
    (serveYardReset q r s).1.recs = s.recs := rfl
@[simp] theorem recs_serveSetAlarmMask (sources setting : Nat) (r : Role) (s : State) :
    (serveSetAlarmMask sources setting r s).1.recs = s.recs := by
  unfold serveSetAlarmMask; split <;> simp
@[simp] theorem recs_serveReadSupervisor  (r : Role) (s : State) : (serveReadSupervisor  r s).1.recs = s.recs := rfl
@[simp] theorem recs_serveListYard  (r : Role) (s : State) : (serveListYard  r s).1.recs = s.recs := rfl
@[simp] theorem recs_serveReadTransaction (number : Nat) (r : Role) (s : State) :
    (serveReadTransaction number r s).1.recs = s.recs := by
  unfold serveReadTransaction; split <;> simp
@[simp] theorem recs_serveFindPlate (plate : List Byte) (r : Role) (s : State) :
    (serveFindPlate plate r s).1.recs = s.recs := by
  unfold serveFindPlate; split <;> simp
@[simp] theorem State.recs_startEngine (s : State) (d : Deck) : (s.startEngine d).recs = s.recs := rfl
@[simp] theorem State.recs_startLamps (s : State) (l : Lane) : (s.startLamps l).recs = s.recs := rfl
@[simp] theorem State.recs_takeBooms (s : State) : (s.takeBooms).recs = s.recs := rfl
@[simp] theorem State.recs_calLost (s old : State) (d : Deck) : (s.calLost old d).recs = s.recs := by
  simp [State.calLost]
@[simp] theorem State.recs_judgeFrame (s : State) (p : Port) (body : List Byte) :
    (s.judgeFrame p body).recs = s.recs := by
  simp only [State.judgeFrame]; (repeat' split) <;> simp
@[simp] theorem State.recs_frameComplete (s : State) (p : Port) : (s.frameComplete p).recs = s.recs := by
  unfold State.frameComplete; split <;> simp
@[simp] theorem State.recs_character (s : State) (p : Port) (c : Byte) (error : Bool) :
    (s.character p c error).recs = s.recs := by
  simp [State.character]
@[simp] theorem State.recs_frameSent (s : State) (p : Port) : (s.frameSent p).recs = s.recs := by
  unfold State.frameSent; split <;> simp
@[simp] theorem State.recs_admitNotice (s : State) (p : Port) (b : Block) : (s.admitNotice p b).recs = s.recs := rfl
@[simp] theorem recs_serveSetPortRate (q : Sender) (port rate : Nat) (r : Role) (s : State) :
    (serveSetPortRate q port rate r s).1.recs = s.recs := by
  unfold serveSetPortRate; split <;> simp
@[simp] theorem recs_serveSetPortRole (port role : Nat) (r : Role) (s : State) :
    (serveSetPortRole port role r s).1.recs = s.recs := by
  unfold serveSetPortRole; split <;> simp [apply_ite Prod.fst]
@[simp] theorem recs_serveBindKiosk (port lane : Nat) (r : Role) (s : State) :
    (serveBindKiosk port lane r s).1.recs = s.recs := by
  unfold serveBindKiosk; split <;> simp [apply_ite Prod.fst]
@[simp] theorem recs_serveSetNoticeFloor (q : Sender) (floor : Nat) (r : Role) (s : State) :
    (serveSetNoticeFloor q floor r s).1.recs = s.recs := rfl
@[simp] theorem recs_serveQuiet (q : Sender) (n : Nat) (r : Role) (s : State) :
    (serveQuiet q n r s).1.recs = s.recs := rfl
@[simp] theorem recs_serveReadStatus (q : Sender) (r : Role) (s : State) :
    (serveReadStatus q r s).1.recs = s.recs := rfl
@[simp] theorem recs_serveReadPorts  (r : Role) (s : State) : (serveReadPorts  r s).1.recs = s.recs := rfl
@[simp] theorem recs_serveReadTare (plate : List Byte) (r : Role) (s : State) :
    (serveReadTare plate r s).1.recs = s.recs := by
  unfold serveReadTare; split <;> simp
@[simp] theorem recs_serveListTares (start : Nat) (r : Role) (s : State) :
    (serveListTares start r s).1.recs = s.recs := rfl
@[simp] theorem recs_serveSetTareValidity (lane days : Nat) (r : Role) (s : State) :
    (serveSetTareValidity lane days r s).1.recs = s.recs := by
  unfold serveSetTareValidity; split <;> simp
@[simp] theorem recs_serveReadClock  (r : Role) (s : State) : (serveReadClock  r s).1.recs = s.recs := rfl
@[simp] theorem recs_serveCollectNext  (r : Role) (s : State) : (serveCollectNext  r s).1.recs = s.recs := by
  unfold serveCollectNext; split <;> simp
@[simp] theorem recs_serveReadTicket (number : Nat) (r : Role) (s : State) :
    (serveReadTicket number r s).1.recs = s.recs := by
  unfold serveReadTicket; split <;> simp
@[simp] theorem State.recs_takeWindow (s : State) (w : WindowRecord) : (s.takeWindow w).1.recs = s.recs := by
  simp only [State.takeWindow]; split <;> simp [apply_ite Prod.fst]
@[simp] theorem State.recs_completeCapture (s : State) (d : Deck) (c : Capture) (weight : Int) (e : Nat) (cls : WeighClass) (window : Nat) :
    (s.completeCapture d c weight e cls window).recs = s.recs := by
  simp [State.completeCapture]
@[simp] theorem State.recs_testStability (s : State) (d : Deck) (c : Capture) (r : Reading) :
    (s.testStability d c r).recs = s.recs := by
  simp only [State.testStability]; (repeat' split) <;> simp
@[simp] theorem State.recs_modCapture (s : State) (d : Deck) (f : Capture → Capture) :
    (s.modCapture d f).recs = s.recs := rfl
@[simp] theorem State.recs_offerCapture (s : State) (d : Deck) (r : Reading) (marked : Bool) :
    (s.offerCapture d r marked).recs = s.recs := by
  unfold State.offerCapture; split <;> simp
@[simp] theorem State.recs_trackZero (s : State) (d : Deck) (r : Reading) : (s.trackZero d r).recs = s.recs := by
  unfold State.trackZero; split <;> simp
@[simp] theorem State.recs_zeroCompletion (s : State) (d : Deck) (k : Collection) (window : Nat) :
    (s.zeroCompletion d k window).recs = s.recs := by
  simp only [State.zeroCompletion, State.recs_post, State.recs_metroChange, State.recs_modEng, State.recs_modDeckCfg]
  rw [State.recs_foldl]; exact fun _ _ => rfl
@[simp] theorem State.recs_spanCompletion (s : State) (d : Deck) (k : Collection) (load : Int) (window : Nat) :
    (s.spanCompletion d k load window).recs = s.recs := by
  simp only [State.spanCompletion]; split
  · simp
  · simp only [State.recs_post, State.recs_metroChange, State.recs_modEng]
    rw [State.recs_foldl]; exact fun _ _ => rfl
@[simp] theorem State.recs_putCollection (s : State) (d : Deck) (k : Collection) :
    (s.putCollection d k).recs = s.recs := rfl
@[simp] theorem State.recs_offerCollection (s : State) (d : Deck) (w : WindowRecord) (r : Reading) :
    (s.offerCollection d w r).recs = s.recs := by
  simp only [State.offerCollection]; (repeat' split) <;> simp
@[simp] theorem State.recs_engineWindow (s : State) (w : WindowRecord) : (s.engineWindow w).recs = s.recs := by
  simp [State.engineWindow]
@[simp] theorem recs_serveSetOccupancy (deck threshold : Nat) (r : Role) (s : State) :
    (serveSetOccupancy deck threshold r s).1.recs = s.recs := by
  unfold serveSetOccupancy; split <;> simp [apply_ite Prod.fst]
@[simp] theorem recs_serveReadDeck (deck : Nat) (r : Role) (s : State) :
    (serveReadDeck deck r s).1.recs = s.recs := by
  unfold serveReadDeck; split <;> simp

end Sys2Proof.Machine
end

section
/-! SUPPORT. What the operations of the yard table make of the records, how an entry is found, and the changes of the records
that keep their law and the law of every entry (`Records.Keeps`). -/

namespace Sys2Proof.Machine

/-! ### What the operations of the records make of them -/

/-- The records with the entry of a number rewritten in its place. -/
def Records.edit (r : Records) (n : Nat) (f : Entry → Entry) : Records :=
  { r with entries := r.entries.map fun e => if e.number = n then f e else e }

/-- The records without the entry of a number. -/
def Records.drop (r : Records) (n : Nat) : Records :=
  { r with entries := r.entries.filter fun e => e.number != n }

/-- A ticket as the log stores it: with the counter's number, the sequence-start mark and the clock's time. -/
def Records.stamp (r : Records) (t : Ticket) : Ticket :=
  { t with number := r.nextTicket, seqStart := r.seqStart, voided := false, collected := false, issued := r.issueTime }

/-- The records with one more ticket in the log. -/
def Records.issued (r : Records) (t : Ticket) : Records :=
  { r with log := roomInLog r.log ++ [r.stamp t], counter := some (succTicket r.nextTicket), seqStart := false }

@[simp] theorem State.recs_modEntry (s : State) (n : Nat) (f : Entry → Entry) :
    (s.modEntry n f).recs = s.recs.edit n f := rfl
@[simp] theorem State.recs_dropEntry (s : State) (n : Nat) : (s.dropEntry n).recs = s.recs.drop n := rfl
@[simp] theorem State.recs_issue (s : State) (t : Ticket) : (s.issue t).recs = s.recs.issued t := by
  simp [State.issue, Records.issued, Records.stamp]
@[simp] theorem State.recs_applyTare (s : State) (w : TareWrite) :
    (s.applyTare w).recs = { s.recs with tares := w.tares } := by
  unfold State.applyTare; cases w.evicted <;> simp

@[simp] theorem Records.entries_issued (r : Records) (t : Ticket) : (r.issued t).entries = r.entries := rfl
@[simp] theorem Records.find_issued (r : Records) (t : Ticket) (n : Nat) : (r.issued t).find n = r.find n := rfl

/-! ### Finding an entry -/

theorem Records.mem_of_find {r : Records} {n : Nat} {e : Entry} (h : r.find n = some e) : e ∈ r.entries :=
  List.mem_of_find?_eq_some h

theorem Records.number_of_find {r : Records} {n : Nat} {e : Entry} (h : r.find n = some e) : e.number = n := by
  simpa using List.find?_some h

/-- The table holds at most one entry of a number. -/
theorem Records.Law.eq_of_number {r : Records} (h : r.Law) {x e : Entry} (hx : x ∈ r.entries) (he : e ∈ r.entries)
    (hn : x.number = e.number) : x = e :=
  List.inj_on_of_nodup_map h.numbers hx he hn

theorem Records.Law.find_of_mem {r : Records} (h : r.Law) {e : Entry} (he : e ∈ r.entries) :
    r.find e.number = some e := by
  cases hf : r.find e.number with
  | none => simpa using List.find?_eq_none.mp hf e he
  | some x => rw [h.eq_of_number (mem_of_find hf) he (number_of_find hf)]

theorem Records.Law.eq_of_find {r : Records} (h : r.Law) {n : Nat} {x e : Entry} (hf : r.find n = some e)
    (hx : x ∈ r.entries) (hn : x.number = n) : x = e :=
  h.eq_of_number hx (mem_of_find hf) (hn.trans (number_of_find hf).symm)

theorem Records.edit_of_find_none {r : Records} {n : Nat} (h : r.find n = none) (f : Entry → Entry) :
    r.edit n f = r := by
  have hm : (r.entries.map fun e => if e.number = n then f e else e) = r.entries.map id :=
    List.map_congr_left fun e he => if_neg (by simpa using List.find?_eq_none.mp h e he)
  rw [Records.edit, hm, List.map_id]

/-- Rewriting the entry of one number leaves the entry of another as it was. -/
theorem Records.find_edit_ne (r : Records) {n k : Nat} (f : Entry → Entry) (hk : k ≠ n)
    (hf : ∀ e, e.number = n → (f e).number = n) : (r.edit n f).find k = r.find k := by
  have hp : ((fun e : Entry => e.number == k) ∘ fun e => if e.number = n then f e else e) = fun e => e.number == k := by
    funext e
    by_cases he : e.number = n
    · simp [he, hf e he]
    · simp [he]
  simp only [Records.find, Records.edit, List.find?_map, hp]
  cases hr : r.entries.find? fun e => e.number == k with
  | none => rfl
  | some x =>
    have hx : x.number = k := by simpa using List.find?_some hr
    simp [hx, hk]

theorem Records.find_drop_ne (r : Records) {n k : Nat} (hk : k ≠ n) : (r.drop n).find k = r.find k := by
  simp only [Records.find, Records.drop, List.find?_filter]
  congr 1
  funext e
  by_cases he : e.number = k
  · simp [he, hk]
  · simp [he]

/-! ### Changes of the records that keep their laws -/

/-- A change of the records that keeps their law, and with it the law of every entry. -/
def Records.Keeps (r r' : Records) : Prop :=
  r.Law → r'.Law ∧ ((∀ e ∈ r.entries, e.Law) → ∀ e ∈ r'.entries, e.Law)

theorem Records.Keeps.refl (r : Records) : r.Keeps r := fun h => ⟨h, id⟩

theorem Records.Keeps.trans {a b c : Records} (h : a.Keeps b) (k : b.Keeps c) : a.Keeps c := fun ha =>
  have hb := h ha
  have hc := k hb.1
  ⟨hc.1, fun he => hc.2 (hb.2 he)⟩

/-- A change that leaves the table as it was. -/
theorem Records.Keeps.of_entries {r r' : Records} (he : r'.entries = r.entries) (h : r.Law → r'.Law) : r.Keeps r' :=
  fun hr => ⟨h hr, fun hl => he ▸ hl⟩

/-- Keys that a rewriting keeps stay in their order. -/
theorem map_filterMap_sublist {α β : Type} (k : α → β) (g : α → Option α) (es : List α)
    (hg : ∀ e ∈ es, ∀ x, g e = some x → k x = k e) : ((es.filterMap g).map k).Sublist (es.map k) := by
  induction es with
  | nil => simp
  | cons e es ih =>
    have ih := ih fun x hx => hg x (List.mem_cons_of_mem _ hx)
    cases hge : g e with
    | none => simpa [hge] using ih.cons _
    | some x => simpa [hge, hg e (by simp) x hge] using ih

/-- A change of the table alone: what is left of it stands in the old order under the old keys, and is lawful. -/
theorem Records.keeps_filterMap {r r' : Records} (g : Entry → Option Entry)
    (hr : r' = { r with entries := r.entries.filterMap g })
    (hk : r.Law → ∀ e ∈ r.entries, ∀ x, g e = some x → x.number = e.number ∧ x.plate = e.plate ∧ (e.Law → x.Law)) :
    r.Keeps r' := by
  subst hr
  intro h
  have hk := hk h
  refine ⟨{ h with
    table := (List.length_filterMap_le _ _).trans h.table
    numbers := h.numbers.sublist (map_filterMap_sublist _ _ _ fun e he x hx => (hk e he x hx).1)
    plates := h.plates.sublist (map_filterMap_sublist _ _ _ fun e he x hx => (hk e he x hx).2.1) }, fun hl x hx => ?_⟩
  obtain ⟨e, he, hge⟩ := List.mem_filterMap.mp hx
  exact (hk e he x hge).2.2 (hl e he)

/-- The rewriting of one entry that keeps its key and its law. -/
theorem Records.keeps_edit {r : Records} {n : Nat} {e : Entry} {f : Entry → Entry} (hf : r.find n = some e)
    (hn : (f e).number = e.number) (hp : (f e).plate = e.plate) (hl : e.Law → (f e).Law) : r.Keeps (r.edit n f) := by
  refine keeps_filterMap (fun x => some (if x.number = n then f x else x)) (by simp [Records.edit]) ?_
  rintro h x hx y ⟨⟩
  split
  · next hxn => cases h.eq_of_find hf hx hxn; exact ⟨hn, hp, hl⟩
  · exact ⟨rfl, rfl, id⟩

theorem Records.keeps_drop (r : Records) (n : Nat) : r.Keeps (r.drop n) := by
  refine keeps_filterMap (Option.guard fun e => e.number != n) (by rw [Records.drop, List.filterMap_eq_filter]) ?_
  intro h x hx y hy
  obtain ⟨rfl, -⟩ := Option.guard_eq_some_iff.mp hy
  exact ⟨rfl, rfl, id⟩

end Sys2Proof.Machine
end

section
/-! SUPPORT. Transaction numbers (R3), the tare store (R27, R29) and the ticket log (R40, R42, R46) under their operations. -/

namespace Sys2Proof.Machine

/-! ### Transaction numbers (R3) -/

theorem succNumber_range (n : Nat) : 1 ≤ succNumber n ∧ succNumber n ≤ 65535 := by
  unfold succNumber; split <;> simp only [Config.u16Max] at * <;> omega

/-- From a number in use the numbers run on to 65,535 and begin again at 1. -/
theorem succNumber_iterate (a i : Nat) (h : 1 ≤ a ∧ a ≤ 65535) : succNumber^[i] a = (a - 1 + i) % 65535 + 1 := by
  induction i with
  | zero => simp only [Function.iterate_zero, id]; omega
  | succ i ih =>
    rw [Function.iterate_succ_apply', ih]
    unfold succNumber
    split <;> simp only [Config.u16Max] at * <;> omega

/-- The allocation takes the first number that no entry uses, or the last that it looks at. -/
theorem allocate_spec (es : List Entry) (k last : Nat) :
    ∃ j ≤ k, allocate es k last = succNumber^[j + 1] last ∧
      (∀ i < j, ∃ e ∈ es, e.number = succNumber^[i + 1] last) ∧
      (j < k → ∀ e ∈ es, e.number ≠ succNumber^[j + 1] last) := by
  induction k generalizing last with
  | zero => exact ⟨0, Nat.le_refl 0, rfl, by simp, by simp⟩
  | succ k ih =>
    by_cases hu : es.any fun e => e.number == succNumber last
    · obtain ⟨j, hj, ha, hused, hfree⟩ := ih (succNumber last)
      refine ⟨j + 1, by omega, by rw [allocate, if_pos hu, ha]; rfl, fun i hi => ?_, fun h => hfree (by omega)⟩
      cases i with
      | zero => simpa using hu
      | succ i => exact hused i (by omega)
    · exact ⟨0, by omega, by rw [allocate, if_neg hu]; rfl, by simp, fun _ => by simpa using hu⟩

/-- Among 97 numbers in a row one is free of a table of at most 96. -/
theorem exists_unused_number (es : List Entry) (last : Nat) (h : es.length ≤ 96) :
    ∃ i ≤ 96, ∀ e ∈ es, e.number ≠ succNumber^[i + 1] last := by
  by_contra hc
  push Not at hc
  have hnum : ∀ i, succNumber^[i + 1] last = (succNumber last - 1 + i) % 65535 + 1 := fun i => by
    rw [Function.iterate_succ_apply, succNumber_iterate _ _ (succNumber_range last)]
  have hnd : ((List.range 97).map fun i => succNumber^[i + 1] last).Nodup := by
    refine List.Nodup.map_on (fun i hi j hj hij => ?_) List.nodup_range
    simp only [List.mem_range, hnum] at hi hj hij
    omega
  have hsub : ((List.range 97).map fun i => succNumber^[i + 1] last) ⊆ es.map Entry.number := by
    intro n hn
    obtain ⟨i, hi, rfl⟩ := List.mem_map.mp hn
    obtain ⟨e, he, hen⟩ := hc i (by have := List.mem_range.mp hi; omega)
    exact List.mem_map.mpr ⟨e, he, hen⟩
  have hlen := (List.subperm_of_subset hnd hsub).length_le
  simp only [List.length_map, List.length_range] at hlen
  omega

/-- The allocation finds the first number that no entry uses, within 97 steps (R3). -/
theorem allocate_first_unused (es : List Entry) (last : Nat) (h : es.length ≤ 96) :
    (∀ e ∈ es, e.number ≠ allocate es 96 last) ∧
      ∃ k ≤ 96, allocate es 96 last = succNumber^[k + 1] last ∧
        ∀ j < k, ∃ e ∈ es, e.number = succNumber^[j + 1] last := by
  obtain ⟨k, hk, ha, hused, hfree⟩ := allocate_spec es 96 last
  refine ⟨?_, k, hk, ha, hused⟩
  obtain ⟨i, hi, hu⟩ := exists_unused_number es last h
  rw [ha]
  rcases Nat.lt_or_ge k 96 with hlt | hge
  · exact hfree hlt
  · have hki : i = k := by
      by_contra hne
      obtain ⟨e, he, hen⟩ := hused i (by omega)
      exact hu e he hen
    exact hki ▸ hu

theorem allocate_range (es : List Entry) (k last : Nat) : 1 ≤ allocate es k last ∧ allocate es k last ≤ 65535 := by
  obtain ⟨j, -, ha, -⟩ := allocate_spec es k last
  rw [ha, Function.iterate_succ_apply']
  exact succNumber_range _

/-! ### The tare store -/

theorem mem_insertTare {x t : Tare} {ts : List Tare} : x ∈ insertTare t ts ↔ x = t ∨ x ∈ ts := by
  induction ts with
  | nil => simp [insertTare]
  | cons u us ih =>
    unfold insertTare
    split
    · simp only [List.mem_cons, ih]; tauto
    · simp only [List.mem_cons]

theorem mem_sortTares {x : Tare} {ts : List Tare} : x ∈ sortTares ts ↔ x ∈ ts := by
  induction ts with
  | nil => rfl
  | cons t ts ih => rw [sortTares, List.foldr_cons, mem_insertTare, ← sortTares, ih, List.mem_cons]

theorem Records.evictee_mem {r : Records} {v : Tare} (h : r.evictee = some v) : v ∈ r.tares :=
  mem_sortTares.mp (List.mem_of_find?_eq_some h)

/-- What the law of the records asks of the tare store (R27). -/
def StoreOk (ts : List Tare) : Prop := ts.length ≤ 256 ∧ (ts.map Tare.plate).Nodup

theorem Records.Law.storeOk {r : Records} (h : r.Law) : StoreOk r.tares := ⟨h.store, h.tarePlates⟩

theorem Records.Law.withTares {r : Records} (h : r.Law) {ts : List Tare} (ht : StoreOk ts) :
    ({ r with tares := ts } : Records).Law := { h with store := ht.1, tarePlates := ht.2 }

theorem StoreOk.filter {ts : List Tare} (h : StoreOk ts) (p : Tare → Bool) : StoreOk (ts.filter p) :=
  ⟨(List.length_filter_le _ _).trans h.1, h.2.sublist (List.filter_sublist.map _)⟩

/-- A plate that the store holds no record of takes one more, where there is room. -/
theorem StoreOk.append {ts : List Tare} {t : Tare} (h : StoreOk ts) (hl : ts.length < 256)
    (ht : ∀ u ∈ ts, u.plate ≠ t.plate) : StoreOk (ts ++ [t]) := by
  refine ⟨by simpa using hl, ?_⟩
  rw [List.map_append, List.nodup_append]
  exact ⟨h.2, by simp, by simpa using ht⟩

theorem Records.tareOf_none {r : Records} {p : Plate} (h : ¬ (r.tareOf p).isSome = true) :
    ∀ u ∈ r.tares, u.plate ≠ p := by
  intro u hu
  have := List.find?_eq_none.mp (Option.not_isSome_iff_eq_none.mp h) u hu
  simpa using this

/-- The tare write keeps the store's size, and one record to a plate (R27, R29). -/
theorem Records.storeOk_tareWrite {r : Records} (h : StoreOk r.tares) {t : Tare} {w : TareWrite}
    (hw : r.tareWrite t = some w) : StoreOk w.tares := by
  unfold Records.tareWrite at hw
  split at hw
  · cases hw
    have hm : (r.tares.map fun u => if u.plate = t.plate then t else u).map Tare.plate = r.tares.map Tare.plate := by
      rw [List.map_map]
      refine List.map_congr_left fun u _ => ?_
      by_cases hu : u.plate = t.plate <;> simp [hu]
    exact ⟨by simpa using h.1, hm ▸ h.2⟩
  · next hn =>
    have hn := tareOf_none hn
    split at hw
    · next hl =>
      cases hw
      exact h.append hl hn
    · obtain ⟨v, hv, rfl⟩ := Option.map_eq_some_iff.mp hw
      have hlt : (r.tares.filter fun u => u.plate != v.plate).length < r.tares.length :=
        List.length_filter_lt_length_iff_exists.mpr ⟨v, evictee_mem hv, by simp⟩
      exact (h.filter _).append (hlt.trans_le h.1) fun u hu => hn u (List.mem_of_mem_filter hu)

/-! ### The ticket log -/

theorem isChain_numbers_iff (log : List Ticket) :
    (log.IsChain fun a b => b.number = succTicket a.number) ↔
      (log.map Ticket.number).IsChain fun a b => b = succTicket a := by
  rw [List.isChain_map]

/-- A new log with the old numbers in their order, and the collected tickets still the oldest. -/
theorem Records.Law.relog {r : Records} (h : r.Law) {log : List Ticket}
    (hn : log.map Ticket.number = r.log.map Ticket.number)
    (ho : log.Pairwise fun a b => b.collected = true → a.collected = true) : ({ r with log := log } : Records).Law := by
  have hlen : log.length = r.log.length := by simpa using congrArg List.length hn
  refine { h with log := hlen ▸ h.log, oldest := ho, consecutive := ?_, next := fun t ht => ?_ }
  · rw [isChain_numbers_iff] at *
    simpa [hn] using (isChain_numbers_iff r.log).mp h.consecutive
  · have hl : r.log.getLast?.map Ticket.number = some t.number := by
      rw [← List.getLast?_map, ← hn, List.getLast?_map]
      exact congrArg (Option.map Ticket.number) ht
    obtain ⟨u, hu, hun⟩ := Option.map_eq_some_iff.mp hl
    exact hun ▸ h.next u hu

theorem roomInLog_sublist (log : List Ticket) : (roomInLog log).Sublist log := by
  unfold roomInLog; split
  · exact List.drop_sublist ..
  · exact List.Sublist.refl _

/-- Making room in the log leaves its last ticket. -/
theorem getLast?_roomInLog (log : List Ticket) : (roomInLog log).getLast? = log.getLast? := by
  unfold roomInLog; split
  · next h =>
    have : ¬ log.length ≤ 1 := by simp only [Config.logMax] at h; omega
    rw [List.getLast?_drop, if_neg this]
  · rfl

/-- The issue of a ticket keeps the log's size, its order and its numbers (R40, R42). -/
theorem Records.Law.issued {r : Records} (h : r.Law) (t : Ticket) : (r.issued t).Law := by
  have hlog := h.log
  refine { h with log := ?_, oldest := ?_, consecutive := ?_, next := ?_ }
  · simp only [Records.issued, List.length_append, List.length_singleton]
    unfold roomInLog
    split <;> simp only [Config.logMax, List.length_drop] at * <;> omega
  · refine List.pairwise_append.mpr ⟨h.oldest.sublist (roomInLog_sublist _), by simp, fun a _ b hb => ?_⟩
    rw [List.mem_singleton.mp hb]
    exact fun hc => absurd hc Bool.false_ne_true
  · refine List.isChain_append.mpr ⟨?_, by simp, fun a ha b hb => ?_⟩
    · unfold roomInLog; split
      · exact h.consecutive.drop 1
      · exact h.consecutive
    · have ha : r.log.getLast? = some a := by rw [← getLast?_roomInLog]; exact ha
      have hb : r.stamp t = b := by simpa using hb
      rw [← hb]
      simp [Records.stamp, Records.nextTicket, h.next a ha]
  · intro u hu
    have hu : r.stamp t = u := by simpa [Records.issued] using hu
    rw [← hu]; rfl

/-- Confirming marks the tickets up to the confirmed one, and leaves those behind it. -/
theorem collectTo_eq_append (n : Nat) (log : List Ticket) :
    ∃ older newer, log = older ++ newer ∧
      collectTo n log = (older.map fun t => { t with collected := true }) ++ newer := by
  induction log with
  | nil => exact ⟨[], [], rfl, rfl⟩
  | cons t ts ih =>
    by_cases ht : t.number = n
    · exact ⟨[t], ts, rfl, by simp [collectTo, ht]⟩
    · obtain ⟨older, newer, h1, h2⟩ := ih
      exact ⟨t :: older, newer, by simp [h1], by simp [collectTo, ht, h2]⟩

theorem Records.Law.collectTo {r : Records} (h : r.Law) (n : Nat) :
    ({ r with log := Machine.collectTo n r.log } : Records).Law := by
  obtain ⟨older, newer, h1, h2⟩ := collectTo_eq_append n r.log
  rw [h2]
  refine h.relog ?_ ?_
  · rw [h1]; simp
  · have ho := h1 ▸ h.oldest
    rw [List.pairwise_append] at ho ⊢
    exact ⟨List.pairwise_of_forall_mem_list (by simp), ho.2.1, by simp⟩

theorem Records.Law.markVoided {r : Records} (h : r.Law) (n : Nat) :
    ({ r with log := r.log.map fun u => if u.number = n then { u with voided := true } else u } : Records).Law := by
  have hc : ∀ u : Ticket, (if u.number = n then { u with voided := true } else u).collected = u.collected := by
    intro u; split <;> rfl
  refine h.relog ?_ ?_
  · rw [List.map_map]
    refine List.map_congr_left fun u _ => ?_
    by_cases hu : u.number = n <;> simp [hu]
  · simpa only [List.pairwise_map, hc] using h.oldest

end Sys2Proof.Machine
end

section
/-! SUPPORT. The law of an entry under each change of its life: holds and amendments, recalls, passes, weighings, closure and
departures (R2, R7 to R13, R19, R20). -/

namespace Sys2Proof.Machine

/-! ### The law of an entry under the changes of its life -/

/-- The part of the law of an entry about its material lines and its next material. -/
def Entry.MaterialsOk (e : Entry) : Prop :=
  (1 ≤ e.lines.length ∧ e.lines.length + (if e.nextMaterial.isSome then 1 else 0) ≤ 5) ∧
    ∀ m ∈ e.lines ++ e.nextMaterial.toList, 1 ≤ m ∧ m ≤ 9999

section
variable {e : Entry}

theorem Entry.Law.materialsOk (h : e.Law) : e.MaterialsOk := ⟨h.lines, h.materials⟩

theorem Entry.MaterialsOk.of_eq (h : e.MaterialsOk) {x : Entry} (hl : x.lines = e.lines)
    (hn : x.nextMaterial = e.nextMaterial) : x.MaterialsOk := by
  unfold Entry.MaterialsOk; rw [hl, hn]; exact h

/-- An entry that loses its next material. -/
theorem Entry.MaterialsOk.of_none (h : e.MaterialsOk) {x : Entry} (hl : x.lines = e.lines)
    (hn : x.nextMaterial = none) : x.MaterialsOk := by
  obtain ⟨⟨h1, h2⟩, hm⟩ := h
  unfold Entry.MaterialsOk; rw [hl, hn]
  exact ⟨⟨h1, by simp; omega⟩, fun m hx => hm m (List.mem_append_left _ (by simpa using hx))⟩

/-- An entry with a next material of its own. -/
theorem Entry.MaterialsOk.of_some (h : e.MaterialsOk) {x : Entry} {m : Nat} (hl : x.lines = e.lines)
    (hn : x.nextMaterial = some m) (h5 : e.lines.length < 5) (hm : 1 ≤ m ∧ m ≤ 9999) : x.MaterialsOk := by
  obtain ⟨⟨h1, -⟩, ho⟩ := h
  unfold Entry.MaterialsOk; rw [hl, hn]
  refine ⟨⟨h1, h5⟩, fun y hy => ?_⟩
  rcases List.mem_append.mp hy with hy | hy
  · exact ho y (List.mem_append_left _ hy)
  · rw [Option.mem_toList.mp hy |> Option.some.inj |>.symm]; exact hm

/-- The next material becomes the last line (R10). -/
theorem Entry.MaterialsOk.append (h : e.MaterialsOk) {x : Entry} {m : Nat} (he : e.nextMaterial = some m)
    (hl : x.lines = e.lines ++ [m]) (hn : x.nextMaterial = none) : x.MaterialsOk := by
  obtain ⟨⟨h1, h2⟩, ho⟩ := h
  unfold Entry.MaterialsOk; rw [hl, hn]
  rw [he] at h2 ho
  exact ⟨⟨by simp, by simpa using h2⟩, by simpa using ho⟩

theorem Entry.nextMaterial_of_split {m : Nat} {o : Origin}
    (h : e.recallIntent = some { intent := .split m, origin := o }) : e.nextMaterial = some m := by
  simp [Entry.nextMaterial, h]

theorem Entry.nextMaterial_of_no_pass (hr : ∀ m o, e.recallIntent ≠ some { intent := .split m, origin := o })
    (hp : e.pass = none) : e.nextMaterial = none := by
  unfold Entry.nextMaterial
  split <;> simp_all

theorem Entry.nextMaterial_of_done {ps : Pass} (hr : e.recallIntent = none) (hp : e.pass = some ps)
    (hd : ps.status = .done) : e.nextMaterial = none := by
  obtain ⟨p, d, st⟩ := ps
  cases hd
  simp [Entry.nextMaterial, hr, hp]

/-- The next material of a pass that is not DONE is that of its purpose. -/
theorem Entry.nextMaterial_of_pass {ps : Pass} (hr : e.recallIntent = none) (hp : e.pass = some ps)
    (hd : ps.status ≠ .done) :
    e.nextMaterial = match ps.purpose with
      | .split m => some m
      | _ => none := by
  obtain ⟨p, d, st⟩ := ps
  cases p <;> cases st <;> simp_all [Entry.nextMaterial]

theorem Entry.Law.intent_none (h : e.Law) (hs : e.state ≠ .recalled) : e.recallIntent = none := by
  simpa using mt h.intent.mp hs

theorem Entry.Law.request_none (h : e.Law) (hs : e.state ≠ .admitted) (hs' : e.state ≠ .recalled) :
    e.request = none := by
  simpa using mt h.request.mp (not_or.mpr ⟨hs, hs'⟩)

theorem Entry.Law.pass_none (h : e.Law) (hs : e.state ≠ .onDeck) : e.pass = none := by
  simpa using mt h.pass.mp hs

theorem Entry.Law.departure_none (h : e.Law) (hs : e.state ≠ .onDeck) : e.departure = none := by
  simpa using mt h.departure hs

theorem Entry.finished_of_departure_none (h : e.departure = none) : e.finished = false := by
  simp [Entry.finished, h]

theorem Entry.Law.onDeck_of_pass (h : e.Law) {ps : Pass} (hp : e.pass = some ps) : e.state = .onDeck :=
  h.pass.mp (by simp [hp])

/-- The weighings of an entry that is neither finished nor pending. -/
theorem Entry.Law.weighings_open (h : e.Law) (hf : e.finished = false) (hc : e.closurePending = false) :
    e.weighings = [] ∨ (e.mode = .twoPass ∧ e.weighings.length = e.lines.length) := by
  rcases h.weighings with hw | hw | ⟨hw, -⟩
  · exact .inl hw
  · exact .inr hw
  · simp [hc, hf] at hw

theorem Entry.Law.withHold (h : e.Law) (v : Option Hold) (hv : ∀ x, v = some x → 1 ≤ x.reason ∧ x.reason ≤ 255) :
    ({ e with hold := v } : Entry).Law := { h with hold := hv }

theorem Entry.Law.withCancelling (h : e.Law) (b : Bool) : ({ e with cancelling := b } : Entry).Law := { h with }

theorem Entry.Law.withAccount (h : e.Law) {a : Nat} (ha : a ≤ 999999) : ({ e with account := a } : Entry).Law :=
  { h with account := ha }

/-- Another material for one of the lines (R19). -/
theorem Entry.Law.withLine (h : e.Law) (i : Nat) {m : Nat} (hm : 1 ≤ m ∧ m ≤ 9999) :
    ({ e with lines := e.lines.set i m } : Entry).Law := by
  have hlen : (e.lines.set i m).length = e.lines.length := List.length_set
  refine { h with lines := hlen ▸ h.lines, materials := ?_, weighings := hlen ▸ h.weighings
                  unweighed := hlen ▸ h.unweighed, pending := hlen ▸ h.pending, purpose := hlen ▸ h.purpose }
  intro x hxm
  rcases List.mem_append.mp hxm with hl | hn
  · rcases List.mem_or_eq_of_mem_set hl with hl | rfl
    · exact h.materials x (List.mem_append_left _ hl)
    · exact hm
  · exact h.materials x (List.mem_append_right _ hn)

/-- Another next material for a SPLIT recall (R19). -/
theorem Entry.Law.withNextMaterial (h : e.Law) {k m : Nat} {o : Origin}
    (hr : e.recallIntent = some { intent := .split k, origin := o }) (hm : 1 ≤ m ∧ m ≤ 9999) :
    ({ e with recallIntent := some { intent := .split m, origin := o } } : Entry).Law := by
  have hy := Entry.nextMaterial_of_split hr
  have hlines := h.lines.2
  rw [hy] at hlines
  obtain ⟨hl, hmat⟩ := h.materialsOk.of_some
    (x := { e with recallIntent := some { intent := .split m, origin := o } }) rfl rfl hlines hm
  refine { h with lines := hl, materials := hmat, intent := by simpa [hr] using h.intent, split := fun hmode => ?_ }
  have := h.split hmode
  rw [hy] at this; cases this

/-- A recall of an entry in the yard or in quarantine (R7). -/
theorem Entry.Law.recall (h : e.Law) (hs : e.state ≠ .onDeck) (hc : e.closurePending = false) (l : LaneRequest)
    (i : Intent) (o : Origin) (tag : Option Nat)
    (hi : ∀ m, i = .split m → e.mode = .twoPass ∧ e.lines.length < 5 ∧ 1 ≤ m ∧ m ≤ 9999) :
    ({ e with state := .recalled, request := some l, recallIntent := some { intent := i, origin := o }
              tag := tag } : Entry).Law := by
  have hpass := h.pass_none hs
  have hdep := h.departure_none hs
  have hx : ({ e with state := .recalled, request := some l, recallIntent := some { intent := i, origin := o }
                      tag := tag } : Entry).MaterialsOk ∧
      (e.mode ≠ .twoPass → ({ e with state := .recalled, request := some l
                                     recallIntent := some { intent := i, origin := o }
                                     tag := tag } : Entry).nextMaterial = none) := by
    cases i with
    | final =>
      have hn := Entry.nextMaterial_of_no_pass (e := { e with
        state := .recalled, request := some l, recallIntent := some { intent := .final, origin := o }, tag := tag })
        (by simp) hpass
      exact ⟨h.materialsOk.of_none rfl hn, fun _ => hn⟩
    | split m =>
      obtain ⟨hmode, hlen, hm⟩ := hi m rfl
      exact ⟨h.materialsOk.of_some rfl rfl hlen hm, fun hne => absurd hmode hne⟩
  obtain ⟨⟨hl, hmat⟩, hsplit⟩ := hx
  exact { h with
    lines := hl, materials := hmat, split := hsplit, request := by simp, intent := by simp, pass := by simp [hpass]
    departure := by simp [hdep], calm := fun _ => hc }

/-- An entry that has left its lane or its deck for the yard or for quarantine, unfinished (R8, R11, R25). -/
theorem Entry.Law.parked (h : e.Law) (hf : e.finished = false) {st : EntryState} (hst : st = .inYard ∨ st = .quarantine)
    (b : Bool) :
    ({ e with state := st, interrupted := b, request := none, recallIntent := none, pass := none
              departure := none } : Entry).Law := by
  obtain ⟨hl, hmat⟩ := h.materialsOk.of_none
    (x := { e with state := st, interrupted := b, request := none, recallIntent := none, pass := none
                   departure := none }) rfl rfl
  have hst : st ≠ .admitted ∧ st ≠ .recalled ∧ st ≠ .onDeck := by rcases hst with rfl | rfl <;> simp
  refine { h with
    lines := hl, materials := hmat, split := fun _ => rfl, request := by simp [hst], intent := by simp [hst]
    pass := by simp [hst], departure := by simp, calm := by simp [hst], purpose := by simp, weighings := ?_ }
  rcases h.weighings with hw | hw | ⟨hw, hlen⟩
  · exact .inl hw
  · exact .inr (.inl hw)
  · exact .inr (.inr ⟨.inl (by simpa [hf] using hw), hlen⟩)

theorem Entry.purpose_tareOnly (h : e.mode = .tareOnly) : e.purpose = .tare := by simp [Entry.purpose, h]
theorem Entry.purpose_storedTare (h : e.mode = .storedTare) : e.purpose = .gross := by simp [Entry.purpose, h]
theorem Entry.purpose_first (h : e.mode = .twoPass) (hw : e.weighings = []) : e.purpose = .first := by
  simp [Entry.purpose, h, hw]
theorem Entry.purpose_split (h : e.mode = .twoPass) (hw : e.weighings ≠ []) {m : Nat} {o : Origin}
    (hr : e.recallIntent = some { intent := .split m, origin := o }) : e.purpose = .split m := by
  simp [Entry.purpose, h, hw, hr]
theorem Entry.purpose_final (h : e.mode = .twoPass) (hw : e.weighings ≠ [])
    (hr : ∀ m o, e.recallIntent ≠ some { intent := .split m, origin := o }) : e.purpose = .final := by
  simp only [Entry.purpose, h, List.isEmpty_iff, hw, if_false]
  split
  · next hm => exact absurd hm (hr _ _)
  · rfl
  · rfl

/-- What the purpose of a pass says of the entry: its mode, its weighings, and the next material of a SPLIT. -/
theorem Entry.purpose_fits (e : Entry)
    (hw : e.weighings = [] ∨ (e.mode = .twoPass ∧ e.weighings.length = e.lines.length)) :
    match e.purpose with
      | .first => e.mode = .twoPass ∧ e.weighings = []
      | .split m => e.mode = .twoPass ∧ e.weighings.length = e.lines.length ∧ e.nextMaterial = some m
      | .final => e.mode = .twoPass ∧ e.weighings.length = e.lines.length
      | .gross => e.mode = .storedTare ∧ e.weighings = []
      | .tare => e.mode = .tareOnly ∧ e.weighings = [] := by
  cases hm : e.mode with
  | tareOnly => simpa [Entry.purpose_tareOnly hm, hm] using hw
  | storedTare => simpa [Entry.purpose_storedTare hm, hm] using hw
  | twoPass =>
    by_cases hws : e.weighings = []
    · rw [Entry.purpose_first hm hws]; exact ⟨rfl, hws⟩
    · have hlen : e.weighings.length = e.lines.length := by simpa [hm, hws] using hw
      by_cases hr : ∃ m o, e.recallIntent = some { intent := .split m, origin := o }
      · obtain ⟨m, o, hr⟩ := hr
        rw [Entry.purpose_split hm hws hr]
        exact ⟨rfl, hlen, Entry.nextMaterial_of_split hr⟩
      · rw [Entry.purpose_final hm hws fun m o h => hr ⟨m, o, h⟩]
        exact ⟨rfl, hlen⟩

/-- An entry that passes onto a deck (R9). -/
theorem Entry.Law.onto (h : e.Law) (hs : e.state = .admitted ∨ e.state = .recalled) (d : Deck) : (e.onto d).Law := by
  have hc := h.calm hs
  have hdeck : e.state ≠ .onDeck := by rcases hs with hs | hs <;> simp [hs]
  have hdep := h.departure_none hdeck
  have hw := h.weighings_open (Entry.finished_of_departure_none hdep) hc
  have hnext : (e.onto d).nextMaterial = match e.purpose with
      | .split m => some m
      | _ => none :=
    Entry.nextMaterial_of_pass (ps := { purpose := e.purpose, deck := d, status := .awaiting }) rfl rfl (by simp)
  have hp := e.purpose_fits hw
  have hmat : (e.onto d).MaterialsOk ∧ (e.mode ≠ .twoPass → (e.onto d).nextMaterial = none) := by
    cases hpu : e.purpose with
    | split m =>
      simp only [hpu] at hp hnext
      exact ⟨h.materialsOk.of_eq rfl (hnext.trans hp.2.2.symm), fun hne => absurd hp.1 hne⟩
    | _ =>
      simp only [hpu] at hnext
      exact ⟨h.materialsOk.of_none rfl hnext, fun _ => hnext⟩
  obtain ⟨⟨hl, hmat⟩, hsplit⟩ := hmat
  refine { h with
    lines := hl, materials := hmat, split := hsplit, request := by simp [Entry.onto], intent := by simp [Entry.onto]
    pass := by simp [Entry.onto], departure := by simp [Entry.onto], calm := by simp [Entry.onto], purpose := ?_ }
  rintro ps ⟨⟩ -
  refine ⟨hc, ?_⟩
  cases hpu : e.purpose <;> simp only [hpu] at hp ⊢
  case split => exact ⟨hp.1, hp.2.1⟩
  all_goals exact hp

/-- A departure that leaves an unfinished entry unfinished (R10, R22, R24). -/
theorem Entry.Law.departing (h : e.Law) (hs : e.state = .onDeck) (hf : e.finished = false) {d : Departure}
    : ({ e with departure := some d } : Entry).Law := by
  refine { h with departure := fun _ => hs, weighings := ?_ }
  rcases h.weighings with hw | hw | ⟨hw, hlen⟩
  · exact .inl hw
  · exact .inr (.inl hw)
  · exact .inr (.inr ⟨.inl (by simpa [hf] using hw), hlen⟩)

/-- An entry on a deck that is cancelled (R20). -/
theorem Entry.Law.cancelled (h : e.Law) (hs : e.state = .onDeck) :
    ({ e with departure := some .discharged, closurePending := false, blocked := none
              cancelling := false } : Entry).Law := by
  refine { h with
    departure := fun _ => hs, blocked := by simp, calm := fun _ => rfl, pending := by simp, weighings := ?_
    purpose := fun ps hps hd => ⟨rfl, (h.purpose ps hps hd).2⟩ }
  rcases h.weighings with hw | hw | ⟨-, hlen⟩
  · exact .inl hw
  · exact .inr (.inl hw)
  · exact .inr (.inr ⟨.inr rfl, hlen⟩)

/-- A failed pass stays undecided, with its reason (R10). -/
theorem Entry.Law.failed (h : e.Law) {ps : Pass} (hp : e.pass = some ps) (hd : ps.status ≠ .done) (reason : FailReason) :
    ({ e with pass := some { ps with status := .failed reason } } : Entry).Law := by
  have hs := h.onDeck_of_pass hp
  have hr := h.intent_none (by simp [hs])
  have hn : ({ e with pass := some { ps with status := .failed reason } } : Entry).nextMaterial = e.nextMaterial := by
    rw [Entry.nextMaterial_of_pass hr hp hd]
    exact Entry.nextMaterial_of_pass (ps := { ps with status := .failed reason }) hr rfl (by simp)
  obtain ⟨hl, hmat⟩ := h.materialsOk.of_eq (x := { e with pass := some { ps with status := .failed reason } }) rfl hn
  refine { h with
    lines := hl, materials := hmat, split := fun hm => hn.trans (h.split hm), pass := by simp [hs], purpose := ?_ }
  rintro _ ⟨⟩ -
  exact h.purpose ps hp hd

/-! ### Weighings and closure -/

/-- An entry that holds every weighing that its closure needs, with its pass, if any, DONE. -/
structure Entry.Weighed (e : Entry) : Prop where
  departure : e.departure = none
  lawful : ∀ r, ({ e with closurePending := true, blocked := some r } : Entry).Law

/-- The closure of an entry on a deck (R12). -/
theorem Entry.Weighed.closed (h : e.Weighed) (hp : e.pass.isSome = true) (n : Nat) :
    ({ e with closurePending := false, blocked := none, departure := some (.closed n) } : Entry).Law := by
  have hl := h.lawful .held
  have hs : e.state = .onDeck := hl.pass.mp hp
  refine { hl with
    departure := fun _ => hs, blocked := by simp, calm := fun _ => rfl, pending := by simp, weighings := ?_
    purpose := fun ps hps hd => absurd (hl.purpose ps hps hd).1 (by simp) }
  exact .inr (.inr ⟨.inr rfl, hl.pending rfl⟩)

theorem Entry.Law.weighed_of_pending (h : e.Law) (hc : e.closurePending = true) (hd : e.departure = none) :
    e.Weighed :=
  ⟨hd, fun r => { h with
    blocked := by simp
    calm := fun hs => absurd (h.calm hs) (by simp [hc])
    weighings := by
      rcases h.weighings with hw | hw | ⟨-, hlen⟩
      · exact .inl hw
      · exact .inr (.inl hw)
      · exact .inr (.inr ⟨.inl rfl, hlen⟩)
    pending := fun _ => h.pending hc
    purpose := fun ps hps hd => absurd (h.purpose ps hps hd).1 (by simp [hc]) }⟩

/-- A recapture replaces the last weighing of a pending closure (R10). -/
theorem Entry.Law.reweighed (h : e.Law) (hc : e.closurePending = true) (hd : e.departure = none) (w : Weighing) :
    ({ e with weighings := e.weighings.dropLast ++ [w] } : Entry).Weighed := by
  have hfull := h.pending hc
  have hpos : 1 ≤ e.weighings.length := by rw [hfull]; split <;> omega
  have hlen : (e.weighings.dropLast ++ [w]).length = e.weighings.length := by simp; omega
  have hne : e.weighings.dropLast ++ [w] ≠ [] := by simp
  refine Entry.Law.weighed_of_pending { h with
    weighings := .inr (.inr ⟨.inl hc, hlen.trans hfull⟩)
    unweighed := fun _ hnil => absurd hnil hne
    pending := fun _ => hlen.trans hfull
    purpose := fun ps hps hd => absurd (h.purpose ps hps hd).1 (by simp [hc]) } hc hd

end

/-- An entry whose pass a capture has just decided (R10). -/
def Entry.captured (e : Entry) (ps : Pass) (w : Weighing) : Entry :=
  { e with weighings := e.weighings ++ [w], pass := some { ps with status := .done } }

section
variable {e : Entry} {ps : Pass} (w : Weighing)

/-- What a capture makes of an entry, whatever its purpose then does with the flags `b`, `c`, the lines `ls` and the
departure `d`: lawful, as long as the counts of weighings and lines are. -/
theorem Entry.Law.captured (h : e.Law) (hp : e.pass = some ps) {b : Bool}
    {c : Option BlockReason} {ls : List Nat} {d : Option Departure}
    (hb : c.isSome = true ↔ b = true)
    (hls : ls = e.lines ∨ ∃ m, e.nextMaterial = some m ∧ ls = e.lines ++ [m])
    (hw : (e.mode = .twoPass ∧ e.weighings.length + 1 = ls.length ∧ b = false) ∨
      ((b = true ∨ d = some .discharged) ∧ e.weighings.length + 1 = if e.mode = .twoPass then ls.length + 1 else 1)) :
    ({ e.captured ps w with closurePending := b, blocked := c, lines := ls, departure := d } : Entry).Law := by
  have hs := h.onDeck_of_pass hp
  have hr := h.intent_none (by simp [hs])
  have hn : ({ e.captured ps w with closurePending := b, blocked := c, lines := ls, departure := d } :
      Entry).nextMaterial = none := Entry.nextMaterial_of_done hr rfl rfl
  have hmat : ({ e.captured ps w with closurePending := b, blocked := c, lines := ls, departure := d } :
      Entry).MaterialsOk := by
    rcases hls with rfl | ⟨m, hm, rfl⟩
    · exact h.materialsOk.of_none rfl hn
    · exact h.materialsOk.append hm rfl hn
  have hlen : (e.captured ps w).weighings.length = e.weighings.length + 1 := by simp [Entry.captured]
  have hne : (e.captured ps w).weighings ≠ [] := by simp [Entry.captured]
  refine { h with
    lines := hmat.1, materials := hmat.2, blocked := hb, pass := by simp [Entry.captured, hs]
    departure := fun _ => hs, split := fun _ => hn
    calm := by rintro (hx | hx) <;> simp [Entry.captured, hs] at hx
    weighings := .inr ?_, unweighed := fun _ hnil => absurd hnil hne, pending := ?_, purpose := ?_ }
  · rcases hw with ⟨hm, hw, -⟩ | ⟨hw, hfull⟩
    · exact .inl ⟨hm, hlen.trans hw⟩
    · refine .inr ⟨hw.imp id ?_, hlen.trans hfull⟩
      rintro rfl; rfl
  · intro hbt
    rcases hw with ⟨-, -, hw⟩ | ⟨-, hfull⟩
    · exact absurd hbt (by simp [hw])
    · exact hlen.trans hfull
  · rintro _ ⟨⟩ hdone
    exact absurd rfl hdone

end
end Sys2Proof.Machine
end

section
/-! SUPPORT. Closure and its retries at the records (R12 to R14), and the record requests and reports that rewrite one entry
or remove it (R8 to R11, R16 to R24). -/

namespace Sys2Proof.Machine

/-! ### Closure at the records -/

/-- What the attempt to close an entry makes of the records (R12, R13). -/
def Records.attempted (r : Records) (e : Entry) : Records :=
  match r.closureBlock e with
  | some b => r.edit e.number fun x => { x with closurePending := true, blocked := some b }
  | none =>
    match e.passDeck with
    | some _ =>
        (r.issued e.content).edit e.number fun x =>
          { x with closurePending := false, blocked := none, departure := some (.closed r.nextTicket) }
    | none => (r.issued e.content).drop e.number

@[simp] theorem State.recs_attemptClosure (s : State) (e : Entry) :
    (s.attemptClosure e).recs = s.recs.attempted e := by
  unfold State.attemptClosure Records.attempted
  cases s.recs.closureBlock e with
  | some b => simp
  | none => cases e.passDeck <;> simp

@[simp] theorem State.recs_retry (s : State) :
    s.retry.recs = (s.recs.entries.filter Entry.retried).foldl Records.attempted s.recs := by
  suffices h : ∀ (es : List Entry) (t : State),
      (es.foldl (fun t e => t.attemptClosure e) t).recs = es.foldl Records.attempted t.recs from h _ s
  intro es
  induction es with
  | nil => exact fun _ => rfl
  | cons e es ih => exact fun t => by rw [List.foldl_cons, ih, State.recs_attemptClosure, List.foldl_cons]

/-- Two rewritings of one entry are one. -/
theorem Records.edit_edit (r : Records) (n : Nat) (f g : Entry → Entry) (hf : ∀ e, e.number = n → (f e).number = n) :
    (r.edit n f).edit n g = r.edit n fun e => g (f e) := by
  simp only [Records.edit, List.map_map]
  congr 2
  funext e
  by_cases he : e.number = n <;> simp [he, hf]

theorem Records.drop_edit (r : Records) (n : Nat) (f : Entry → Entry) (hf : ∀ e, e.number = n → (f e).number = n) :
    (r.edit n f).drop n = r.drop n := by
  simp only [Records.edit, Records.drop, Records.mk.injEq, and_true]
  induction r.entries with
  | nil => rfl
  | cons e es ih => by_cases he : e.number = n <;> simp [he, hf, ih]

theorem Records.Law.edit_self {r : Records} (h : r.Law) {n : Nat} {e : Entry} (hf : r.find n = some e) :
    (r.edit n fun _ => e) = r := by
  have hm : (r.entries.map fun x => if x.number = n then e else x) = r.entries.map id := by
    refine List.map_congr_left fun x hx => ?_
    split
    · next hn => exact (h.eq_of_find hf hx hn).symm
    · rfl
  rw [Records.edit, hm, List.map_id]

/-- An attempt touches the entry of its own number alone. -/
theorem Records.find_attempted_ne (r : Records) (e : Entry) {k : Nat} (hk : k ≠ e.number) :
    (r.attempted e).find k = r.find k := by
  unfold Records.attempted
  cases r.closureBlock e with
  | some b => exact r.find_edit_ne _ hk fun _ => id
  | none =>
    cases e.passDeck with
    | some d => exact (r.issued e.content).find_edit_ne _ hk fun _ => id
    | none => exact (r.issued e.content).find_drop_ne hk

theorem Records.keeps_issued (r : Records) (t : Ticket) : r.Keeps (r.issued t) := .of_entries rfl fun h => h.issued t

/-- The attempt to close an entry that has just been rewritten, weighed as its closure needs. -/
theorem Records.keeps_edit_attempted {r : Records} {n : Nat} {e e' : Entry} (hf : r.find n = some e)
    (hn : e'.number = e.number) (hp : e'.plate = e.plate) (hw : e.Law → e'.Weighed) :
    r.Keeps ((r.edit n fun _ => e').attempted e') := by
  have hnum : e'.number = n := hn.trans (number_of_find hf)
  unfold Records.attempted
  cases (r.edit n fun _ => e').closureBlock e' with
  | some b =>
    dsimp only
    rw [hnum, Records.edit_edit _ _ _ _ fun _ _ => hnum]
    exact keeps_edit hf hn hp fun h => (hw h).lawful b
  | none =>
    cases hd : e'.passDeck with
    | some d =>
      have hpass : e'.pass.isSome = true := by
        rw [Entry.passDeck] at hd
        obtain ⟨ps, hps, -⟩ := Option.map_eq_some_iff.mp hd
        simp [hps]
      have hr : ∀ g, ((r.edit n fun _ => e').issued e'.content).edit n g = (r.edit n fun _ => g e').issued e'.content := by
        intro g
        rw [← Records.edit_edit r n (fun _ => e') g fun _ _ => hnum]
        rfl
      rw [hnum, hr]
      exact (keeps_edit hf hn hp fun h => (hw h).closed hpass _).trans (keeps_issued _ _)
    | none =>
      have hr : ((r.edit n fun _ => e').issued e'.content).drop n = (r.drop n).issued e'.content := by
        rw [← Records.drop_edit r n (fun _ => e') fun _ _ => hnum]
        rfl
      rw [hnum, hr]
      exact (keeps_drop r n).trans (keeps_issued _ _)

theorem Records.keeps_attempted {r : Records} {e : Entry} (hf : r.find e.number = some e) (hw : e.Law → e.Weighed) :
    r.Keeps (r.attempted e) := fun h => by
  have hk := keeps_edit_attempted hf rfl rfl hw
  rw [h.edit_self hf] at hk
  exact hk h

/-- The attempts of a retry event, each on an entry that stands in the table with its closure pending (R14). -/
theorem Records.keeps_attempts (es : List Entry) (r : Records) (hn : (es.map Entry.number).Nodup)
    (hf : ∀ e ∈ es, r.find e.number = some e) (hw : ∀ e ∈ es, e.Law → e.Weighed) :
    r.Keeps (es.foldl Records.attempted r) := by
  induction es generalizing r with
  | nil => exact Keeps.refl r
  | cons e es ih =>
    rw [List.map_cons, List.nodup_cons] at hn
    refine (keeps_attempted (hf e (by simp)) (hw e (by simp))).trans (ih _ hn.2 (fun x hx => ?_) fun x hx => hw x (by simp [hx]))
    have hne : x.number ≠ e.number := fun heq => hn.1 (heq ▸ List.mem_map_of_mem hx)
    rw [Records.find_attempted_ne _ _ hne]
    exact hf x (by simp [hx])

theorem Entry.retried_iff {e : Entry} : e.retried = true ↔
    e.closurePending = true ∧ (e.state = .inYard ∨ e.state = .onDeck ∧ e.departure = none) := by
  simp [Entry.retried]

theorem Entry.Law.weighed_of_retried {e : Entry} (h : e.Law) (hr : e.retried = true) : e.Weighed := by
  obtain ⟨hc, hs⟩ := Entry.retried_iff.mp hr
  refine h.weighed_of_pending hc ?_
  rcases hs with hs | ⟨-, hd⟩
  · exact h.departure_none (by simp [hs])
  · exact hd

theorem State.keeps_retry (s : State) : s.recs.Keeps s.retry.recs := fun h => by
  rw [State.recs_retry]
  refine Records.keeps_attempts _ _ (h.numbers.sublist (List.filter_sublist.map _)) (fun e he => ?_) (fun e he hl => ?_) h
  · exact h.find_of_mem (List.mem_of_mem_filter he)
  · exact hl.weighed_of_retried (List.of_mem_filter he)

theorem State.keeps_then_retry {r : Records} {s : State} (h : r.Keeps s.recs) : r.Keeps s.retry.recs :=
  h.trans s.keeps_retry

/-! ### The requests and reports of the yard table -/

/-- A record request changes the records only by what it does to an unfinished entry (R16). -/
theorem keeps_onEntry (n : Nat) (f : Entry → State → State × Reply) (role : Role) (s : State)
    (hf : ∀ e, s.recs.find n = some e → e.finished = false → s.recs.Keeps (f e s).1.recs) :
    s.recs.Keeps (onEntry n f role s).1.recs := by
  unfold onEntry
  cases he : s.recs.find n with
  | none => exact .refl _
  | some e =>
    cases hfin : e.finished with
    | true => simp [hfin, Records.Keeps.refl]
    | false => simpa [hfin] using hf e he hfin

theorem keeps_serveHold (q : Sender) (n reason : Nat) (role : Role) (s : State) :
    s.recs.Keeps (serveHold q n reason role s).1.recs := by
  refine keeps_onEntry n _ role s fun e he _ => ?_
  by_cases hr : holdReasonOk reason = true
  · simp only [hr, if_true, State.recs_modEntry]
    refine Records.keeps_edit he rfl rfl fun h => h.withHold _ ?_
    rintro x ⟨⟩
    simpa [holdReasonOk] using hr
  · simp [hr, Records.Keeps.refl]

theorem keeps_serveReleaseHold (n : Nat) (role : Role) (s : State) :
    s.recs.Keeps (serveReleaseHold n role s).1.recs := by
  refine keeps_onEntry n _ role s fun e he _ => ?_
  by_cases hr : e.hold.isNone = true
  · simp [hr, Records.Keeps.refl]
  · simp only [hr, Bool.false_eq_true, if_false]
    exact State.keeps_then_retry (Records.keeps_edit he rfl rfl fun h => h.withHold none (by simp))

theorem Entry.amendLine_number (e : Entry) (i m : Nat) : (e.amendLine i m).number = e.number := by
  unfold Entry.amendLine; split <;> rfl
theorem Entry.amendLine_plate (e : Entry) (i m : Nat) : (e.amendLine i m).plate = e.plate := by
  unfold Entry.amendLine; split <;> rfl

theorem Entry.splitting_iff (e : Entry) :
    e.splitting = true ↔ ∃ k o, e.recallIntent = some { intent := .split k, origin := o } := by
  unfold Entry.splitting
  split <;> simp_all

theorem Entry.lineOk_iff (e : Entry) (i : Nat) : e.lineOk i = true ↔
    1 ≤ i ∧ i ≤ e.lines.length ∨ e.state = .recalled ∧ i = e.lines.length + 1 ∧
      ∃ k o, e.recallIntent = some { intent := .split k, origin := o } := by
  rw [← Entry.splitting_iff]
  simp only [Entry.lineOk, Bool.and_eq_true, Bool.or_eq_true, decide_eq_true_eq, beq_iff_eq]
  constructor
  · rintro ⟨h1, h | ⟨⟨hs, hr⟩, hi⟩⟩
    · exact .inl ⟨h1, h⟩
    · exact .inr ⟨hs, hi, hr⟩
  · rintro (⟨h1, h⟩ | ⟨hs, hi, hr⟩)
    · exact ⟨h1, .inl h⟩
    · exact ⟨by omega, .inr ⟨⟨hs, hr⟩, hi⟩⟩

theorem Entry.amendLine_of_le (e : Entry) {i : Nat} (m : Nat) (hi : i ≤ e.lines.length) :
    e.amendLine i m = { e with lines := e.lines.set (i - 1) m } := by simp [Entry.amendLine, hi]

theorem Entry.amendLine_next (e : Entry) (m : Nat) {k : Nat} {o : Origin}
    (hr : e.recallIntent = some { intent := .split k, origin := o }) :
    e.amendLine (e.lines.length + 1) m = { e with recallIntent := some { intent := .split m, origin := o } } := by
  simp [Entry.amendLine, hr]

/-- The materials that an AMEND may name (R19). -/
theorem Entry.Law.amendLine {e : Entry} (h : e.Law) {i m : Nat} (hi : e.lineOk i = true) (hm : 1 ≤ m ∧ m ≤ 9999) :
    (e.amendLine i m).Law := by
  rcases (e.lineOk_iff i).mp hi with ⟨-, hle⟩ | ⟨-, rfl, k, o, hr⟩
  · exact e.amendLine_of_le m hle ▸ h.withLine _ hm
  · exact e.amendLine_next m hr ▸ h.withNextMaterial hr hm

/-- What an AMEND makes of an entry (R19). -/
def Entry.amended (account : Option Nat) (line : Option (Nat × Nat)) (e : Entry) : Entry :=
  let y := { e with account := account.getD e.account }
  match line with
  | some p => y.amendLine p.1 p.2
  | none => y

theorem materialOk_iff {m : Nat} : materialOk m = true ↔ 1 ≤ m ∧ m ≤ 9999 := by
  simp only [materialOk, Bool.and_eq_true, decide_eq_true_eq]; rfl

theorem accountOk_iff {a : Nat} : accountOk a = true ↔ a ≤ 999999 := decide_eq_true_iff

theorem Entry.Law.amended {e : Entry} (h : e.Law) {account : Option Nat} {line : Option (Nat × Nat)}
    (ha : account.all accountOk = true) (hm : line.all (fun p => materialOk p.2) = true)
    (hl : line.all (fun p => e.lineOk p.1) = true) : (e.amended account line).Law := by
  have hacc : account.getD e.account ≤ 999999 := by
    cases account with
    | none => exact h.account
    | some a => exact accountOk_iff.mp (by simpa using ha)
  have hy := h.withAccount hacc
  cases line with
  | none => exact hy
  | some p =>
    have hl : e.lineOk p.1 = true := by simpa using hl
    exact hy.amendLine (i := p.1) hl (materialOk_iff.mp (by simpa using hm))

theorem keeps_serveAmend (n : Nat) (account : Option Nat) (line : Option (Nat × Nat)) (role : Role) (s : State) :
    s.recs.Keeps (serveAmend n account line role s).1.recs := by
  refine keeps_onEntry n _ role s fun e he _ => ?_
  dsimp only
  split
  · exact .refl _
  split
  · exact .refl _
  · next hok =>
    simp only [Bool.or_eq_true, not_or, Bool.not_eq_true', Bool.not_eq_false] at hok
    obtain ⟨⟨⟨-, ha⟩, hm⟩, hl⟩ := hok
    refine Records.keeps_edit (f := Entry.amended account line) he ?_ ?_ fun h => h.amended ha hm hl
    · cases line
      · rfl
      · exact Entry.amendLine_number ..
    · cases line
      · rfl
      · exact Entry.amendLine_plate ..

@[simp] theorem State.recs_cancelOnDeck (s : State) (e : Entry) :
    (s.cancelOnDeck e).recs = s.recs.edit e.number fun x =>
      { x with departure := some .discharged, closurePending := false, blocked := none, cancelling := false } := by
  unfold State.cancelOnDeck
  cases e.pass <;> simp

theorem keeps_serveCancel (n : Nat) (role : Role) (s : State) : s.recs.Keeps (serveCancel n role s).1.recs := by
  refine keeps_onEntry n _ role s fun e he _ => ?_
  have hwait : s.recs.Keeps (if e.cancelling then (s, Reply.only .wrongState)
      else
        let s := s.modEntry n fun e => { e with cancelling := true }
        match e.request with
        | some r => (s.raise [.cancelOrder r.lane n], .ok)
        | none => (s, .ok)).1.recs := by
    split
    · exact .refl _
    · cases e.request <;> exact Records.keeps_edit he rfl rfl fun h => h.withCancelling true
  cases hs : e.state with
  | inYard => exact Records.keeps_drop _ n
  | quarantine => exact Records.keeps_drop _ n
  | onDeck =>
    simp only [State.recs_cancelOnDeck, Records.number_of_find he]
    exact Records.keeps_edit he rfl rfl fun h => h.cancelled hs
  | admitted => exact hwait
  | recalled => exact hwait

theorem keeps_serveQuarantine (n : Nat) (role : Role) (s : State) :
    s.recs.Keeps (serveQuarantine n role s).1.recs := by
  refine keeps_onEntry n _ role s fun e he hfin => ?_
  dsimp only
  split
  · exact .refl _
  next hs =>
  have hs : e.state = .onDeck := by simpa using hs
  split
  · exact .refl _
  split
  · exact .refl _
  · have hk := Records.keeps_edit (f := fun e => { e with departure := some .toQuarantine }) he rfl rfl fun h =>
      h.departing hs hfin
    split <;> simpa using hk

theorem keeps_serveClose (n : Nat) (role : Role) (s : State) : s.recs.Keeps (serveClose n role s).1.recs := by
  refine keeps_onEntry n _ role s fun e _ _ => ?_
  split
  · exact .refl _
  split
  · exact .refl _
  cases s.recs.closureBlock e with
  | some b => exact .refl _
  | none =>
    simp only [State.recs_dropEntry, State.recs_issue]
    exact (Records.keeps_issued _ _).trans (Records.keeps_drop _ n)

theorem keeps_serveForceExit (n : Nat) (role : Role) (s : State) :
    s.recs.Keeps (serveForceExit n role s).1.recs := by
  refine keeps_onEntry n _ role s fun e he hfin => ?_
  dsimp only
  split
  · exact .refl _
  next hs =>
  simp only [ne_eq, not_or, Decidable.not_not] at hs
  split
  · exact .refl _
  · have hk := Records.keeps_edit
      (f := fun e => { e with departure := some (if e.weighings.isEmpty then .discharged else .toYard) }) he rfl rfl
      fun h => h.departing hs.1 hfin
    split <;> simpa using hk

theorem State.keeps_withdrawalReport (s : State) (n : Nat) : s.recs.Keeps (s.withdrawalReport n).recs := by
  unfold State.withdrawalReport
  cases he : s.recs.find n with
  | none => exact .refl _
  | some e =>
    dsimp only
    cases hs : e.state with
    | admitted => exact Records.keeps_drop _ n
    | recalled =>
      dsimp only
      split
      · exact Records.keeps_drop _ n
      · refine Records.keeps_edit he rfl rfl fun h => ?_
        have hd := h.departure_none (by simp [hs])
        have hp := h.pass_none (by simp [hs])
        have hst : ∀ o : Option Recall, (o.map fun r => r.origin.state).getD .inYard = .inYard ∨
            (o.map fun r => r.origin.state).getD .inYard = .quarantine := by
          rintro (_ | ⟨i, _ | _⟩) <;> simp [Origin.state]
        have hk := h.parked (Entry.finished_of_departure_none hd) (hst e.recallIntent) e.interrupted
        rw [← hd, ← hp] at hk
        exact hk
    | onDeck => exact .refl _
    | inYard => exact .refl _
    | quarantine => exact .refl _

theorem State.keeps_entryPassageReport (s : State) (d : Deck) (n : Nat) :
    s.recs.Keeps (s.entryPassageReport d n).recs := by
  unfold State.entryPassageReport
  cases he : s.recs.find n with
  | none => simp [Records.Keeps.refl]
  | some e =>
    dsimp only
    split
    next hs =>
      have hnum := Records.number_of_find he
      split
      · rw [State.recs_cancelOnDeck, State.recs_modEntry, show (e.onto d).number = n from hnum,
          Records.edit_edit _ _ (fun x => x.onto d) _ fun _ => id]
        exact Records.keeps_edit he rfl rfl fun h => (h.onto hs d).cancelled rfl
      · exact Records.keeps_edit he rfl rfl fun h => h.onto hs d
    · simp [Records.Keeps.refl]

/-- A TARE_ONLY completion writes at most one tare, and nothing else of the records (R34). -/
theorem State.recs_tareCompletion (s : State) (e : Entry) (r : CaptureResult) :
    ∃ ts, (s.tareCompletion e r).recs = { s.recs with tares := ts } ∧ (StoreOk s.recs.tares → StoreOk ts) := by
  unfold State.tareCompletion
  split
  · exact ⟨s.recs.tares, by simp, id⟩
  · split
    · exact ⟨s.recs.tares, by simp, id⟩
    · dsimp only
      split
      · exact ⟨s.recs.tares, by simp, id⟩
      · next w hw => exact ⟨w.tares, by simp, fun h => Records.storeOk_tareWrite h hw⟩

theorem State.keeps_captureFailure (s : State) (n : Nat) (reason : FailReason) :
    s.recs.Keeps (s.captureFailure n reason).recs := by
  unfold State.captureFailure
  cases he : s.recs.find n with
  | none => rw [State.recs_modEntry, Records.edit_of_find_none he]; exact .refl _
  | some e =>
    have hf : ∀ x : Entry, (if x.failable then { x with pass := x.pass.map fun p => { p with status := .failed reason } }
        else x).number = x.number ∧ (if x.failable then { x with pass := x.pass.map fun p =>
          { p with status := .failed reason } } else x).plate = x.plate := by
      intro x; split <;> exact ⟨rfl, rfl⟩
    refine Records.keeps_edit he (hf e).1 (hf e).2 fun h => ?_
    split
    · next hfail =>
      cases hp : e.pass with
      | none => simp [Entry.failable, hp] at hfail
      | some ps =>
        have hd : (e.state = .onDeck ∧ e.departure = none) ∧ ps.status ≠ .done := by
          simpa [Entry.failable, hp] using hfail
        exact h.failed hp hd.2 reason
    · exact h

theorem State.keeps_exitPassageReport (s : State) (n : Nat) : s.recs.Keeps (s.exitPassageReport n).recs := by
  unfold State.exitPassageReport
  cases he : s.recs.find n with
  | none => exact .refl _
  | some e =>
    have park : ∀ (d : Departure) (st : EntryState), e.departure = some d → d = .toYard ∨ d = .toQuarantine →
        st = .inYard ∨ st = .quarantine →
        s.recs.Keeps (s.recs.edit n fun e => { e with state := st, pass := none, departure := none }) := by
      intro d st hd hdd hst
      refine Records.keeps_edit he rfl rfl fun h => ?_
      have hs := h.departure (by simp [hd])
      have hk := h.parked (by rcases hdd with rfl | rfl <;> simp [Entry.finished, hd]) hst e.interrupted
      rw [← h.request_none (by simp [hs]) (by simp [hs]), ← h.intent_none (by simp [hs])] at hk
      exact hk
    rw [Option.bind_some]
    cases hd : e.departure with
    | none => exact .refl _
    | some d =>
      cases d with
      | toYard => exact park _ _ hd (.inl rfl) (.inl rfl)
      | toQuarantine => exact park _ _ hd (.inr rfl) (.inr rfl)
      | closed t => exact Records.keeps_drop _ n
      | discharged => exact Records.keeps_drop _ n

end Sys2Proof.Machine
end

section
/-! SUPPORT. Capture completions (R10), admission and recall (R5 to R7), and the requests of the tares, the clock and the
ticket log at the records. -/

namespace Sys2Proof.Machine

/-- The records take a capture completion whose weighing decides a pass (R10). -/
theorem State.keeps_afterWeighing (s : State) (r : CaptureResult) {e : Entry} {p : Pass}
    (he : s.recs.find e.number = some e) (hp : e.pass = some p) (hd : e.departure = none) (hst : p.status ≠ .done) :
    s.recs.Keeps ((s.modEntry e.number fun _ => e.captured p (s.weighing r)).afterWeighing
      (e.captured p (s.weighing r)) r p.purpose).recs := by
  have hnum : (e.captured p (s.weighing r)).number = e.number := rfl
  have hr : ∀ h : e.Law, e.recallIntent = none := fun h => h.intent_none (by simp [h.onDeck_of_pass hp])
  -- a closing purpose: the weighing is the last that the closure needs
  have closing : (e.Law → e.weighings.length + 1 = if e.mode = .twoPass then e.lines.length + 1 else 1) →
      s.recs.Keeps ((s.modEntry e.number fun _ => e.captured p (s.weighing r)).attemptClosure
        (e.captured p (s.weighing r))).recs := by
    intro hfull
    rw [State.recs_attemptClosure, State.recs_modEntry]
    refine Records.keeps_edit_attempted he rfl rfl fun h => ⟨hd, fun b => ?_⟩
    exact h.captured (s.weighing r) hp (by simp) (.inl rfl) (.inr ⟨.inl rfl, hfull h⟩)
  unfold State.afterWeighing
  cases hpu : p.purpose with
  | first =>
    simp only [State.recs_giveRelease, State.recs_modEntry, hnum]
    rw [Records.edit_edit _ _ _ _ fun _ _ => hnum]
    refine Records.keeps_edit he rfl rfl fun h => ?_
    have hx := (h.purpose p hp hst).2
    simp only [hpu] at hx
    exact h.captured (s.weighing r) hp h.blocked (.inl rfl)
      (.inl ⟨hx.1, by rw [hx.2]; exact (h.unweighed hx.1 hx.2).symm, (h.purpose p hp hst).1⟩)
  | split m =>
    simp only [State.recs_giveRelease, State.recs_modEntry, hnum]
    rw [Records.edit_edit _ _ _ _ fun _ _ => hnum]
    refine Records.keeps_edit he rfl rfl fun h => ?_
    have hx := (h.purpose p hp hst).2
    simp only [hpu] at hx
    have hm : e.nextMaterial = some m := by rw [Entry.nextMaterial_of_pass (hr h) hp hst, hpu]
    exact h.captured (s.weighing r) hp h.blocked (.inr ⟨m, hm, rfl⟩)
      (.inl ⟨hx.1, by rw [hx.2]; simp [Entry.captured], (h.purpose p hp hst).1⟩)
  | final =>
    refine closing fun h => ?_
    have hx := (h.purpose p hp hst).2
    simp only [hpu] at hx
    simp [hx.1, hx.2]
  | gross =>
    refine closing fun h => ?_
    have hx := (h.purpose p hp hst).2
    simp only [hpu] at hx
    simp [hx.1, hx.2]
  | tare =>
    obtain ⟨ts, hts, hok⟩ := State.recs_tareCompletion (s.modEntry e.number fun _ => e.captured p (s.weighing r))
      (e.captured p (s.weighing r)) r
    simp only [State.recs_giveRelease, State.recs_modEntry, hnum, hts]
    have hk : s.recs.Keeps ((s.recs.edit e.number fun _ => e.captured p (s.weighing r)).edit e.number fun x =>
        { x with departure := some .discharged }) := by
      rw [Records.edit_edit _ _ _ _ fun _ _ => hnum]
      refine Records.keeps_edit he rfl rfl fun h => ?_
      have hx := (h.purpose p hp hst).2
      simp only [hpu] at hx
      exact h.captured (s.weighing r) hp h.blocked (.inl rfl) (.inr ⟨.inr rfl, by simp [hx.1, hx.2]⟩)
    exact fun hl => hk.trans (.of_entries rfl fun h => h.withTares (hok hl.storeOk)) hl

/-- The records take a capture completion (R10). -/
theorem State.keeps_captureCompletion (s : State) (r : CaptureResult) : s.recs.Keeps (s.captureCompletion r).recs := by
  unfold State.captureCompletion
  cases he : s.recs.find r.number with
  | none => exact .refl _
  | some e =>
    dsimp only
    split
    · exact .refl _
    · next p hp =>
      split
      · exact .refl _
      next hgo =>
      simp only [ne_eq, not_or, Decidable.not_not, Bool.not_eq_true, Option.isSome_eq_false_iff, Option.isNone_iff_eq_none]
        at hgo
      obtain ⟨-, -, hd⟩ := hgo
      have he : s.recs.find e.number = some e := by rw [Records.number_of_find he]; exact he
      split
      · split
        · next hc =>
          rw [State.recs_attemptClosure, State.recs_modEntry]
          exact Records.keeps_edit_attempted he rfl rfl fun h => h.reweighed hc hd (s.weighing r)
        · exact .refl _
      · next hst => exact s.keeps_afterWeighing r he hp hd hst

/-! ### Admission and recall -/

theorem Records.findPlate_none {r : Records} {p : Plate} (h : r.findPlate p = none) : ∀ e ∈ r.entries, e.plate ≠ p :=
  fun e he => by simpa using List.find?_eq_none.mp h e he

/-- The entry that holds a plate is the entry of its number (R1). -/
theorem Records.Law.find_of_findPlate {r : Records} (h : r.Law) {p : Plate} {e : Entry} (hf : r.findPlate p = some e) :
    r.find e.number = some e := h.find_of_mem (List.mem_of_find?_eq_some hf)

theorem admittedEntry_law (r : Records) (l : Lane) (p : Plate) (tag : Option Nat) (m : Mode)
    (account material priority : Nat) (now : DateTime) (hp : plateOk p = true) (ha : account ≤ 999999)
    (hm : 1 ≤ material ∧ material ≤ 9999) (ht : m = .storedTare → (r.tareOf p).isSome = true) :
    (admittedEntry r l p tag m account material priority now).Law := by
  have hn : (admittedEntry r l p tag m account material priority now).nextMaterial = none := rfl
  constructor
  case number => exact allocate_range _ _ _
  case plate => exact hp
  case account => exact ha
  case lines => rw [hn]; simp [admittedEntry]
  case materials => rw [hn]; simpa [admittedEntry] using hm
  case split => exact fun _ => hn
  case snapshot =>
    by_cases hmode : m = .storedTare
    · simpa [admittedEntry, hmode] using ht hmode
    · simp [admittedEntry, hmode]
  all_goals simp [admittedEntry]

/-- An admission that no test refuses finds room in the table, and in STORED_TARE a tare (R6). -/
theorem State.admissionRefusal_none {s : State} {l : Lane} {p : Plate} {m : Mode}
    (h : s.admissionRefusal l p m = none) :
    s.recs.entries.length < 96 ∧ (m = .storedTare → (s.recs.tareOf p).isSome = true) := by
  unfold State.admissionRefusal at h
  split at h; · cases h
  split at h; · cases h
  split at h; · cases h
  split at h; · cases h
  next hroom =>
  split at h; · cases h
  split at h; · cases h
  next htare =>
  refine ⟨Nat.lt_of_not_le hroom, fun hm => ?_⟩
  cases ht : s.recs.tareOf p with
  | none => exact absurd ⟨hm, by simp [ht]⟩ htare
  | some t => rfl

theorem State.keeps_admission (s : State) (l : Lane) (p : Plate) (tag : Option Nat) (m : Mode)
    (account material priority : Nat) (clamped : Bool) (hp : plateOk p = true) (ha : account ≤ 999999)
    (hm : 1 ≤ material ∧ material ≤ 9999) (hnew : ∀ e ∈ s.recs.entries, e.plate ≠ p) :
    s.recs.Keeps (s.admission l p tag m account material priority clamped).1.recs := by
  unfold State.admission
  cases hr : s.admissionRefusal l p m with
  | some code => exact .refl _
  | none =>
    dsimp only
    cases hclock : s.recs.clock with
    | none => exact .refl _
    | some now =>
      simp only [State.recs_raise, State.recs_modRecs_self]
      obtain ⟨hroom, htare⟩ := State.admissionRefusal_none hr
      intro h
      obtain ⟨hfree, -⟩ := allocate_first_unused s.recs.entries s.recs.lastNumber hroom.le
      refine ⟨{ h with
        table := by simpa using hroom
        numbers := ?_
        plates := ?_ }, fun hl e he => ?_⟩
      · rw [List.map_append, List.nodup_append]
        exact ⟨h.numbers, by simp, by simpa [admittedEntry] using hfree⟩
      · rw [List.map_append, List.nodup_append]
        exact ⟨h.plates, by simp, by simpa [admittedEntry] using hnew⟩
      · rcases List.mem_append.mp he with he | he
        · exact hl e he
        · rw [List.mem_singleton.mp he]
          exact admittedEntry_law _ _ _ _ _ _ _ _ _ hp ha hm htare

theorem State.keeps_recallEntry (s : State) (l : Lane) {p : Plate} {e : Entry} (tag : Option Nat) (i : Intent)
    (priority : Nat) (clamped : Bool) (he : s.recs.findPlate p = some e)
    (hi : ∀ m, i = .split m → 1 ≤ m ∧ m ≤ 9999) :
    s.recs.Keeps (s.recallEntry l e tag i priority clamped).1.recs := by
  unfold State.recallEntry
  split
  · exact .refl _
  · exact .refl _
  · next o hr ho =>
    simp only [State.recs_raise, State.recs_modEntry]
    intro h
    refine Records.keeps_edit (h.find_of_findPlate he) rfl rfl (fun hl => ?_) h
    unfold State.recallRefusal at hr
    split at hr; · cases hr
    split at hr; · cases hr
    split at hr; · cases hr
    next hstate =>
    split at hr; · cases hr
    next hmode =>
    split at hr; · cases hr
    split at hr; · cases hr
    next hlines =>
    have hdeck : e.state ≠ .onDeck := fun hs => by simp [hs, recallOrigin] at ho
    have hc : e.closurePending = false := by simpa using fun hc => hstate (.inr hc)
    refine hl.recall hdeck hc _ i o _ fun m hm => ⟨?_, ?_, hi m hm⟩
    · by_contra hne; exact hmode ⟨hne, by simp [hm]⟩
    · by_contra hge; exact hlines ⟨by simp [hm], Nat.le_of_not_lt hge⟩

theorem intentOf_split {material n m : Nat} {i : Intent} (h : intentOf material n = some i) (hi : i = .split m) :
    material = m := by
  subst hi
  match n, h with
  | 1, h => exact Intent.split.inj (Option.some.inj h)

theorem keeps_serveIdentify (q : Sender) (lane : Nat) (plate : List Byte) (tag : Option Nat)
    (mode account material intent priority : Nat) (role : Role) (s : State) :
    s.recs.Keeps (serveIdentify q lane plate tag mode account material intent priority role s).1.recs := by
  unfold serveIdentify
  split
  · exact .refl _
  split
  · split
    · exact .refl _
    · next i hi hok =>
      simp only [Bool.or_eq_true, not_or, Bool.not_eq_true', Bool.not_eq_false] at hok
      obtain ⟨⟨hplate, hacc⟩, hmat⟩ := hok
      have hmat := materialOk_iff.mp hmat
      dsimp only
      split
      · next hnone =>
        exact s.keeps_admission _ _ _ _ _ _ _ _ hplate (accountOk_iff.mp hacc) hmat (Records.findPlate_none hnone)
      · next e he =>
        exact s.keeps_recallEntry _ _ _ _ _ he fun m hm => intentOf_split hi hm ▸ hmat
  · exact .refl _

/-! ### Tares, the clock and the ticket log -/

theorem keeps_serveStoreTare (plate : List Byte) (tag : Option Nat) (weight : Int) (cls validity account : Nat)
    (role : Role) (s : State) : s.recs.Keeps (serveStoreTare plate tag weight cls validity account role s).1.recs := by
  unfold serveStoreTare
  dsimp only
  split
  · exact .refl _
  split
  · exact .refl _
  split
  · exact .refl _
  split
  · exact .refl _
  · next w hw =>
    rw [State.recs_applyTare]
    exact .of_entries rfl fun h => h.withTares (Records.storeOk_tareWrite h.storeOk hw)

theorem keeps_serveDeleteTare (plate : List Byte) (role : Role) (s : State) :
    s.recs.Keeps (serveDeleteTare plate role s).1.recs := by
  unfold serveDeleteTare
  split
  · exact .refl _
  · exact .of_entries rfl fun h => h.withTares (h.storeOk.filter _)

/-- A change of the yard clock alone. -/
theorem Records.keeps_clock (r : Records) (c : Option DateTime) (n : Nat) (b m : Bool) :
    r.Keeps { r with clock := c, subSecond := n, subBackup := b, clockMark := m } :=
  .of_entries rfl fun h => { h with }

theorem Records.keeps_second (r : Records) : r.Keeps r.second := by
  unfold Records.second
  split
  · exact .refl _
  · split
    · exact .refl _
    · exact keeps_clock _ _ _ _ _

theorem Records.keeps_tick (r : Records) (m : TickMark) : r.Keeps (r.tick m) := by
  unfold Records.tick
  split
  · exact .refl _
  · split
    · exact .refl _
    · exact keeps_clock _ _ _ _ _

theorem keeps_serveSetClock (year month day hour minute second : Nat) (role : Role) (s : State) :
    s.recs.Keeps (serveSetClock year month day hour minute second role s).1.recs := by
  unfold serveSetClock
  dsimp only
  split
  · exact .refl _
  · exact State.keeps_then_retry (Records.keeps_clock _ _ _ _ _)

theorem keeps_serveSetTicketBase (n : Nat) (role : Role) (s : State) :
    s.recs.Keeps (serveSetTicketBase n role s).1.recs := by
  unfold serveSetTicketBase
  split
  · exact .refl _
  split
  · exact .refl _
  · refine State.keeps_then_retry (.of_entries rfl fun h => ?_)
    exact { h with log := by simp, oldest := by simp, consecutive := by simp, next := by simp }

theorem keeps_serveVoidTicket (number reason : Nat) (role : Role) (s : State) :
    s.recs.Keeps (serveVoidTicket number reason role s).1.recs := by
  unfold serveVoidTicket
  split
  · exact .refl _
  split
  · exact .refl _
  split
  · exact .refl _
  split
  · exact .refl _
  split
  · exact .refl _
  · rw [State.recs_issue]
    exact .of_entries rfl fun h => (h.markVoided number).issued _

theorem keeps_serveConfirmCollected (n : Nat) (role : Role) (s : State) :
    s.recs.Keeps (serveConfirmCollected n role s).1.recs := by
  unfold serveConfirmCollected
  split
  · exact .refl _
  split
  · exact .refl _
  · exact State.keeps_then_retry (.of_entries rfl fun h => h.collectTo n)

end Sys2Proof.Machine
end

section
/-! SUPPORT. Every command keeps the law of the records and the law of every entry. -/

namespace Sys2Proof.Machine

/-! ### A start of the main domain at the records (R25, R181) -/

theorem Entry.restart_keys {e x : Entry} (h : e.restart = some x) : x.number = e.number ∧ x.plate = e.plate := by
  unfold Entry.restart at h
  dsimp only at h
  repeat' split at h
  all_goals simp only [Option.some.injEq, reduceCtorEq] at h
  all_goals subst h; exact ⟨rfl, rfl⟩

theorem Entry.Law.restart {e x : Entry} (h : e.Law) (hx : e.restart = some x) : x.Law := by
  unfold Entry.restart at hx
  have hst : ∀ o : Option Recall, (o.map fun r => r.origin.state).getD .inYard = .inYard ∨
      (o.map fun r => r.origin.state).getD .inYard = .quarantine := by
    rintro (_ | ⟨i, _ | _⟩) <;> simp [Origin.state]
  -- an entry on a deck or in the yard has neither request nor intent
  have park : ∀ (st : EntryState) (b : Bool), e.state ≠ .admitted → e.state ≠ .recalled → e.finished = false →
      st = .inYard ∨ st = .quarantine →
      ({ e with state := st, interrupted := b, pass := none, departure := none } : Entry).Law := by
    intro st b ha hr hf hst
    have hk := h.parked hf hst b
    rw [← h.request_none ha hr, ← h.intent_none hr] at hk
    exact hk
  have still : e.state ≠ .onDeck → e.finished = false := fun hs =>
    Entry.finished_of_departure_none (h.departure_none hs)
  cases hs : e.state with
  | admitted => simp [hs] at hx
  | recalled =>
    simp only [hs] at hx
    split at hx
    · cases hx
    · cases hx
      exact h.parked (still (by simp [hs])) (hst _) _
  | onDeck =>
    have hpark := fun st => park st true (by simp [hs]) (by simp [hs])
    simp only [hs] at hx
    split at hx
    · cases hx
    · cases hx
    · next hd => cases hx; exact hpark _ (by simp [Entry.finished, hd]) (.inr rfl)
    · next hd => cases hx; exact hpark _ (by simp [Entry.finished, hd]) (.inl rfl)
    · next hd => cases hx; exact hpark _ (by simp [Entry.finished, hd]) (.inl rfl)
  | inYard =>
    simp only [hs] at hx
    cases hx
    exact hs ▸ park .inYard e.interrupted (by simp [hs]) (by simp [hs]) (still (by simp [hs])) (.inl rfl)
  | quarantine =>
    simp only [hs] at hx
    cases hx
    exact hs ▸ park .quarantine e.interrupted (by simp [hs]) (by simp [hs]) (still (by simp [hs])) (.inr rfl)

/-- A start leaves the records as the check of the backup domain found them. -/
theorem State.recs_restart (s : State) (x : Start) (cause : ResetCause) :
    (s.restart x cause).recs = (s.backup.restart (s.backupOk x)).records := by
  unfold State.restart
  rw [State.recs_judgeAlarm, State.recs_foldl State.startLamps State.recs_startLamps, State.recs_takeBooms,
    State.recs_foldl State.place State.recs_place, State.recs_foldl _ fun t d => by simp]
  rfl

theorem State.keeps_restart (s : State) (x : Start) (cause : ResetCause) :
    s.recs.Keeps (s.restart x cause).recs := by
  rw [State.recs_restart]
  unfold Backup.restart
  split
  · exact Records.keeps_filterMap Entry.restart rfl fun _ e _ x hx =>
      ⟨(Entry.restart_keys hx).1, (Entry.restart_keys hx).2, fun h => h.restart hx⟩
  · exact fun _ => ⟨by constructor <;> simp, fun _ => by simp⟩

/-! ### Every command -/

@[simp] theorem Records.keeps_self (r : Records) : r.Keeps r := .refl r

theorem keeps_of_next {s u t : State} (h : (.next u : Outcome) = .next t) (hk : s.recs.Keeps u.recs) :
    s.recs.Keeps t.recs := Host.Outcome.next.inj h ▸ hk

theorem keeps_event {c : Instr} {f : State → State} {s t : State} (hc : exec c s = event c f s)
    (hf : ∀ s : State, s.recs.Keeps (f s).recs) (h : exec c s = .next t) : s.recs.Keeps t.recs := by
  refine keeps_of_next (hc.symm.trans h) ?_
  split
  · rw [State.recs_settle]; exact hf (s.consume c)
  · exact .refl _

theorem keeps_request {c : Instr} {q : Sender} {f : Serve} {s t : State} (hc : exec c s = request c q f s)
    (hf : ∀ (role : Role) (s : State), s.recs.Keeps (f role s).1.recs) (h : exec c s = .next t) :
    s.recs.Keeps t.recs := by
  refine keeps_of_next (hc.symm.trans h) ?_
  split
  · rw [State.recs_settle]
    unfold State.takeRequest
    dsimp only
    split
    · exact hf _ (s.consume c)
    split
    · exact .refl _
    split
    · exact .refl _
    · exact hf _ (s.modPort q.port _)
  · exact .refl _

@[simp] theorem State.recs_tick (s : State) (m : TickMark) (x : Lines) : (s.tick m x).recs = s.recs.tick m := by
  simp [State.tick]

theorem keeps_execYardTick {x : Lines} {s t : State} (h : execYardTick x s = .next t) : s.recs.Keeps t.recs := by
  cases h
  split
  · rw [State.recs_settle, State.recs_tick]; exact Records.keeps_tick _ _
  · exact Records.keeps_tick _ _

theorem State.keeps_watchExpiry (s : State) (x : Lines) : s.recs.Keeps (s.watchExpiry x).recs := by
  unfold State.watchExpiry
  split
  · exact .refl _
  · simpa using Records.keeps_tick _ _

theorem keeps_exec_request (c : Instr) (hc : c.spelling.isSome = true) (s t : State) (h : exec c s = .next t) :
    s.recs.Keeps t.recs := by
  cases c with
  | identify => exact keeps_request (exec_identify ..) (keeps_serveIdentify _ _ _ _ _ _ _ _ _) h
  | hold => exact keeps_request (exec_hold ..) (keeps_serveHold _ _ _) h
  | releaseHold => exact keeps_request (exec_releaseHold ..) (keeps_serveReleaseHold _) h
  | amend => exact keeps_request (exec_amend ..) (keeps_serveAmend _ _ _) h
  | cancelTransaction => exact keeps_request (exec_cancelTransaction ..) (keeps_serveCancel _) h
  | quarantine => exact keeps_request (exec_quarantine ..) (keeps_serveQuarantine _) h
  | close => exact keeps_request (exec_close ..) (keeps_serveClose _) h
  | forceExit => exact keeps_request (exec_forceExit ..) (keeps_serveForceExit _) h
  | storeTare => exact keeps_request (exec_storeTare ..) (keeps_serveStoreTare _ _ _ _ _ _) h
  | deleteTare => exact keeps_request (exec_deleteTare ..) (keeps_serveDeleteTare _) h
  | setClock => exact keeps_request (exec_setClock ..) (keeps_serveSetClock _ _ _ _ _ _) h
  | setTicketBase => exact keeps_request (exec_setTicketBase ..) (keeps_serveSetTicketBase _) h
  | voidTicket => exact keeps_request (exec_voidTicket ..) (keeps_serveVoidTicket _ _) h
  | confirmCollected => exact keeps_request (exec_confirmCollected ..) (keeps_serveConfirmCollected _) h
  | setProceedTime => exact keeps_request (exec_setProceedTime ..) (by simp) h
  | clearTailgate => exact keeps_request (exec_clearTailgate ..) (by simp) h
  | setDeckService => exact keeps_request (exec_setDeckService ..) (by simp) h
  | readDeckState => exact keeps_request (exec_readDeckState ..) (by simp) h
  | setBarrier => exact keeps_request (exec_setBarrier ..) (by simp) h
  | barrierReset => exact keeps_request (exec_barrierReset ..) (by simp) h
  | barrierCommand => exact keeps_request (exec_barrierCommand ..) (by simp) h
  | readBarriers => exact keeps_request (exec_readBarriers ..) (by simp) h
  | setMetrology => exact keeps_request (exec_setMetrology ..) (by simp) h
  | setChannelFactor => exact keeps_request (exec_setChannelFactor ..) (by simp) h
  | setChannelZero => exact keeps_request (exec_setChannelZero ..) (by simp) h
  | calZeroDeck => exact keeps_request (exec_calZeroDeck ..) (by simp) h
  | calSpanDeck => exact keeps_request (exec_calSpanDeck ..) (by simp) h
  | abortCalibration => exact keeps_request (exec_abortCalibration ..) (by simp) h
  | readCalibration => exact keeps_request (exec_readCalibration ..) (by simp) h
  | setCaptureOptions => exact keeps_request (exec_setCaptureOptions ..) (by simp) h
  | capture => exact keeps_request (exec_capture ..) (by simp) h
  | abortCapture => exact keeps_request (exec_abortCapture ..) (by simp) h
  | zeroDeck => exact keeps_request (exec_zeroDeck ..) (by simp) h
  | readCapture => exact keeps_request (exec_readCapture ..) (by simp) h
  | setChannelMap => exact keeps_request (exec_setChannelMap ..) (by simp) h
  | setChannelLimits => exact keeps_request (exec_setChannelLimits ..) (by simp) h
  | clearFaults => exact keeps_request (exec_clearFaults ..) (by simp) h
  | readChannels => exact keeps_request (exec_readChannels ..) (by simp) h
  | setConditioner => exact keeps_request (exec_setConditioner ..) (by simp) h
  | readInputs => exact keeps_request (exec_readInputs ..) (by simp) h
  | setLaneTimers => exact keeps_request (exec_setLaneTimers ..) (by simp) h
  | setLaneFeed => exact keeps_request (exec_setLaneFeed ..) (by simp) h
  | setLaneMode => exact keeps_request (exec_setLaneMode ..) (by simp) h
  | setLamp => exact keeps_request (exec_setLamp ..) (by simp) h
  | setSignalHead => exact keeps_request (exec_setSignalHead ..) (by simp) h
  | setLampInvert => exact keeps_request (exec_setLampInvert ..) (by simp) h
  | readLane => exact keeps_request (exec_readLane ..) (by simp) h
  | setPortRate => exact keeps_request (exec_setPortRate ..) (by simp) h
  | setPortRole => exact keeps_request (exec_setPortRole ..) (by simp) h
  | bindKiosk => exact keeps_request (exec_bindKiosk ..) (by simp) h
  | setNoticeFloor => exact keeps_request (exec_setNoticeFloor ..) (by simp) h
  | quiet => exact keeps_request (exec_quiet ..) (by simp) h
  | readStatus => exact keeps_request (exec_readStatus ..) (by simp) h
  | readPorts => exact keeps_request (exec_readPorts ..) (by simp) h
  | setYardMode => exact keeps_request (exec_setYardMode ..) (by simp) h
  | yardReset => exact keeps_request (exec_yardReset ..) (by simp) h
  | setAlarmMask => exact keeps_request (exec_setAlarmMask ..) (by simp) h
  | readSupervisor => exact keeps_request (exec_readSupervisor ..) (by simp) h
  | readTare => exact keeps_request (exec_readTare ..) (by simp) h
  | listTares => exact keeps_request (exec_listTares ..) (by simp) h
  | setTareValidity => exact keeps_request (exec_setTareValidity ..) (by simp) h
  | readClock => exact keeps_request (exec_readClock ..) (by simp) h
  | collectNext => exact keeps_request (exec_collectNext ..) (by simp) h
  | readTicket => exact keeps_request (exec_readTicket ..) (by simp) h
  | setOccupancy => exact keeps_request (exec_setOccupancy ..) (by simp) h
  | readDeck => exact keeps_request (exec_readDeck ..) (by simp) h
  | listYard => exact keeps_request (exec_listYard ..) (by simp) h
  | readTransaction => exact keeps_request (exec_readTransaction ..) (by simp) h
  | findPlate => exact keeps_request (exec_findPlate ..) (by simp) h
  | _ => cases hc

theorem keeps_exec_event (c : Instr) (hc : c.spelling.isSome = false) (s t : State) (h : exec c s = .next t) :
    s.recs.Keeps t.recs := by
  cases c with
  | withdrawalReport => exact keeps_event (exec_withdrawalReport ..) (fun s => s.keeps_withdrawalReport _) h
  | entryPassageReport => exact keeps_event (exec_entryPassageReport ..) (fun s => s.keeps_entryPassageReport _ _) h
  | recordsCaptureCompletion =>
    exact keeps_event (exec_recordsCaptureCompletion ..) (fun s => s.keeps_captureCompletion _) h
  | recordsCaptureFailure => exact keeps_event (exec_recordsCaptureFailure ..) (fun s => s.keeps_captureFailure _ _) h
  | exitPassageReport => exact keeps_event (exec_exitPassageReport ..) (fun s => s.keeps_exitPassageReport _) h
  | watchExpiry => exact keeps_event (exec_watchExpiry ..) (fun s => s.keeps_watchExpiry _) h
  | yardClockSecond => exact keeps_of_next h (Records.keeps_second _)
  | yardTick => exact keeps_execYardTick h
  | mainDomainStop => exact keeps_of_next h (.refl _)
  | mainReset => exact keeps_of_next h (s.keeps_restart _ _)
  | yardResetEffect =>
    refine keeps_of_next h ?_
    split
    · exact s.keeps_restart _ _
    · exact .refl _
  | filing => exact keeps_event (exec_filing ..) (by simp) h
  | entryLoopEdgeAtArbiter d e => cases e <;> exact keeps_event (exec_entryLoopEdgeAtArbiter ..) (by simp) h
  | choice => exact keeps_event (exec_choice ..) (by simp) h
  | withdrawal => exact keeps_event (exec_withdrawal ..) (by simp) h
  | acceptance => exact keeps_event (exec_acceptance ..) (by simp) h
  | decline => exact keeps_event (exec_decline ..) (by simp) h
  | proceedTimeout => exact keeps_event (exec_proceedTimeout ..) (by simp) h
  | exitLoopEdgeAtArbiter d e => cases e <;> exact keeps_event (exec_exitLoopEdgeAtArbiter ..) (by simp) h
  | exitReleaseAtArbiter => exact keeps_event (exec_exitReleaseAtArbiter ..) (by simp) h
  | captureCompletionAtArbiter => exact keeps_event (exec_captureCompletionAtArbiter ..) (by simp) h
  | captureFailureAtArbiter => exact keeps_event (exec_captureFailureAtArbiter ..) (by simp) h
  | forceExitNoticeAtArbiter => exact keeps_event (exec_forceExitNoticeAtArbiter ..) (by simp) h
  | deckEmpty => exact keeps_event (exec_deckEmpty ..) (by simp) h
  | barrierStateTaken => exact keeps_event (exec_barrierStateTaken ..) (by simp) h
  | permissiveRise => exact keeps_event (exec_permissiveRise ..) (by simp) h
  | permissiveFall => exact keeps_event (exec_permissiveFall ..) (by simp) h
  | barrierLoopEdge => exact keeps_event (exec_barrierLoopEdge ..) (by simp) h
  | closeDelayExpiry => exact keeps_event (exec_closeDelayExpiry ..) (by simp) h
  | motionTimeout => exact keeps_event (exec_motionTimeout ..) (by simp) h
  | limitEvent => exact keeps_event (exec_limitEvent ..) (by simp) h
  | keepaliveToggle => exact keeps_event (exec_keepaliveToggle ..) (by simp) h
  | calSwitch => exact keeps_event (exec_calSwitch ..) (by simp) h
  | captureStart => exact keeps_event (exec_captureStart ..) (by simp) h
  | recordsAbort => exact keeps_event (exec_recordsAbort ..) (by simp) h
  | captureExternalEnd => exact keeps_event (exec_captureExternalEnd ..) (by simp) h
  | attemptTimerExpiry => exact keeps_event (exec_attemptTimerExpiry ..) (by simp) h
  | leaveDeckTimerExpiry => exact keeps_event (exec_leaveDeckTimerExpiry ..) (by simp) h
  | positioningEdge => exact keeps_event (exec_positioningEdge ..) (by simp) h
  | windowClose => exact keeps_event (exec_windowClose ..) (by simp) h
  | converterEdge => exact keeps_event (exec_converterEdge ..) (by simp) h
  | conditionerEdge => exact keeps_event (exec_conditionerEdge ..) (by simp) h
  | stopLoopEdge => exact keeps_event (exec_stopLoopEdge ..) (by simp) h
  | stuckTimerExpiry => exact keeps_event (exec_stuckTimerExpiry ..) (by simp) h
  | filingOrder => exact keeps_event (exec_filingOrder ..) (by simp) h
  | absenceTimerExpiry => exact keeps_event (exec_absenceTimerExpiry ..) (by simp) h
  | cancelOrder => exact keeps_event (exec_cancelOrder ..) (by simp) h
  | offerAtLane => exact keeps_event (exec_offerAtLane ..) (by simp) h
  | grantWithdrawnAtLane => exact keeps_event (exec_grantWithdrawnAtLane ..) (by simp) h
  | entryPassageAtLane => exact keeps_event (exec_entryPassageAtLane ..) (by simp) h
  | stretchTimerExpiry => exact keeps_event (exec_stretchTimerExpiry ..) (by simp) h
  | frameComplete => exact keeps_event (exec_frameComplete ..) (by simp) h
  | characterReceived => exact keeps_event (exec_characterReceived ..) (by simp) h
  | gapTimerExpiry => exact keeps_event (exec_gapTimerExpiry ..) (by simp) h
  | frameSent => exact keeps_event (exec_frameSent ..) (by simp) h
  | noticeAdmission => exact keeps_event (exec_noticeAdmission ..) (by simp) h
  | quietTimerExpiry => exact keeps_event (exec_quietTimerExpiry ..) (by simp) h
  | drain => exact keeps_event (exec_drain ..) (by simp) h
  | yardModeTaken => exact keeps_event (exec_yardModeTaken ..) (by simp) h
  | qualification => exact keeps_event (exec_qualification ..) (by simp) h
  | startTimerExpiry => exact keeps_event (exec_startTimerExpiry ..) (by simp) h
  | supplyLow => exact keeps_event (exec_supplyLow ..) (by simp) h
  | supplyRestored => exact keeps_event (exec_supplyRestored ..) (by simp) h
  | supplyStateTaken => exact keeps_event (exec_supplyStateTaken ..) (by simp) h
  | engineWindow => exact keeps_event (exec_engineWindow ..) (by simp) h
  | _ => cases hc

theorem keeps_exec (c : Instr) (s t : State) (h : exec c s = .next t) : s.recs.Keeps t.recs := by
  cases hc : c.spelling.isSome with
  | true => exact keeps_exec_request c hc s t h
  | false => exact keeps_exec_event c hc s t h

/-- Every step keeps the law of the records, and with it the law of every entry. -/
theorem keeps_step (s t : State) (h : step s = .next t) : s.recs.Keeps t.recs := by
  unfold step at h
  split at h
  · cases h; exact .refl _
  · next c rest _ => exact keeps_exec c { s with pending := rest } t h

end Sys2Proof.Machine

open Sys2Proof.Machine

/-- Settles O6: what a step makes of the records keeps their law (`keeps_step`). -/
theorem recordsLawKept : Obligations.RecordsLawKept := fun s t hs h => (keeps_step s t h hs).1

/-- Settles O7: what a step makes of the records keeps the law of every entry, where the records keep theirs
(`keeps_step`). -/
theorem entryLawKept : Obligations.EntryLawKept := fun s t hs he h => (keeps_step s t h hs).2 he
end

section
/-! SUPPORT. IDENTIFY: its lane, its arguments, and the recall of an entry that holds the plate (R5, R7, R140). -/

namespace Sys2Proof.Machine

/-! ### Requests that are refused -/

/-- A request whose owning block changes nothing and answers a code alone. -/
theorem request_refused (s : State) (c : Instr) (q : Sender) (f : Serve) (role : Role) (code : AnswerCode)
    (h : s.Taken c q role) (hu : f role (s.handed c q) = (s.handed c q, .only code)) :
    request c q f s = .next (s.refusal c q code) :=
  request_answered s c q f role id (.only code) h hu

/-! ### The operands of IDENTIFY -/

theorem laneOf_of_lt {n : Nat} (h : n < 4) : laneOf n = some ⟨n, h⟩ := dif_pos h
theorem laneOf_of_ge {n : Nat} (h : 4 ≤ n) : laneOf n = none := dif_neg (Nat.not_lt.mpr h)

theorem modeOf_of_ge {n : Nat} (h : 3 ≤ n) : modeOf n = none := by
  obtain ⟨k, rfl⟩ := Nat.exists_eq_add_of_le' h; rfl

theorem intentOf_of_ge (m : Nat) {n : Nat} (h : 2 ≤ n) : intentOf m n = none := by
  obtain ⟨k, rfl⟩ := Nat.exists_eq_add_of_le' h; rfl

theorem exists_modeOf {n : Nat} (h : n < 3) : ∃ m, modeOf n = some m := by
  match n, h with
  | 0, _ => exact ⟨_, rfl⟩
  | 1, _ => exact ⟨_, rfl⟩
  | 2, _ => exact ⟨_, rfl⟩

theorem intentOf_of_lt (m : Nat) {n : Nat} (h : n < 2) :
    intentOf m n = some (if n = 0 then .final else .split m) := by
  match n, h with
  | 0, _ => rfl
  | 1, _ => rfl

theorem clampPriority_eq (role : Role) (p : Nat) : clampPriority role p = min p (if role = .kiosk then 1 else 3) := by
  have hc : ∀ hi, clampNat 0 hi p = min p hi := by
    intro hi; unfold clampNat; split
    · omega
    · split <;> omega
  cases role <;> simp [clampPriority, hc]

theorem identifyReply_eq (n kind priority p : Nat) :
    identifyReply n kind priority (priority != p) =
      if priority = p then .ok (u16 n ++ u8 kind)
      else { code := .clamped, payload := u16 n ++ u8 kind ++ u8 priority } := by
  by_cases h : priority = p <;> simp [identifyReply, h]

theorem State.identifyLane_unbound {s : State} {q : Sender} (lane : Nat) (h : (s.portCfg q.port).binding = none) :
    s.identifyLane .kiosk q lane = .inr .notBound := by simp [State.identifyLane, h]

theorem State.identifyLane_bound {s : State} {q : Sender} (lane : Nat)
    (h : (s.portCfg q.port).binding.isSome = true) : ∃ l, s.identifyLane .kiosk q lane = .inl l := by
  obtain ⟨l, hl⟩ := Option.isSome_iff_exists.mp h
  exact ⟨l, by simp [State.identifyLane, hl]⟩

/-- Any port but a kiosk acts for the lane it names (R140). -/
theorem State.identifyLane_named (s : State) {role : Role} (q : Sender) (lane : Nat) (h : role ≠ .kiosk) :
    s.identifyLane role q lane = match laneOf lane with
      | some l => .inl l
      | none => .inr .badArgument := by
  cases role with
  | kiosk => exact absurd rfl h
  | console | office | none => rfl

section
variable {s : State} {q : Sender} {lane : Nat} {plate : List Byte} {tag : Option Nat}
  {mode account material intent priority : Nat} {role : Role} {l : Lane}

/-- Arguments that IDENTIFY does not take (R5). -/
theorem serveIdentify_badArgument (hl : s.identifyLane role q lane = .inl l)
    (hbad : 3 ≤ mode ∨ 2 ≤ intent ∨ plateOk (trimPlate plate) = false ∨ 999999 < account ∨ material = 0 ∨
      9999 < material) :
    serveIdentify q lane plate tag mode account material intent priority role s = (s, .only .badArgument) := by
  unfold serveIdentify
  simp only [hl]
  split
  · next m i hm hi =>
    have hm : mode < 3 := Nat.lt_of_not_le fun h => by simp [modeOf_of_ge h] at hm
    have hi : intent < 2 := Nat.lt_of_not_le fun h => by simp [intentOf_of_ge _ h] at hi
    refine if_pos ?_
    rcases hbad with h | h | h | h | h | h
    · omega
    · omega
    · simp [h]
    · simp [accountOk, Nat.not_le.mpr h, Config.accountMax]
    · simp [h, materialOk]
    · simp [materialOk, Nat.not_le.mpr h, Config.materialMax]
  · rfl

/-- IDENTIFY of a plate that no entry holds, with a lane and arguments that it takes, is an admission (R5). -/
theorem serveIdentify_unknown {m : Mode} (hl : s.identifyLane role q lane = .inl l) (hm : modeOf mode = some m)
    (hi : intent < 2) (hp : plateOk (trimPlate plate) = true) (ha : account ≤ 999999)
    (hx : 1 ≤ material ∧ material ≤ 9999) (he : s.recs.findPlate (trimPlate plate) = none) :
    serveIdentify q lane plate tag mode account material intent priority role s =
      s.admission l (trimPlate plate) tag m account material (clampPriority role priority)
        (clampPriority role priority != priority) := by
  simp [serveIdentify, hl, hm, intentOf_of_lt _ hi, hp, accountOk_iff.mpr ha, materialOk_iff.mpr hx, he]

/-- IDENTIFY of a plate that an entry holds is a recall of that entry (R5). -/
theorem serveIdentify_known {e : Entry} (hl : s.identifyLane role q lane = .inl l) (hm : mode < 3)
    (hi : intent < 2) (hp : plateOk (trimPlate plate) = true) (ha : account ≤ 999999)
    (hx : 1 ≤ material ∧ material ≤ 9999) (he : s.recs.findPlate (trimPlate plate) = some e) :
    serveIdentify q lane plate tag mode account material intent priority role s =
      s.recallEntry l e tag (if intent = 0 then .final else .split material) (clampPriority role priority)
        (clampPriority role priority != priority) := by
  obtain ⟨m, hm⟩ := exists_modeOf hm
  simp [serveIdentify, hl, hm, intentOf_of_lt _ hi, hp, accountOk_iff.mpr ha, materialOk_iff.mpr hx, he]

end

/-! ### The recall -/

theorem recallOrigin_eq (st : EntryState) :
    recallOrigin st =
      if st ≠ .inYard ∧ st ≠ .quarantine then none else some (if st = .inYard then .inYard else .quarantine) := by
  cases st <;> simp [recallOrigin]

/-- The tag of an entry at a recall: its own, or else the one that IDENTIFY brings (R7). -/
theorem orElse_eq_ite (a b : Option Nat) : (a <|> b) = if a.isSome = true then a else b := by cases a <;> rfl

/-- The six tests of a recall in their order (R7). -/
theorem State.recallRefusal_eq (s : State) (l : Lane) (e : Entry) (material : Nat) {intent : Nat} (hi : intent < 2) :
    s.recallRefusal l e (if intent = 0 then .final else .split material) =
      if (s.lane l).state ≠ .present then some .noVehicle
      else if s.modeAt .records = .closed then some .yardClosed
      else if (e.state ≠ .inYard ∧ e.state ≠ .quarantine) ∨ e.closurePending = true then some .wrongState
      else if e.mode ≠ .twoPass ∧ intent = 1 then some .badArgument
      else if intent = 0 ∧ e.hold.isSome then some .held
      else if intent = 1 ∧ 5 ≤ e.lines.length then some .linesFull
      else none := by
  have ho : (recallOrigin e.state).isNone = true ↔ e.state ≠ .inYard ∧ e.state ≠ .quarantine := by
    cases e.state <;> simp [recallOrigin]
  simp only [State.recallRefusal, ho]
  match intent, hi with
  | 0, _ => simp
  | 1, _ => simp; rfl

theorem State.recallEntry_refused {s : State} {l : Lane} {e : Entry} {i : Intent} {code : AnswerCode}
    (h : s.recallRefusal l e i = some code) (tag : Option Nat) (priority : Nat) (clamped : Bool) :
    s.recallEntry l e tag i priority clamped = (s, .only code) := by simp [State.recallEntry, h]

theorem State.recallEntry_taken {s : State} {l : Lane} {e : Entry} {i : Intent} {o : Origin}
    (h : s.recallRefusal l e i = none) (ho : recallOrigin e.state = some o) (tag : Option Nat) (priority : Nat)
    (clamped : Bool) :
    s.recallEntry l e tag i priority clamped =
      ((s.modEntry e.number fun x =>
          { x with state := .recalled, request := some { lane := l, priority := priority }
                   recallIntent := some { intent := i, origin := o }
                   tag := if x.tag.isSome then x.tag else tag }).raise [.filingOrder l e.number .recall priority],
        identifyReply e.number 1 priority clamped) := by
  simp [State.recallEntry, h, ho, orElse_eq_ite]

end Sys2Proof.Machine

open Sys2Proof Sys2Proof.Machine

/-- Settles O17, by the lane, the arguments, and the tests of a recall in their order. -/
theorem identifyRefusesOrRecalls : Obligations.IdentifyRefusesOrRecalls := by
  refine ⟨fun s q lane plate tag mode account material intent priority role h => ⟨?_, ?_, ?_⟩, ?_⟩
  · rintro rfl hb
    refine request_refused s _ q _ .kiosk _ h ?_
    simp [serveIdentify, State.identifyLane_unbound lane hb]
  · intro hr hl
    refine request_refused s _ q _ role _ h ?_
    simp [serveIdentify, State.identifyLane_named _ _ _ hr, laneOf_of_ge hl]
  · intro hlane hbad
    have hl : ∃ l, s.identifyLane role q lane = .inl l := by
      rcases hlane with ⟨rfl, hb⟩ | ⟨hr, hlt⟩
      · exact State.identifyLane_bound lane hb
      · exact ⟨_, by rw [State.identifyLane_named _ _ _ hr, laneOf_of_lt hlt]⟩
    obtain ⟨l, hl⟩ := hl
    refine request_refused s _ q _ role _ h (serveIdentify_badArgument (l := l) ?_ hbad)
    rw [State.identifyLane_handed, hl]
  · intro s q lane plate tag mode account material intent priority role l e c pr htaken hl hm hi hp ha hx1 hx2 he
    have hserve := serveIdentify_known (s := s.handed c q) (q := q) (tag := tag) (priority := priority)
      (by rw [State.identifyLane_handed, hl]) hm hi hp ha ⟨hx1, hx2⟩ (by rw [State.recs_handed, he])
    have htests := s.recallRefusal_eq l e material hi
    have refused : ∀ code, s.recallRefusal l e (if intent = 0 then .final else .split material) = some code →
        exec c s = .next (s.refusal c q code) := fun code hcode =>
      request_refused s c q _ role code htaken
        (hserve.trans (State.recallEntry_refused (by rw [State.recallRefusal_handed, hcode]) _ _ _))
    split
    · next h => exact refused _ (by rw [htests, if_pos h])
    next h =>
    rw [if_neg h] at htests
    split
    · next h => exact refused _ (by rw [htests, if_pos h])
    next h =>
    rw [if_neg h] at htests
    split
    · next h => exact refused _ (by rw [htests, if_pos h])
    next h3 =>
    rw [if_neg h3] at htests
    split
    · next h => exact refused _ (by rw [htests, if_pos h])
    next h =>
    rw [if_neg h] at htests
    split
    · next h => exact refused _ (by rw [htests, if_pos h])
    next h =>
    rw [if_neg h] at htests
    split
    · next h => exact refused _ (by rw [htests, if_pos h])
    next h =>
    rw [if_neg h] at htests
    have ho : recallOrigin e.state = some (if e.state = .inYard then .inYard else .quarantine) := by
      rw [recallOrigin_eq, if_neg fun hs => h3 (.inl hs)]
    refine request_answered s c q _ role _ _ htaken (hserve.trans ?_)
    rw [State.recallEntry_taken (by rw [State.recallRefusal_handed, htests]) ho, clampPriority_eq, identifyReply_eq]
end

section
/-! SUPPORT. The admission of an unknown plate (R3, R5, R6). -/

namespace Sys2Proof.Machine

theorem Records.findPlate_eq_none {r : Records} {p : Plate} (h : ∀ e ∈ r.entries, e.plate ≠ p) :
    r.findPlate p = none := List.find?_eq_none.mpr fun e he => by simpa using h e he

/-- A STORED_TARE admission wants a tare that is VALID today (R6). -/
theorem tareInvalid_iff (t : Option Tare) (today : Option Date) :
    (t.all fun x => x.standing today != .valid) = true ↔ (t.map fun x => x.standing today) ≠ some .valid := by
  cases t <;> simp

/-- The six tests of an admission in their order (R6). -/
theorem State.admissionRefusal_eq (s : State) (l : Lane) (p : Plate) (m : Mode) :
    s.admissionRefusal l p m =
      if (s.lane l).state ≠ .present then some .noVehicle
      else if s.modeAt .records = .closing then some .yardClosing
      else if s.modeAt .records = .closed then some .yardClosed
      else if 96 ≤ s.recs.entries.length then some .tableFull
      else
        match s.recs.clock with
        | none => some .clockUnset
        | some now =>
          if m = .storedTare ∧ ((s.recs.tareOf p).map fun t => t.standing (some now.date)) ≠ some .valid then
            some .tareInvalid
          else if m = .tareOnly ∧ s.recs.tareRoom p = false then some .tareFull
          else none := by
  simp only [State.admissionRefusal, tareInvalid_iff, Records.today]
  cases s.recs.clock with
  | none => rfl
  | some now => rfl

theorem State.admission_refused {s : State} {l : Lane} {p : Plate} {m : Mode} {code : AnswerCode}
    (h : s.admissionRefusal l p m = some code) (tag : Option Nat) (account material priority : Nat) (clamped : Bool) :
    s.admission l p tag m account material priority clamped = (s, .only code) := by simp [State.admission, h]

theorem State.admission_taken {s : State} {l : Lane} {p : Plate} {m : Mode} {now : DateTime}
    (h : s.admissionRefusal l p m = none) (hc : s.recs.clock = some now) (tag : Option Nat)
    (account material priority : Nat) (clamped : Bool) :
    s.admission l p tag m account material priority clamped =
      ((s.modRecs fun r =>
          { r with
            entries := r.entries ++ [admittedEntry s.recs l p tag m account material priority now]
            lastNumber := allocate s.recs.entries 96 s.recs.lastNumber }).raise
          [.filingOrder l (allocate s.recs.entries 96 s.recs.lastNumber) .admission priority],
        identifyReply (allocate s.recs.entries 96 s.recs.lastNumber) 0 priority clamped) := by
  simp [State.admission, h, hc, admittedEntry]

end Sys2Proof.Machine

open Sys2Proof Sys2Proof.Machine

/-- Settles O18, by the tests of an admission in their order, and by the run of numbers that the allocation follows. -/
theorem identifyAdmitsAnUnknownPlate : Obligations.IdentifyAdmitsAnUnknownPlate := by
  refine ⟨?_, fun es last hes _ => ?_⟩
  · intro s q lane plate tag mode account material intent priority role l m c p pr n htaken hl hm hi hp ha hx1 hx2 hnew
    have hserve := serveIdentify_unknown (s := s.handed c q) (q := q) (tag := tag) (priority := priority)
      (by rw [State.identifyLane_handed, hl]) hm hi hp ha ⟨hx1, hx2⟩
      (by rw [State.recs_handed, Records.findPlate_eq_none hnew])
    have htests := s.admissionRefusal_eq l p m
    have refused : ∀ code, s.admissionRefusal l p m = some code → exec c s = .next (s.refusal c q code) :=
      fun code hcode => request_refused s c q _ role code htaken
        (hserve.trans (State.admission_refused (by rw [State.admissionRefusal_handed, hcode]) _ _ _ _ _))
    split
    · next h => exact refused _ (by rw [htests, if_pos h])
    next h =>
    rw [if_neg h] at htests
    split
    · next h => exact refused _ (by rw [htests, if_pos h])
    next h =>
    rw [if_neg h] at htests
    split
    · next h => exact refused _ (by rw [htests, if_pos h])
    next h =>
    rw [if_neg h] at htests
    split
    · next h => exact refused _ (by rw [htests, if_pos h])
    next h =>
    rw [if_neg h] at htests
    split
    · next hc => exact refused _ (by rw [htests, hc])
    next now hc =>
    simp only [hc] at htests
    split
    · next h => exact refused _ (by rw [htests, if_pos h])
    next h =>
    rw [if_neg h] at htests
    split
    · next h => exact refused _ (by rw [htests, if_pos h])
    next h =>
    rw [if_neg h] at htests
    refine request_answered s c q _ role _ _ htaken (hserve.trans ?_)
    rw [State.admission_taken (now := now) (by rw [State.admissionRefusal_handed, htests])
      (by rw [State.recs_handed, hc]), clampPriority_eq, identifyReply_eq, State.recs_handed]
    rfl
  · obtain ⟨hfree, hfirst⟩ := allocate_first_unused es last hes
    obtain ⟨h1, h2⟩ := allocate_range es 96 last
    exact ⟨h1, h2, hfree, hfirst⟩
end

section
/-! SUPPORT. The console's record requests (R16 to R24) and the withdrawal report (R8). -/

namespace Sys2Proof.Machine

/-! ### Delivering events, and rewriting one entry twice -/

theorem State.raise_raise (s : State) (a b : List Instr) : (s.raise a).raise b = s.raise (a ++ b) := by
  simp [State.raise, List.append_assoc]

theorem State.raise_nil (s : State) : s.raise [] = s := by simp [State.raise]

theorem State.modEntry_eq (s : State) (n : Nat) (f : Entry → Entry) : s.modEntry n f = s.modRecs fun r => r.edit n f :=
  rfl

theorem State.modEntry_modEntry (s : State) (n : Nat) (f g : Entry → Entry)
    (hf : ∀ e, e.number = n → (f e).number = n) :
    (s.modEntry n f).modEntry n g = s.modEntry n fun e => g (f e) := by
  have h := Records.edit_edit s.backup.records n f g hf
  simp only [State.modEntry_eq, State.modRecs, h]

/-! ### What a record request finds (R16) -/

section
variable {n : Nat} {f : Entry → State → State × Reply} {role : Role} {s : State}

theorem onEntry_notFound (h : ∀ e, s.recs.find n = some e → e.finished = true) :
    onEntry n f role s = (s, .only .notFound) := by
  unfold onEntry
  split
  · rfl
  · next e he => rw [if_pos (h e he)]

theorem onEntry_unfinished {e : Entry} (h : s.recs.find n = some e) (hf : e.finished = false) :
    onEntry n f role s = f e s := by
  simp [onEntry, h, hf]

/-- A record request on an unfinished entry, by what its block makes of that entry. -/
theorem request_onEntry (s : State) (c : Instr) (q : Sender) {e : Entry} (u : State → State) (r : Reply)
    (he : s.recs.find n = some e) (hf : e.finished = false) (h : s.Taken c q role)
    (hu : f e (s.handed c q) = (u (s.handed c q), r)) :
    request c q (onEntry n f) s = .next (s.answered c q u r) :=
  request_answered s c q _ role u r h ((onEntry_unfinished (by rw [State.recs_handed, he]) hf).trans hu)

/-- A record request that its own tests refuse. -/
theorem request_onEntry_refused (s : State) (c : Instr) (q : Sender) {e : Entry} (code : AnswerCode)
    (he : s.recs.find n = some e) (hf : e.finished = false) (h : s.Taken c q role)
    (hu : f e (s.handed c q) = (s.handed c q, .only code)) :
    request c q (onEntry n f) s = .next (s.refusal c q code) :=
  request_onEntry s c q id (.only code) he hf h hu

end

theorem holdReasonOk_iff {n : Nat} : holdReasonOk n = true ↔ 1 ≤ n ∧ n ≤ 255 := by
  simp only [holdReasonOk, Bool.and_eq_true, decide_eq_true_eq]

/-- The tests of an AMEND (R19). -/
theorem amend_refused_iff (e : Entry) (account : Option Nat) (line : Option (Nat × Nat)) :
    ((account.isNone && line.isNone) || !account.all accountOk || !line.all (fun p => materialOk p.2)
        || !line.all (fun p => e.lineOk p.1)) = true ↔
      (account = none ∧ line = none) ∨ account.any (999999 < ·) = true ∨
        line.any (fun p => p.2 = 0 || 9999 < p.2) = true ∨ line.any (fun p => !e.lineOk p.1) = true := by
  have ha : ∀ a, accountOk a = false ↔ 999999 < a := fun a => by
    rw [← Bool.not_eq_true, accountOk_iff, Nat.not_le]
  have hm : ∀ m, materialOk m = false ↔ m = 0 ∨ 9999 < m := fun m => by
    rw [← Bool.not_eq_true, materialOk_iff]; omega
  cases account <;> cases line <;> simp [ha, hm, or_assoc]

end Sys2Proof.Machine

open Sys2Proof Sys2Proof.Machine

/-- Settles O19, request by request, each by its tests in their order. -/
theorem entryRequests : Obligations.EntryRequests := by
  refine ⟨?_, fun s q number e role he hf => ⟨?_, ?_, ?_⟩, fun e i m => ⟨e.lineOk_iff i, ?_, ?_⟩⟩
  · intro s q number reason account line role c hc h hnone
    have notFound : ∀ (c : Instr) (f : Entry → State → State × Reply), s.Taken c q role →
        request c q (onEntry number f) s = .next (s.refusal c q .notFound) := fun c f h =>
      request_refused s c q _ role _ h (onEntry_notFound (by rw [State.recs_handed]; exact hnone))
    simp only [List.mem_cons, List.not_mem_nil, or_false] at hc
    rcases hc with rfl | rfl | rfl | rfl | rfl | rfl | rfl <;> exact notFound _ _ h
  · intro reason c h
    split
    · next hr =>
      exact request_onEntry s c q _ _ he hf h (if_pos (holdReasonOk_iff.mpr hr))
    · next hr =>
      exact request_onEntry_refused s c q _ he hf h (if_neg (mt holdReasonOk_iff.mp hr))
  · intro c h
    split
    · next hh =>
      exact request_onEntry_refused s c q _ he hf h (by simp [hh])
    · next hh =>
      exact request_onEntry s c q _ _ he hf h (if_neg (by simpa using hh))
  · intro account line c h
    split
    · next hs =>
      exact request_onEntry_refused s c q _ he hf h (if_pos hs)
    next hs =>
    split
    · next hbad =>
      exact request_onEntry_refused s c q _ he hf h ((if_neg hs).trans (if_pos ((amend_refused_iff e account line).mpr hbad)))
    · next hok =>
      refine request_onEntry s c q _ _ he hf h
        ((if_neg hs).trans ((if_neg (mt (amend_refused_iff e account line).mp hok)).trans ?_))
      cases line <;> rfl
  · exact fun _ hle => e.amendLine_of_le m hle
  · exact fun k o hr => e.amendLine_next m hr
end

section
/-! SUPPORT. Cancellation, withdrawal, quarantine, forced exit and close (R8, R20, R22 to R24). -/

namespace Sys2Proof.Machine

/-- The cancel of an entry on a deck, with its events in one delivery (R20). -/
theorem State.cancelOnDeck_eq (s : State) {e : Entry} {ps : Pass} (hp : e.pass = some ps) :
    s.cancelOnDeck e = (s.modEntry e.number fun x =>
        { x with departure := some .discharged, closurePending := false, blocked := none, cancelling := false }).raise
      ((if e.departure = none then [Instr.exitReleaseAtArbiter ps.deck (some e.number)] else []) ++
        (if ps.status = .done then [] else [Instr.recordsAbort ps.deck e.number])) := by
  unfold State.cancelOnDeck
  rw [← State.raise_raise]
  cases hd : e.departure <;> by_cases hst : ps.status = .done <;> simp [hp, hst, State.giveRelease, State.raise_nil]

theorem Recall.origin_state (r : Option Recall) :
    ((r.map fun r => r.origin.state).getD .inYard) = match r.map Recall.origin with
      | some .quarantine => .quarantine
      | some .inYard => .inYard
      | none => .inYard := by
  rcases r with _ | ⟨i, _ | _⟩ <;> rfl

theorem State.capturing_of_pass (s : State) {e : Entry} {ps : Pass} (hp : e.pass = some ps) :
    s.capturing e = (s.eng ps.deck).capture.isSome := by
  simp [State.capturing, Entry.passDeck, hp]

theorem Entry.passDeck_of_pass {e : Entry} {ps : Pass} (hp : e.pass = some ps) : e.passDeck = some ps.deck := by
  simp [Entry.passDeck, hp]

/-- The conditions of a closure in their order (R12). -/
theorem Records.closureBlock_eq (r : Records) (e : Entry) :
    r.closureBlock e =
      if e.hold.isSome then some .held
      else if r.counter = none then some .ticketUnset
      else if r.clock = none then some .clockUnset
      else if r.freeSlot = false then some .logFull
      else none := by
  simp [Records.closureBlock]

end Sys2Proof.Machine

open Sys2Proof Sys2Proof.Machine

/-- Settles O20, by the state of the entry. -/
theorem cancellationAndWithdrawal : Obligations.CancellationAndWithdrawal := by
  constructor
  · intro s q number e role c he hf h
    refine ⟨fun hs => ?_, ?_, ?_⟩
    · refine request_onEntry s c q _ _ he hf h ?_
      rcases hs with hs | hs <;> simp [hs]
    · intro rq hs hrq
      split
      · next hc =>
        refine request_onEntry_refused s c q _ he hf h ?_
        rcases hs with hs | hs <;> simp [hs, hc]
      · next hc =>
        refine request_onEntry s c q _ _ he hf h ?_
        rcases hs with hs | hs <;> simp [hs, hc, hrq]
    · intro ps hs hp
      refine request_onEntry s c q _ _ he hf h ?_
      simp only [hs, State.cancelOnDeck_eq _ hp, Records.number_of_find he]
  · intro s number cause hrun c
    refine (exec_withdrawalReport ..).trans (event_after s c _ _ hrun ?_)
    unfold State.withdrawalReport
    rw [State.recs_consume]
    cases s.recs.find number with
    | none => rfl
    | some e =>
      cases hs : e.state with
      | recalled =>
        by_cases hc : e.cancelling = true
        · simp [hs, hc]
        · simp [hs, hc, Recall.origin_state] <;> rfl
      | admitted | onDeck | inYard | quarantine => simp [hs]

/-- Settles O21, request by request, each by its tests in their order. -/
theorem quarantineForceExitAndClose : Obligations.QuarantineForceExitAndClose := by
  refine ⟨fun s q number e role he hf => ⟨?_, fun ps hs hp => ⟨?_, ?_⟩⟩, ?_⟩
  · intro c hc h hs
    simp only [List.mem_cons, List.not_mem_nil, or_false] at hc
    rcases hc with rfl | rfl
    · exact request_onEntry_refused s _ q _ he hf h (if_pos hs)
    · exact request_onEntry_refused s _ q _ he hf h (if_pos (.inl hs))
  · intro c h
    have hcap : (s.handed c q).capturing e = (s.eng ps.deck).capture.isSome := by
      rw [State.capturing_handed, s.capturing_of_pass hp]
    split
    · next hc => exact request_onEntry_refused s c q _ he hf h (by simp [hs, hcap, hc])
    next hc =>
    split
    · next hd => exact request_onEntry_refused s c q _ he hf h (by simp [hs, hcap, hc, hd])
    · next hd =>
      refine request_onEntry s c q _ _ he hf h ?_
      cases hdep : e.departure <;> rw [hdep] at hd <;>
        simp [hs, hcap, hc, hd, Entry.passDeck_of_pass hp, State.giveRelease, State.raise_nil]
  · intro c h
    have hcap : (s.handed c q).capturing e = (s.eng ps.deck).capture.isSome := by
      rw [State.capturing_handed, s.capturing_of_pass hp]
    split
    · next hd => exact request_onEntry_refused s c q _ he hf h (if_pos (.inr hd))
    next hd =>
    split
    · next hc => exact request_onEntry_refused s c q _ he hf h (by simp [hs, hd, hcap, hc])
    · next hc =>
      refine request_onEntry s c q _ _ he hf h ?_
      simp [hs, hd, hcap, hc, Entry.passDeck_of_pass hp, State.giveRelease, State.raise_raise]
  · intro s q number e role c he hf h
    split
    · next hs => exact request_onEntry_refused s c q _ he hf h (if_pos hs)
    next hs =>
    split
    · next hc => exact request_onEntry_refused s c q _ he hf h (by simp [hs, hc])
    next hc =>
    have hs : e.state = .quarantine := by simpa using hs
    have hblock := s.recs.closureBlock_eq e
    have blocked : ∀ b, s.recs.closureBlock e = some b → exec c s = .next (s.refusal c q b.code) := fun b hb =>
      request_onEntry_refused s c q _ he hf h (by simp [hs, hc, hb])
    split
    · next hh => exact blocked .held (by rw [hblock, if_pos hh])
    next hh =>
    split
    · next hn => exact blocked .ticketUnset (by rw [hblock, if_neg hh, if_pos hn])
    next n hn =>
    have hcounter : s.recs.counter ≠ none := by simp [hn]
    split
    · next hk => exact blocked .clockUnset (by rw [hblock, if_neg hh, if_neg hcounter, if_pos hk])
    next hk =>
    split
    · next hl => exact blocked .logFull (by rw [hblock, if_neg hh, if_neg hcounter, if_neg hk, if_pos hl])
    · next hl =>
      rw [if_neg hh, if_neg hcounter, if_neg hk, if_neg hl] at hblock
      refine request_onEntry s c q _ _ he hf h ?_
      simp [hs, hc, hblock, Records.nextTicket, hn]
end

section
/-! SUPPORT. The reports of passages and captures at the records (R9 to R11). -/

namespace Sys2Proof.Machine

@[simp] theorem State.weighing_consume (s : State) (c : Instr) (r : CaptureResult) :
    (s.consume c).weighing r = s.weighing r := rfl

/-- A CANCELLING entry is cancelled in the step that puts it on its deck (R20). -/
theorem State.cancelOnDeck_onto (s : State) (e : Entry) (d : Deck) :
    (s.modEntry e.number fun x => x.onto d).cancelOnDeck (e.onto d) =
      (s.modEntry e.number fun x =>
        { x.onto d with departure := some .discharged, closurePending := false, blocked := none, cancelling := false }).raise
        ((if e.departure = none then [.exitReleaseAtArbiter d (some e.number)] else []) ++ [.recordsAbort d e.number]) := by
  rw [State.cancelOnDeck_eq (ps := { purpose := e.purpose, deck := d, status := .awaiting }) _ rfl]
  rw [show (e.onto d).number = e.number from rfl, State.modEntry_modEntry _ _ (fun x => x.onto d) _ fun _ => id]
  rfl

theorem State.entryPassageReport_none {s : State} {d : Deck} {n : Nat}
    (h : ∀ e, s.recs.find n = some e → e.state ≠ .admitted ∧ e.state ≠ .recalled) :
    s.entryPassageReport d n = s.raise [.exitReleaseAtArbiter d none] := by
  unfold State.entryPassageReport
  split
  · rfl
  · next e he =>
    obtain ⟨h1, h2⟩ := h e he
    rw [if_neg (not_or.mpr ⟨h1, h2⟩)]
    rfl

theorem State.entryPassageReport_some {s : State} {d : Deck} {n : Nat} {e : Entry} (he : s.recs.find n = some e)
    (hs : e.state = .admitted ∨ e.state = .recalled) :
    s.entryPassageReport d n =
      if e.cancelling then (s.modEntry n fun x => x.onto d).cancelOnDeck (e.onto d)
      else s.modEntry n fun x => x.onto d := by
  simp [State.entryPassageReport, he, hs]

/-- What the weighing of an undecided pass brings, by its purpose (R10). -/
theorem State.afterWeighing_eq (s : State) (r : CaptureResult) (e : Entry) (ps : Pass) (w : Weighing)
    (hn : e.number = r.number) :
    (s.modEntry e.number fun _ => e.captured ps w).afterWeighing (e.captured ps w) r ps.purpose =
      match ps.purpose with
      | .first =>
          (s.modEntry r.number fun _ => { e.captured ps w with departure := some .toYard }).raise
            [.exitReleaseAtArbiter r.deck (some r.number)]
      | .split m =>
          (s.modEntry r.number fun _ => { e.captured ps w with lines := e.lines ++ [m], departure := some .toYard }).raise
            [.exitReleaseAtArbiter r.deck (some r.number)]
      | .final => (s.modEntry r.number fun _ => e.captured ps w).attemptClosure (e.captured ps w)
      | .gross => (s.modEntry r.number fun _ => e.captured ps w).attemptClosure (e.captured ps w)
      | .tare =>
          (((s.modEntry r.number fun _ => e.captured ps w).tareCompletion (e.captured ps w) r).modEntry r.number fun y =>
            { y with departure := some .discharged }).raise [.exitReleaseAtArbiter r.deck (some r.number)] := by
  have hnum : (e.captured ps w).number = e.number := rfl
  rw [← hn]
  cases ps.purpose with
  | first =>
    simp only [State.afterWeighing, State.giveRelease, hnum]
    rw [State.modEntry_modEntry _ _ (fun _ => e.captured ps w) _ fun _ _ => hnum]
    rfl
  | split m =>
    simp only [State.afterWeighing, State.giveRelease, hnum]
    rw [State.modEntry_modEntry _ _ (fun _ => e.captured ps w) _ fun _ _ => hnum]
    rfl
  | final => rfl
  | gross => rfl
  | tare => simp only [State.afterWeighing, State.giveRelease, hnum]

theorem State.captureCompletion_eq {s : State} {r : CaptureResult} {e : Entry} {ps : Pass}
    (he : s.recs.find r.number = some e) (hp : e.pass = some ps) :
    s.captureCompletion r =
      if e.state ≠ .onDeck ∨ ps.deck ≠ r.deck ∨ e.departure.isSome ∨ (ps.status = .done ∧ e.closurePending = false) then s
      else if ps.status = .done then
        (s.modEntry r.number fun _ => { e with weighings := e.weighings.dropLast ++ [s.weighing r] }).attemptClosure
          { e with weighings := e.weighings.dropLast ++ [s.weighing r] }
      else
        (s.modEntry e.number fun _ => e.captured ps (s.weighing r)).afterWeighing (e.captured ps (s.weighing r)) r
          ps.purpose := by
  have hn := Records.number_of_find he
  unfold State.captureCompletion
  simp only [he]
  split
  · next h => simp [hp] at h
  next p h =>
  cases hp.symm.trans h
  by_cases hgo : e.state ≠ .onDeck ∨ ps.deck ≠ r.deck ∨ e.departure.isSome = true
  · rw [if_pos hgo, if_pos (by tauto)]
  · rw [if_neg hgo]
    by_cases hst : ps.status = .done
    · by_cases hc : e.closurePending = true
      · rw [if_pos hst, if_pos hc, if_neg (by simp only [hc]; tauto), if_pos hst, hn]
      · rw [if_pos hst, if_neg hc, if_pos (by simp_all)]
    · rw [if_neg hst, if_neg (by tauto), if_neg hst]; rfl

theorem State.captureCompletion_no_pass {s : State} {r : CaptureResult}
    (h : (s.recs.find r.number).bind Entry.pass = none) : s.captureCompletion r = s := by
  unfold State.captureCompletion
  cases he : s.recs.find r.number with
  | none => rfl
  | some e =>
    have hp : e.pass = none := by simpa [he] using h
    simp [hp]

theorem Entry.failable_iff {e : Entry} :
    e.failable = true ↔ e.state = .onDeck ∧ e.departure = none ∧ ∃ ps, e.pass = some ps ∧ ps.status ≠ .done := by
  simp [Entry.failable, Option.any_eq_true, and_assoc]

end Sys2Proof.Machine

open Sys2Proof Sys2Proof.Machine

/-- Settles O22, by the entry that the report finds and by the table of purposes. -/
theorem entryPassageTakesItsPass : Obligations.EntryPassageTakesItsPass := by
  refine ⟨fun s d number hrun => ⟨fun hnone => ?_, fun e he hs => ?_⟩, fun e d => ⟨rfl, ?_, ?_, ?_, ?_, ?_⟩⟩
  · exact (exec_entryPassageReport ..).trans
      (event_after s _ _ _ hrun (State.entryPassageReport_none (by rw [State.recs_consume]; exact hnone)))
  · refine (exec_entryPassageReport ..).trans (event_after s _ _ _ hrun ?_)
    rw [State.entryPassageReport_some (by rw [State.recs_consume, he]) hs]
    obtain rfl := Records.number_of_find he
    split
    · exact State.cancelOnDeck_onto _ e d
    · rfl
  · exact Entry.purpose_tareOnly
  · exact Entry.purpose_storedTare
  · exact Entry.purpose_first
  · exact fun m o hm hw hr => Entry.purpose_split hm hw hr
  · exact fun o hm hw hr => Entry.purpose_final hm hw (by simp [hr])

/-- Settles O23, by what each report finds of its entry. -/
theorem captureReportsAtTheRecords : Obligations.CaptureReportsAtTheRecords := by
  refine ⟨?_, fun s hrun => ⟨fun r hr => ?_, fun d number reason => ?_, fun d number => ?_⟩⟩
  · intro s r e ps hrun c w e₁ e₂ he hp
    refine (exec_recordsCaptureCompletion ..).trans (event_after s _ _ _ hrun ?_)
    rw [State.captureCompletion_eq (by rw [State.recs_consume, he]) hp,
      State.afterWeighing_eq _ _ _ _ _ (Records.number_of_find he)]
    rfl
  · exact (exec_recordsCaptureCompletion ..).trans
      (event_after s _ _ id hrun (State.captureCompletion_no_pass (by rw [State.recs_consume, hr])))
  · refine (exec_recordsCaptureFailure ..).trans (event_after s _ _ _ hrun ?_)
    unfold State.captureFailure
    congr 1
    funext e
    by_cases hf : e.failable = true
    · obtain ⟨hs, hd, ps, hp, hst⟩ := Entry.failable_iff.mp hf
      simp [hf, hs, hd, hp, hst]
    · rw [if_neg hf]
      split
      · next ps hs hd hp =>
        exact (if_pos (by_contra fun hst => hf (Entry.failable_iff.mpr ⟨hs, hd, ps, hp, hst⟩))).symm
      · rfl
  · refine (exec_exitPassageReport ..).trans (event_after s _ _ _ hrun ?_)
    unfold State.exitPassageReport
    rw [State.recs_consume]
    cases s.recs.find number with
    | none => rfl
    | some e => rfl
end

section
/-! SUPPORT. Closures, the nets of a ticket, and its place in the log (R12 to R15, R39 to R43, R48). -/

namespace Sys2Proof.Machine

/-! ### The nets -/

/-- The differences of neighbouring weights telescope. -/
theorem sum_differences (ws : List Int) : (ws.zipWith (· - ·) ws.tail).sum = ws.headD 0 - ws.getLastD 0 := by
  induction ws with
  | nil => rfl
  | cons a ws ih =>
    cases ws with
    | nil => simp
    | cons b ws =>
      have hstep : ((a :: b :: ws).zipWith (· - ·) (b :: ws)).sum = a - b + ((b :: ws).zipWith (· - ·) ws).sum := by simp
      rw [List.tail_cons] at ih ⊢
      rw [hstep, ih]
      simp

theorem Entry.lineNets_getElem? {e : Entry} {i m : Nat} {a b : Int} (hm : e.lines[i]? = some m)
    (ha : e.weights[i]? = some a) (hb : e.weights[i + 1]? = some b) : e.lineNets[i]? = some (m, a - b) := by
  simp [Entry.lineNets, List.getElem?_zip_eq_some, List.getElem?_zipWith, hm, ha, hb]

theorem Entry.lineNets_length {e : Entry} (h : e.weights.length = e.lines.length + 1) :
    e.lineNets.length = e.lines.length := by
  simp [Entry.lineNets, h]

theorem Entry.sum_lineNets {e : Entry} (h : e.weights.length = e.lines.length + 1) :
    (e.lineNets.map Prod.snd).sum = e.weights.headD 0 - e.weights.getLastD 0 := by
  rw [Entry.lineNets, List.map_snd_zip (by simp [h]), sum_differences]

theorem Entry.totalNet_eq (e : Entry) : e.totalNet = |e.weights.headD 0 - e.weights.getLastD 0| := by
  simp [Entry.totalNet, Entry.firstWeight, Entry.lastWeight, List.getLastD_eq_getLast?]

theorem Entry.totalNet_nonneg (e : Entry) : 0 ≤ e.totalNet := abs_nonneg _

theorem Entry.totalNet_eq_sum {e : Entry} (h : e.weights.length = e.lines.length + 1) :
    e.totalNet = |(e.lineNets.map Prod.snd).sum| := by
  rw [e.totalNet_eq, Entry.sum_lineNets h]

theorem Entry.direction_eq (e : Entry) :
    e.direction =
      if e.weights.getLastD 0 ≤ e.weights.headD 0 then .inboundDelivery else .outboundCollection := by
  simp only [Entry.direction, Entry.firstWeight, Entry.lastWeight, List.getLastD_eq_getLast?, List.headD_eq_head?_getD]
  rfl

theorem Entry.direction_inbound_iff (e : Entry) :
    e.direction = .inboundDelivery ↔ e.weights.getLastD 0 ≤ e.weights.headD 0 := by
  rw [e.direction_eq]
  split
  · next h => exact iff_of_true rfl h
  · next h => exact iff_of_false (by decide) h

theorem Entry.ticketClass_eq (e : Entry) :
    e.ticketClass =
      if (∃ w ∈ e.weighings, w.cls = .indicative) ∨ (∃ k, e.snapshot = some k ∧ k.cls = .indicative) then .indicative
      else .approved := by
  simp [Entry.ticketClass, Option.any_eq_true]

/-! ### Closures -/

theorem Records.freeSlot_eq_false (r : Records) :
    r.freeSlot = false ↔ 512 ≤ r.log.length ∧ r.log.head?.all (fun k => !k.collected) = true := by
  unfold Records.freeSlot
  rw [Bool.or_eq_false_iff, decide_eq_false_iff_not, Nat.not_lt]
  cases r.log.head? with
  | none => simp [Config.logMax]
  | some k => simp [Config.logMax]

theorem State.attemptClosure_blocked {s : State} {e : Entry} {b : BlockReason} (h : s.recs.closureBlock e = some b) :
    s.attemptClosure e =
      if e.blocked = some b then s.modEntry e.number fun x => { x with closurePending := true, blocked := some b }
      else (s.modEntry e.number fun x => { x with closurePending := true, blocked := some b }).post .records
        (.closureBlocked e.number (e.pass.map Pass.deck) b) := by
  simp only [State.attemptClosure, h]
  rfl

theorem State.attemptClosure_onDeck {s : State} {e : Entry} {ps : Pass} {n : Nat} (h : s.recs.closureBlock e = none)
    (hn : s.recs.counter = some n) (hp : e.pass = some ps) :
    s.attemptClosure e =
      ((s.issue e.content).modEntry e.number fun x =>
        { x with closurePending := false, blocked := none, departure := some (.closed n) }).raise
          [.exitReleaseAtArbiter ps.deck (some e.number)] := by
  simp only [State.attemptClosure, h, Entry.passDeck, hp, Records.nextTicket, hn]
  rfl

theorem State.attemptClosure_inYard {s : State} {e : Entry} (h : s.recs.closureBlock e = none) (hp : e.pass = none) :
    s.attemptClosure e = (s.issue e.content).dropEntry e.number := by
  simp [State.attemptClosure, h, Entry.passDeck, hp]

theorem State.issue_eq {s : State} {n : Nat} {now : DateTime} (k : Ticket) (hn : s.recs.counter = some n)
    (hk : s.recs.clock = some now) :
    s.issue k =
      let log := roomInLog s.recs.log ++
        [{ k with number := n, seqStart := s.recs.seqStart, voided := false, collected := false, issued := now }]
      let t := (s.modRecs fun x => { x with log := log, counter := some (succTicket n), seqStart := false }).post .records
        (.ticketIssued n k.body.isVoid k.transaction)
      if (uncollected s.recs.log).length < Config.nearFull ∧ Config.nearFull ≤ (uncollected log).length then
        t.post .records (.logNearFull (uncollected log).length (((uncollected log).head?.map Ticket.number).getD n))
      else t := by
  have hnext : s.recs.nextTicket = n := by simp [Records.nextTicket, hn]
  have hnow : s.recs.issueTime = now := by simp [Records.issueTime, hk]
  have hmod : ∀ log, (s.modRecs fun r => { r with log := log, counter := some (succTicket r.nextTicket), seqStart := false })
      = s.modRecs fun x => { x with log := log, counter := some (succTicket n), seqStart := false } :=
    fun log => congrArg (fun r => s.modRecs fun _ => r) (by rw [← hnext, State.recs])
  simp only [State.issue, hnext, hnow, hmod]

theorem Records.getLast?_issued (r : Records) (k : Ticket) : (r.issued k).log.getLast? = some (r.stamp k) := by
  simp [Records.issued]

end Sys2Proof.Machine

open Sys2Proof Sys2Proof.Machine

/-- Settles O24, from the equations of an attempt, of the nets and of an issue. -/
theorem closureIssuesATicketOrIsBlocked : Obligations.ClosureIssuesATicketOrIsBlocked := by
  refine ⟨fun s e => ⟨fun b hb => State.attemptClosure_blocked hb, ?_, fun n h hn => ?_⟩,
    fun s => ⟨s.recs.entries.filter Entry.retried, rfl, List.filter_sublist, fun e he => ?_⟩,
    fun e => ⟨⟨rfl, rfl, rfl, rfl, rfl, ?_, e.ticketClass_eq⟩, fun h => ⟨fun _ _ _ _ => Entry.lineNets_getElem?,
      Entry.sum_lineNets h, Entry.totalNet_eq_sum h, e.totalNet_nonneg, e.direction_inbound_iff, rfl⟩⟩,
    fun s k n now hn hk => ?_⟩
  · simp only [Records.closureBlock_eq, Records.freeSlot_eq_false]
  · split
    · next ps hp => exact State.attemptClosure_onDeck h hn hp
    · next hp => exact State.attemptClosure_inYard h hp
  · rw [List.mem_filter, and_iff_right he, Entry.retried_iff]
  · rw [Entry.weights]
    cases e.snapshot <;> rfl
  · rw [State.issue_eq k hn hk]
    rcases k.body with _ | _ <;> rfl

/-- Settles O25: both forms in which an entry closes have one weight more than lines. -/
theorem netsAtClosure : Obligations.NetsAtClosure := by
  intro e
  refine ⟨fun _ hs _ hlen => ?_, fun w k m _ hw hk hm => ?_, e.totalNet_nonneg, fun s => ?_⟩
  · have hweights : e.weights = e.weighings.map Weighing.weight := by simp [Entry.weights, hs]
    have h : e.weights.length = e.lines.length + 1 := by rw [hweights, List.length_map, hlen]
    refine ⟨Entry.lineNets_length h, fun i m a b hm ha hb => ?_, fun a b ha hb => ?_⟩
    · exact Entry.lineNets_getElem? hm (by simp [hweights, ha]) (by simp [hweights, hb])
    · have hfirst : e.weights.headD 0 = a.weight := by simp [hweights, ha]
      have hlast : e.weights.getLastD 0 = b.weight := by simp [hweights, List.getLastD_eq_getLast?, hb]
      exact ⟨by rw [e.totalNet_eq, hfirst, hlast], Entry.totalNet_eq_sum h, by rw [e.direction_eq, hfirst, hlast]⟩
  · have hweights : e.weights = [w.weight, k.weight] := by simp [Entry.weights, hw, hk]
    have h : e.weights.length = e.lines.length + 1 := by simp [hweights, hm]
    refine ⟨by simp [Entry.lineNets, hweights, hm], ?_, Entry.totalNet_eq_sum h, ?_⟩
    · rw [e.totalNet_eq, hweights]
      rfl
    · rw [e.direction_eq, hweights]
      rfl
  · exact ⟨s.recs.stamp e.content, by rw [State.recs_issue, Records.getLast?_issued], rfl, rfl⟩
end

section
/-! SUPPORT. The arbiter's pending records: filings, withdrawals, and the order of the choice (R109 to R112). -/

namespace Sys2Proof.Machine

/-! ### A change of deck state -/

theorem State.modArb_const (s : State) (d : Deck) (f : Arbiter → Arbiter) :
    (s.modArb d fun _ => f (s.arb d)) = s.modArb d f := by
  cases d <;> rfl

theorem State.changeArb_of_ne {s : State} {d : Deck} {f : Arbiter → Arbiter} (h : (s.arb d).state ≠ (f (s.arb d)).state) :
    s.changeArb d f =
      ((s.modArb d f).post (.arbiter d)
        (.deckState d (s.arb d).state (f (s.arb d)).state (f (s.arb d)).who)).flag .decks := by
  simp only [State.changeArb, if_neg h, State.modArb_const]

theorem Arbiter.dropLane_eq (a : Arbiter) (l : Lane) :
    a.dropLane l =
      { a.setSlot l none with
        offer := match a.offer with
          | none => none
          | some o => if o.lane = l then none else some o } := by
  unfold Arbiter.dropLane
  cases h : a.offer <;> simp

/-! ### The order of the choice -/

theorem Pending.eligible_iff (p : Pending) (m : YardMode) :
    p.eligible m = true ↔ m = .open ∨ m = .closing ∧ p.kind = .recall := by
  unfold Pending.eligible
  cases m <;> cases p.kind <;> simp

theorem Lane.mem_all (l : Lane) : l ∈ Lane.all := by
  revert l
  decide

theorem State.mem_eligible {s : State} {d : Deck} {l : Lane} {p : Pending} :
    (l, p) ∈ s.eligible d ↔ (s.arb d).slots.get l = some p ∧ p.eligible (s.modeAt (.arbiter d)) = true := by
  simp only [State.eligible, Arbiter.slot, List.mem_filterMap, Lane.mem_all, true_and, Option.map_eq_some_iff,
    Option.filter_eq_some_iff, Prod.mk.injEq]
  constructor
  · rintro ⟨_, _, h, rfl, rfl⟩
    exact h
  · exact fun h => ⟨l, p, h, rfl, rfl⟩

theorem wins_iff (last : Option Lane) (l l' : Lane) (p p' : Pending) :
    wins last (l, p) (l', p') = true ↔
      p'.priority < p.priority ∨ (p'.priority = p.priority ∧ (p.time < p'.time ∨ (p.time = p'.time ∧
        (last = some l' ∧ last ≠ some l ∨ (last = some l ↔ last = some l') ∧ l < l')))) := by
  unfold wins
  by_cases hp : p.priority = p'.priority
  · by_cases ht : p.time = p'.time
    · rw [if_neg (by simpa using hp), if_neg (by simpa using ht)]
      simp only [hp, ht, lt_irrefl, true_and, false_or]
      have hsame : (last == some l) = (last == some l') ↔ (last = some l ↔ last = some l') := by
        rw [Bool.eq_iff_iff, beq_iff_eq, beq_iff_eq]
      split
      · next h =>
        rw [Ne, hsame] at h
        rw [beq_iff_eq]
        tauto
      · next h =>
        rw [not_not, hsame] at h
        rw [decide_eq_true_eq]
        tauto
    · simp [hp, ht]
  · have hp' : p'.priority ≠ p.priority := fun h => hp h.symm
    simp [hp, hp']

/-- Of two records at two lanes at most one wins over the other. -/
theorem wins_asymm {last : Option Lane} {l l' : Lane} {p p' : Pending} (h : wins last (l, p) (l', p') = true) :
    wins last (l', p') (l, p) = false := by
  rw [← Bool.not_eq_true, wins_iff]
  rw [wins_iff] at h
  have hlt : l < l' → ¬ l' < l := fun h => not_lt.mpr h.le
  by_cases htie : p.priority = p'.priority ∧ p.time = p'.time
  · simp only [htie, lt_irrefl, true_and, false_or] at h ⊢
    tauto
  · omega

theorem winner_mem {last : Option Lane} {w : Lane × Pending} {xs : List (Lane × Pending)} (h : winner last xs = some w) :
    w ∈ xs := by
  induction xs generalizing w with
  | nil => simp [winner] at h
  | cons a xs ih =>
    rw [winner] at h
    split at h
    · simp_all
    · next b hb =>
      have hmem := ih hb
      cases h
      split <;> simp [hmem]

/-- The record that wins over every other one is the winner. -/
theorem winner_eq {last : Option Lane} {w : Lane × Pending} {xs : List (Lane × Pending)} (hw : w ∈ xs)
    (hbest : ∀ x ∈ xs, x ≠ w → wins last w x = true ∧ wins last x w = false) : winner last xs = some w := by
  induction xs with
  | nil => cases hw
  | cons a xs ih =>
    rw [winner]
    have hrest : ∀ x ∈ xs, x ≠ w → wins last w x = true ∧ wins last x w = false :=
      fun x hx => hbest x (List.mem_cons_of_mem a hx)
    by_cases hin : w ∈ xs
    · rw [ih hin hrest]
      by_cases ha : a = w
      · simp [ha]
      · simp [(hbest a (by simp) ha).1]
    · obtain rfl : w = a := (List.mem_cons.mp hw).resolve_right hin
      split
      · rfl
      · next b hb =>
        have hmem := winner_mem hb
        have hne : b ≠ w := fun h => hin (h ▸ hmem)
        simp [(hrest b hmem hne).2]

theorem State.deckConditions_iff (s : State) (d : Deck) :
    s.deckConditions d = true ↔
      s.supplyAt (.arbiter d) ≠ .supplyLow ∧ (s.eng d).state ≠ .off ∧ s.boomAtArbiter d.entry = .down := by
  simp [State.deckConditions, State.lowAt, and_assoc]

theorem State.makeChoice_none {s : State} {d : Deck}
    (h : (s.arb d).state = .free → (s.arb d).offer = none → s.deckConditions d = true → s.eligible d = []) :
    s.makeChoice d = s := by
  by_cases hs : (s.arb d).state = .free ∧ (s.arb d).offer = none ∧ s.deckConditions d = true
  · obtain ⟨hfree, ho, hc⟩ := hs
    simp [State.makeChoice, h hfree ho hc, winner]
  · have hno : (s.arb d).state ≠ .free ∨ (s.arb d).offer.isSome = true ∨ s.deckConditions d = false := by
      rw [Option.isSome_iff_ne_none, ← Bool.not_eq_true]
      tauto
    simp only [State.makeChoice, if_pos hno]

theorem State.makeChoice_some {s : State} {d : Deck} {l : Lane} {p : Pending} (hs : (s.arb d).state = .free)
    (ho : (s.arb d).offer = none) (hc : s.deckConditions d = true)
    (hw : winner (s.arb d).last (s.eligible d) = some (l, p)) :
    s.makeChoice d =
      (s.modArb d fun a => { a with offer := some { lane := l, number := p.number } }).raise
        [.offerAtLane l d p.number] := by
  simp [State.makeChoice, hs, ho, hc, hw]

end Sys2Proof.Machine

open Sys2Proof Sys2Proof.Machine

/-- Settles O38: a grant stands in its proceed interval exactly while its timer runs, and the winner is the one record
that wins over every other. -/
theorem filingsAndChoice : Obligations.FilingsAndChoice := by
  refine ⟨fun s d l hrun hlaw => ⟨fun number kind priority => ?_, ?_⟩, ?_⟩
  · exact (exec_filing ..).trans (event_after s _ _ _ hrun rfl)
  · refine (exec_withdrawal ..).trans (event_after s _ _ _ hrun ?_)
    unfold State.withdrawal
    simp only [State.arb_consume, Arbiter.dropLane_eq]
    cases hg : (s.arb d).grant with
    | none => rfl
    | some g =>
      have htimer : g.arrived = true ↔ g.timer = none := by simp [hlaw.timer g hg]
      have hgranted : (s.arb d).state = .granted := hlaw.grant.mp (by simp [hg])
      dsimp only
      split
      · rfl
      · next hl =>
        simp only [htimer]
        split
        · rfl
        · rw [State.changeArb_of_ne (by simp [Arbiter.setSlot, hgranted])]
          simp [Arbiter.setSlot, hgranted, Arbiter.who] <;> rfl
  · intro s d hrun _ c
    have hconditions : s.supplyAt (.arbiter d) = .normal ↔ s.supplyAt (.arbiter d) ≠ .supplyLow := by
      cases s.supplyAt (.arbiter d) <;> simp
    refine ⟨fun hnot => ?_, fun hnot => ?_, fun l p hfree hslot he hbest => ?_⟩
    · refine (exec_choice ..).trans (event_after s _ _ id hrun (State.makeChoice_none fun hs ho hc => ?_))
      obtain ⟨hsupply, hengine, hboom⟩ := (s.deckConditions_iff d).mp hc
      exact absurd ⟨hs, ho, hconditions.mpr hsupply, hengine, hboom⟩ hnot
    · refine (exec_choice ..).trans (event_after s _ _ id hrun (State.makeChoice_none fun _ _ _ => ?_))
      rw [State.eligible_consume, List.eq_nil_iff_forall_not_mem]
      rintro ⟨l, p⟩ hmem
      obtain ⟨hslot, he⟩ := State.mem_eligible.mp hmem
      exact hnot l p hslot ((p.eligible_iff _).mp he)
    · obtain ⟨hs, ho, hsupply, hengine, hboom⟩ := hfree
      refine (exec_choice ..).trans (event_after s _ _ _ hrun (State.makeChoice_some hs ho
        ((s.deckConditions_iff d).mpr ⟨hconditions.mp hsupply, hengine, hboom⟩) (winner_eq ?_ ?_)))
      · exact State.mem_eligible.mpr ⟨hslot, (p.eligible_iff _).mpr he⟩
      · rintro ⟨l', p'⟩ hmem hne
        obtain ⟨hslot', he'⟩ := State.mem_eligible.mp hmem
        have hl : l' ≠ l := by
          rintro rfl
          exact hne (by rw [Option.some.inj (hslot.symm.trans hslot')])
        have hwins := (wins_iff (s.arb d).last l l' p p').mpr (hbest l' p' hl hslot' ((p'.eligible_iff _).mp he'))
        exact ⟨hwins, wins_asymm hwins⟩
end

section
/-! SUPPORT. The readouts: each answers what its block holds and changes nothing (R4, R63, R83, R88, R123, R128, R142, R167). -/

namespace Sys2Proof.Machine

/-! ### Operands that name no deck -/

theorem deckOf_of_ge {n : Nat} (h : 2 ≤ n) : deckOf n = none := by
  obtain ⟨k, rfl⟩ := Nat.exists_eq_add_of_le' h; rfl

theorem deckOf_ne_all {n : Nat} {d : Deck} (h : deckOf n = some d) : n ≠ 4294967295 := by
  rintro rfl
  rw [deckOf_of_ge (by omega)] at h
  cases h

/-! ### What the lines of the readouts hold -/

theorem State.tickSource_eq (s : State) : s.tickSource = if s.sup.monitor = .locked then .reference else .backup := by
  unfold State.tickSource State.sup
  cases s.main.sup.monitor <;> rfl

theorem State.toggles_eq (s : State) (b : Barrier) :
    s.toggles b = ((s.bar b).state != .fault && s.supplyAt (.barrier b) == .normal) := by
  unfold State.toggles State.lowAt
  cases s.supplyAt (.barrier b) <;> rfl

/-- The service values of a deck stand under one presence byte (R83). -/
theorem service_eq (g : Engine) (zd : Int) (closed : Bool) :
    optional (fun zd => serviceBytes zd g.latest) (if closed then some zd else none) =
      if closed then
        [1#8] ++ s32 zd ++ optional s32 (g.latest.bind Reading.graw) ++ optional s32 (g.latest.bind Reading.gz)
          ++ optional s32 (g.latest.bind Reading.gf)
      else [0#8] := by
  cases closed
  · rfl
  · simp [optional, serviceBytes, List.append_assoc]
    rfl

@[simp] theorem State.lampLineBytes_handed (s : State) (c : Instr) (q : Sender) (l : Lane) :
    (s.handed c q).lampLineBytes l = s.lampLineBytes l := by
  unfold State.handed; split <;> rfl

end Sys2Proof.Machine

open Sys2Proof Sys2Proof.Machine

/-- Settles O60, readout by readout, from the lines that each of them holds. -/
theorem readoutsChangeNothing : Obligations.ReadoutsChangeNothing := by
  refine ⟨fun s q role => ⟨fun h => ?_, fun number h => ?_, fun plate h => ?_⟩, fun s q role => ?_⟩
  · exact request_answered s _ q _ role id _ h (by simp [serveListYard])
  · refine request_answered s _ q _ role id _ h ?_
    simp only [serveReadTransaction, State.recs_handed]
    cases s.recs.find number <;> rfl
  · refine request_answered s _ q _ role id _ h ?_
    simp only [serveFindPlate, State.recs_handed]
    cases s.recs.findPlate (trimPlate plate) <;> rfl
  · intro window channel source input
    have hsource : source = tickMarkByte s.tickSource := by rw [s.tickSource_eq]
    refine ⟨fun deck d hd => ⟨?_, ?_, ?_, ?_⟩, fun deck hdeck c hc h => ?_, fun deck hdeck hall => ?_,
      fun lane hlane => ?_, ?_, ?_, fun lane l hl => ?_, ?_⟩
    · intro c x g reading h
      refine request_answered s c q _ role id _ h ?_
      simp only [serveReadDeck, hd, State.readout_handed, id]
      rw [State.readout, service_eq]
      rfl
    · intro c h
      refine request_answered s c q _ role id _ h ?_
      simp only [serveReadCapture, hd, State.eng_handed, State.deckCfg_handed]
      rfl
    · intro c a h
      refine request_answered s c q _ role id _ h ?_
      simp only [serveReadDeckState, hd, State.arb_handed, State.deckCfg_handed, State.deckConditions_handed,
        State.deckEmptyCondition_handed]
      rfl
    · intro c h
      refine request_answered s c q _ role id _ h ?_
      simp only [serveReadChannels, Config.namedChoice, if_neg (deckOf_ne_all hd), hd, State.ms_handed,
        State.tickSource_handed, funext (State.deckWindows_handed s c q), State.channelSet_handed,
        funext (State.channelLine_handed s c q)]
      rw [hsource]
      rfl
    · simp only [List.mem_cons, List.not_mem_nil, or_false] at hc
      rcases hc with rfl | rfl | rfl
      · exact request_refused s _ q _ role _ h (by simp [serveReadDeck, deckOf_of_ge hdeck])
      · exact request_refused s _ q _ role _ h (by simp [serveReadCapture, deckOf_of_ge hdeck])
      · exact request_refused s _ q _ role _ h (by simp [serveReadDeckState, deckOf_of_ge hdeck])
    · intro c h
      exact request_refused s c q _ role _ h (by simp [serveReadChannels, Config.namedChoice, hall, deckOf_of_ge hdeck])
    · intro c h
      exact request_refused s c q _ role _ h (by simp [serveReadLane, laneOf_of_ge hlane])
    · intro c h
      refine request_answered s c q _ role id _ h ?_
      simp only [serveReadChannels, Config.namedChoice, if_true, State.ms_handed,
        State.tickSource_handed, funext (State.deckWindows_handed s c q), funext (State.channelLine_handed s c q)]
      rw [hsource]
      rfl
    · intro c h
      refine request_answered s c q _ role id _ h ?_
      simp only [serveReadInputs, funext (State.inputLine_handed s c q)]
      rfl
    · intro c w x h
      refine request_answered s c q _ role id _ h ?_
      simp only [serveReadLane, hl, State.lane_handed, State.laneCfg_handed, State.inputLine_handed,
        State.lampLineBytes_handed, State.backup_handed]
      rfl
    · intro c h
      refine request_answered s c q _ role id _ h ?_
      simp only [serveReadBarriers, funext (State.barrierLine_handed s c q), id]
      refine congrArg (fun line => (s.handed c q, Reply.ok (items line Barrier.all))) (funext fun b => ?_)
      unfold State.barrierLine limitByte
      simp only [State.toggles_eq]
end

section
/-! SUPPORT. The close of a step: the lamps, the flags of the change latches, and what the lamps and the drives show (R144 to
R146, R149). -/

namespace Sys2Proof.Machine

/-! ### The lamps that a step settles -/

theorem State.lamps_judgeLamps (s : State) (l : Lane) : ((s.judgeLamps l).lane l).lamps = s.judged l := by
  rw [State.judgeLamps, State.lane_modLane_self]
  rfl

theorem State.lane_judgeLamps_ne (s : State) {l k : Lane} (h : l ≠ k) : (s.judgeLamps k).lane l = s.lane l :=
  State.lane_modLane_ne s k _ h

/-- The lamps of a lane read the state of no other lane. -/
theorem State.judged_judgeLamps_ne (s : State) {l k : Lane} (h : l ≠ k) : (s.judgeLamps k).judged l = s.judged l := by
  have hsource : ∀ x, (s.judgeLamps k).lampSource l x = s.lampSource l x := by
    intro x
    cases x <;> simp only [State.lampSource, s.lane_judgeLamps_ne h] <;> rfl
  simp only [State.judged, s.lane_judgeLamps_ne h, hsource]
  rfl

/-- Each lane of a list without repetitions judges its lamps once. -/
theorem State.lamps_foldl_judgeLamps (stale : Lane → Bool) (l : Lane) (ls : List Lane) (hls : ls.Nodup) (s : State) :
    ((ls.foldl (fun s k => if stale k then s.judgeLamps k else s) s).lane l).lamps =
      if l ∈ ls ∧ stale l = true then s.judged l else (s.lane l).lamps := by
  induction ls generalizing s with
  | nil => rfl
  | cons k ls ih =>
    rw [List.nodup_cons] at hls
    rw [List.foldl_cons, ih hls.2]
    by_cases hk : l = k
    · subst hk
      simp only [hls.1, false_and, if_false, List.mem_cons_self, true_and]
      split
      · exact s.lamps_judgeLamps l
      · rfl
    · cases stale k <;> simp [hk, s.judged_judgeLamps_ne hk, s.lane_judgeLamps_ne hk]

theorem settleLamps_lamps (old new : State) (l : Lane) :
    ((settleLamps old new).lane l).lamps = if lampsStale old new l then new.judged l else (new.lane l).lamps := by
  rw [settleLamps, State.lamps_foldl_judgeLamps _ l _ (by decide)]
  simp [Lane.mem_all]

@[simp] theorem State.lane_flagIf (s : State) (b : Bool) (f : Flag) (l : Lane) : (s.flagIf b f).lane l = s.lane l := by
  cases b <;> rfl

@[simp] theorem State.lane_judgeAlarm (s : State) (l : Lane) : s.judgeAlarm.lane l = s.lane l := by
  unfold State.judgeAlarm
  split <;> rfl

theorem State.lamps_settle (old new : State) (l : Lane) :
    ((State.settle old new).lane l).lamps = if lampsStale old new l then new.judged l else (new.lane l).lamps := by
  simp [State.settle, settleFlags, settleLamps_lamps]

/-! ### What else the close of a step leaves and makes -/

theorem State.backup_settle (old new : State) : (State.settle old new).backup = new.backup := by
  calc (State.settle old new).backup = (State.settle old new).inner.backup := rfl
    _ = new.inner.backup := by rw [State.inner_settle]
    _ = new.backup := rfl

theorem State.incoming_settle (old new : State) (p : Port) :
    ((State.settle old new).port p).incoming = (new.port p).incoming ++
      (if new.sup.alarm = new.alarming.any then [] else
        [{ block := .supervisor, body := .alarmLine new.alarming.any new.alarming, at_ := new.ms, origin := none }]) := by
  have hms : (settleLamps old new).ms = new.ms := congrArg Supervisor.ms (settleLamps_sup old new)
  simp [State.settle, settleFlags, State.incoming_judgeAlarm, settleLamps_port, settleLamps_sup, settleLamps_alarming, hms]

theorem State.follows_flagIf (old s : State) (b : Bool) (f g : Flag) : old.follows (s.flagIf b f) g = old.follows s g := by
  cases b
  · rfl
  · cases g <;> rfl

theorem State.follows_seal (old s : State) (g : Flag) : old.follows s.seal g = old.follows s g := by cases g <;> rfl

theorem settleFlags_follows (old s : State) (g : Flag) : old.follows (settleFlags old s) g = old.follows s g := by
  simp only [settleFlags, State.follows_flagIf]

theorem settleFlags_holds (old s : State) (p : Port) (f : Flag) :
    ((settleFlags old s).port p).latch.holds f = ((s.port p).latch.holds f || old.follows s f) := by
  simp only [settleFlags, State.holds_flagIf]
  cases f <;> simp [State.follows]

theorem State.latch_settle (old new : State) (p : Port) (f : Flag) :
    ((State.settle old new).port p).latch.holds f =
      ((new.port p).latch.holds f || old.follows (State.settle old new) f) := by
  rw [State.settle, State.port_seal, settleFlags_holds, State.follows_seal, settleFlags_follows, State.latch_judgeAlarm,
    settleLamps_port]

/-! ### Lamps and their lines -/

theorem Feed.mem_decks {f : Feed} {d : Deck} : d ∈ f.decks ↔ f.has d = true := by
  cases f <;> cases d <;> decide

theorem State.lampLine_eq (s : State) (l : Lane) (k : Lamp) :
    s.lampLine l k = if s.backup.lampInvert = true then !s.lampOutput l k else s.lampOutput l k := by
  unfold State.lampLine
  cases s.backup.lampInvert <;> cases s.lampOutput l k <;> rfl

theorem LampWork.take_eq (w : LampWork) (stretch : Nat) (v : Bool) :
    w.take stretch v =
      if v = w.value then w
      else if v = true then { value := true, stretch := none }
      else { value := false, stretch := if 0 < stretch then some stretch else none } := by
  unfold LampWork.take
  congr 2
  cases stretch <;> simp

end Sys2Proof.Machine

open Sys2Proof Sys2Proof.Machine

/-- Settles O4, from what the close of a step does to each component. -/
theorem closeOfAStep : Obligations.CloseOfAStep := by
  refine ⟨fun old new => ?_, fun s l => ⟨fun x => ?_, fun k => ?_, s.lampLine_eq l, LampWork.take_eq, fun b => ?_⟩⟩
  · intro t
    exact ⟨State.inner_settle old new, (State.check_settle old new).trans (congrArg checkValue (State.backup_settle old new)),
      State.lamps_settle old new, (State.alarm_settle old new).trans (congrArg SourceSet.any (State.alarming_settle old new)),
      State.bare_settle old new, State.incoming_settle old new, State.latch_settle old new⟩
  · cases x <;> simp [State.lampSource, Feed.mem_decks]
  · rfl
  · simp [BarrierWork.raiseDrive, BarrierWork.lowerDrive]
end

section
/-! SUPPORT. A start of the main domain: what each of its stages leaves as it was, and what the engines and the barriers
become (R84, R168, R179, R181). -/

namespace Sys2Proof.Machine

/-! ### What every stage of a start leaves -/

/-- A channel with no count, no fault latched and none counted (R65). -/
def ChannelWork.Unread (w : ChannelWork) : Prop := w.last = none ∧ w.latch = {} ∧ w.faults = 0

/-- `t` comes of `s` by stages of a start: it has kept the backup domain, the queue, the arbiters, inputs, readers and
supervisor, the lanes but for their lamps and the ports but for their notices; set latches stay set, unread channels stay
unread. -/
structure State.Steady (s t : State) : Prop where
  backup : t.backup = s.backup
  check : t.check = s.check
  running : t.running = s.running
  pending : t.pending = s.pending
  arb : ∀ d, t.arb d = s.arb d
  inp : ∀ i, t.inp i = s.inp i
  modeAt : ∀ k, t.modeAt k = s.modeAt k
  supplyAt : ∀ k, t.supplyAt k = s.supplyAt k
  sup : { t.sup with alarm := false } = { s.sup with alarm := false }
  lane : ∀ l, (t.lane l).unlit = (s.lane l).unlit
  bare : ∀ p, (t.port p).bare = (s.port p).bare
  latch : (∀ p f, (s.port p).latch.holds f = true) → ∀ p f, (t.port p).latch.holds f = true
  chan : (∀ c, (s.chan c).Unread) → ∀ c, (t.chan c).Unread

namespace State.Steady

theorem refl (s : State) : s.Steady s :=
  ⟨rfl, rfl, rfl, rfl, fun _ => rfl, fun _ => rfl, fun _ => rfl, fun _ => rfl, rfl, fun _ => rfl, fun _ => rfl, id, id⟩

theorem trans {s t u : State} (h : s.Steady t) (k : t.Steady u) : s.Steady u :=
  ⟨k.backup.trans h.backup, k.check.trans h.check, k.running.trans h.running, k.pending.trans h.pending,
    fun d => (k.arb d).trans (h.arb d), fun i => (k.inp i).trans (h.inp i), fun r => (k.modeAt r).trans (h.modeAt r),
    fun r => (k.supplyAt r).trans (h.supplyAt r), k.sup.trans h.sup, fun l => (k.lane l).trans (h.lane l),
    fun p => (k.bare p).trans (h.bare p), k.latch ∘ h.latch, k.chan ∘ h.chan⟩

theorem foldl {α : Type} {f : State → α → State} (hf : ∀ (s : State) (a : α), s.Steady (f s a)) (xs : List α) (s : State) :
    s.Steady (xs.foldl f s) := by
  induction xs generalizing s with
  | nil => exact refl s
  | cons a xs ih => exact (hf s a).trans (ih _)

theorem ite {s t u : State} {c : Prop} [Decidable c] (ht : s.Steady t) (hu : s.Steady u) :
    s.Steady (if c then t else u) := by
  split
  · exact ht
  · exact hu

variable (s : State)

theorem modEng (d : Deck) (f : Engine → Engine) : s.Steady (s.modEng d f) := { refl s with }
theorem modWin (d : Deck) (f : WindowWork → WindowWork) : s.Steady (s.modWin d f) := { refl s with }
theorem modBar (b : Barrier) (f : BarrierWork → BarrierWork) : s.Steady (s.modBar b f) := { refl s with }
theorem raise (cs : List Instr) : s.Steady (s.raise cs) := { refl s with }
theorem takeBooms : s.Steady s.takeBooms := { refl s with }

theorem modChan (c : Channel) (f : ChannelWork → ChannelWork) (hf : ∀ w, w.Unread → (f w).Unread) :
    s.Steady (s.modChan c f) :=
  { refl s with
    chan := fun h x => by
      by_cases hx : x = c
      · rw [hx, State.chan_modChan_self]; exact hf _ (h c)
      · rw [State.chan_modChan_ne s c f hx]; exact h x }

theorem post (k : Block) (n : NoticeBody) (o : Option Port) : s.Steady (s.post k n o) :=
  { refl s with
    bare := fun p => by simp [PortWork.bare]
    latch := fun h p f => by simpa using h p f }

theorem flag (f : Flag) : s.Steady (s.flag f) :=
  { refl s with
    bare := fun p => by simp [PortWork.bare]
    latch := fun h p g => by simpa using Latch.set_keeps _ f g (h p g) }

theorem startLamps (l : Lane) : s.Steady (s.startLamps l) :=
  { refl s with
    lane := fun x => by
      by_cases hx : x = l
      · rw [hx, State.startLamps, State.lane_modLane_self]; rfl
      · rw [State.startLamps, State.lane_modLane_ne s l _ hx] }

theorem judgeAlarm : s.Steady s.judgeAlarm := by
  unfold State.judgeAlarm
  have hsup : s.Steady (s.modSup fun v => { v with alarm := s.alarming.any }) := { refl s with }
  exact .ite (refl s) (hsup.trans (post ..))

theorem openWindow (d : Deck) (n : Nat) : s.Steady (s.openWindow d n) := by
  have hchans : ∀ t : State, t.Steady (t.modChans (s.channelSet d) fun c => { c with running := some 0, saturated := false }) :=
    fun t => foldl (fun t c => modChan t c (fun c => { c with running := some 0, saturated := false }) fun _ h => h) _ t
  exact ((modWin s d _).trans (hchans _)).trans (modEng ..)

theorem startDeck (old : State) (d : Deck) : s.Steady (((s.startEngine d).calLost old d).maybeOpen d) := by
  have hlost : ∀ t : State, t.Steady (t.calLost old d) := fun t => .ite (refl t) (post ..)
  have hopen : ∀ t : State, t.Steady (t.maybeOpen d) := fun t => .ite (openWindow ..) (refl t)
  exact ((modEng ..).trans (hlost _)).trans (hopen _)

theorem changeBar (b : Barrier) (r : BarrierReason) (f : BarrierWork → BarrierWork) : s.Steady (s.changeBar b r f) :=
  .ite (modBar ..) ((((modBar ..).trans (post ..)).trans (flag ..)).trans (raise ..))

theorem judgeLowering (b : Barrier) : s.Steady (s.judgeLowering b) :=
  .ite (modBar ..) (.ite (refl s) (.ite (changeBar ..) (modBar ..)))

theorem place (b : Barrier) : s.Steady (s.place b) := by
  have hplaced := changeBar s b .placement BarrierWork.placed
  exact (((Steady.ite (hplaced.trans (changeBar ..)) hplaced)).trans (judgeLowering ..)).trans (modBar ..)

end State.Steady

/-! ### The engines at a start -/

theorem State.eng_calLost (s old : State) (d x : Deck) : (s.calLost old d).eng x = s.eng x := by
  unfold State.calLost
  split <;> rfl

theorem State.eng_modChans (s : State) (cs : List Channel) (f : ChannelWork → ChannelWork) (d : Deck) :
    (s.modChans cs f).eng d = s.eng d := by
  unfold State.modChans
  induction cs generalizing s with
  | nil => rfl
  | cons c cs ih => rw [List.foldl_cons, ih]; rfl

/-- The opening of a window changes nothing of an engine but its window mark (R56, R86). -/
theorem State.eng_maybeOpen (s : State) (d : Deck) :
    ∃ m, (s.maybeOpen d).eng d = { s.eng d with windowMark := m } := by
  unfold State.maybeOpen
  split
  · exact ⟨(s.win d).first || !(s.eng d).positioned, by simp [State.openWindow, State.eng_modChans]⟩
  · exact ⟨(s.eng d).windowMark, rfl⟩

theorem State.eng_maybeOpen_ne (s : State) {d x : Deck} (h : x ≠ d) : (s.maybeOpen d).eng x = s.eng x := by
  unfold State.maybeOpen
  split
  · rw [State.openWindow, State.eng_modEng_ne _ _ _ h, State.eng_modChans, State.eng_modWin]
  · rfl

theorem State.eng_startDeck (s old : State) (d : Deck) :
    ∃ m, (((s.startEngine d).calLost old d).maybeOpen d).eng d =
      { s.eng d with state := if s.mode = .closed ∨ s.calibrated d = false then .off else .warmup, windowMark := m } := by
  obtain ⟨m, hm⟩ := ((s.startEngine d).calLost old d).eng_maybeOpen d
  exact ⟨m, by rw [hm, State.eng_calLost, State.startEngine, State.eng_modEng_self]⟩

theorem State.eng_startDeck_ne (s old : State) {d x : Deck} (h : x ≠ d) :
    (((s.startEngine d).calLost old d).maybeOpen d).eng x = s.eng x := by
  rw [State.eng_maybeOpen_ne _ h, State.eng_calLost, State.startEngine, State.eng_modEng_ne _ _ _ h]

theorem State.Steady.mode {s t : State} (h : s.Steady t) : t.mode = s.mode := by rw [State.mode, h.backup]; rfl

theorem State.Steady.calibrated {s t : State} (h : s.Steady t) (d : Deck) : t.calibrated d = s.calibrated d := by
  have hdeck : t.deckCfg = s.deckCfg := by unfold State.deckCfg; rw [h.backup]
  have hchan : t.chanCfg = s.chanCfg := by unfold State.chanCfg; rw [h.backup]
  simp only [State.calibrated, State.channelSet, hdeck, hchan]

/-- Both engines have started once their decks have (R84). -/
theorem State.eng_startDecks (s old : State) (d : Deck) :
    ∃ m, ((Deck.all.foldl (fun t d => ((t.startEngine d).calLost old d).maybeOpen d) s).eng d) =
      { s.eng d with state := if s.mode = .closed ∨ s.calibrated d = false then .off else .warmup, windowMark := m } := by
  simp only [Deck.all, List.foldl_cons, List.foldl_nil]
  have hfirst := State.Steady.startDeck s old .a
  cases d with
  | a =>
    obtain ⟨m, hm⟩ := s.eng_startDeck old .a
    exact ⟨m, by rw [State.eng_startDeck_ne _ old (by decide), hm]⟩
  | b =>
    obtain ⟨m, hm⟩ := (((s.startEngine .a).calLost old .a).maybeOpen .a).eng_startDeck old .b
    exact ⟨m, by rw [hm, hfirst.mode, hfirst.calibrated, State.eng_startDeck_ne _ old (by decide)]⟩

/-! ### The barriers at a start -/

/-- What placement and, where its permissive is not true, the fail action make of a barrier (R168). -/
def BarrierWork.started (w : BarrierWork) (a : FailAction) : BarrierWork :=
  { (if w.placed.state = .up ∨ w.placed.state = .stopped then
      match a with
      | .lower => w.placed
      | .hold => { w.placed.stopped with hold := .fail }
    else w.placed) with closeDelay := none, half := none }

@[simp] theorem State.bar_changeBar (s : State) (b : Barrier) (r : BarrierReason) (f : BarrierWork → BarrierWork) :
    (s.changeBar b r f).bar b = f (s.bar b) := by
  simp only [State.changeBar]
  split <;> simp

theorem State.bar_changeBar_ne (s : State) {b c : Barrier} (r : BarrierReason) (f : BarrierWork → BarrierWork)
    (h : c ≠ b) : (s.changeBar b r f).bar c = s.bar c := by
  simp only [State.changeBar]
  split <;> simp [State.bar_modBar_ne _ _ _ h]

theorem State.permissiveNow_of_low {s : State} {b : Barrier} (h : s.lowAt (.barrier b) = true) :
    s.permissiveNow b = false := by
  simp [State.permissiveNow, h]

theorem State.bar_judgeLowering_ne (s : State) {b c : Barrier} (h : c ≠ b) : (s.judgeLowering b).bar c = s.bar c := by
  unfold State.judgeLowering
  split
  · exact State.bar_modBar_ne s b _ h
  split
  · rfl
  split
  · exact State.bar_changeBar_ne s _ _ h
  · exact State.bar_modBar_ne s b _ h

theorem State.bar_judgeLowering_of_loop {s : State} {b : Barrier} (h : s.boomClear b = false) :
    (s.judgeLowering b).bar b = { s.bar b with closeDelay := none } := by
  simp [State.judgeLowering, State.mayLower, h]

theorem State.bar_judgeKeepalive_of_low {s : State} {b : Barrier} (h : s.lowAt (.barrier b) = true) :
    (s.judgeKeepalive b).bar b = { s.bar b with half := none } := by
  simp [State.judgeKeepalive, State.toggles, h]

theorem State.bar_failAction_of_not_raising {s : State} {b : Barrier} (h : (s.bar b).state ≠ .raising) :
    (s.failAction b).bar b =
      match (s.barCfg b).failAction with
      | .lower => { s.bar b with latch := false }
      | .hold => { (s.bar b).stopped with latch := false, hold := .fail } := by
  rw [State.failAction, State.bar_changeBar]
  cases (s.barCfg b).failAction <;> simp [h]

theorem State.Steady.lowAt {s t : State} (h : s.Steady t) (r : SupplyReader) : t.lowAt r = s.lowAt r := by
  rw [State.lowAt, h.supplyAt, State.lowAt]

theorem State.Steady.boomClear {s t : State} (h : s.Steady t) (b : Barrier) : t.boomClear b = s.boomClear b := by
  rw [State.boomClear, h.inp, State.boomClear]

theorem State.Steady.barCfg {s t : State} (h : s.Steady t) (b : Barrier) : t.barCfg b = s.barCfg b := by
  unfold State.barCfg
  rw [h.backup]

theorem BarrierWork.placed_not_raising (w : BarrierWork) : w.placed.state ≠ .raising := by
  unfold BarrierWork.placed placedState
  cases w.upper <;> cases w.lower <;> simp

theorem State.bar_place_ne (s : State) {b c : Barrier} (h : c ≠ b) : (s.place b).bar c = s.bar c := by
  simp only [State.place, State.judgeKeepalive, State.bar_modBar_ne _ _ _ h, State.bar_judgeLowering_ne _ h]
  split <;> simp only [State.failAction, State.bar_changeBar_ne _ _ _ h]

/-- A barrier is placed while its controller goes by SUPPLY_LOW and its boom loop is not clear: its permissive is not true
and it does not lower (R158, R168). -/
theorem State.bar_place {s : State} {b : Barrier} (hlow : s.lowAt (.barrier b) = true) (hloop : s.boomClear b = false) :
    (s.place b).bar b = (s.bar b).started (s.barCfg b).failAction := by
  have hplaced := State.Steady.changeBar s b .placement BarrierWork.placed
  have hfailed : s.Steady ((s.changeBar b .placement BarrierWork.placed).failAction b) :=
    hplaced.trans (State.Steady.changeBar ..)
  have hbar : (s.changeBar b .placement BarrierWork.placed).bar b = (s.bar b).placed := State.bar_changeBar ..
  have hpermissive : (s.changeBar b .placement BarrierWork.placed).permissiveNow b = false :=
    State.permissiveNow_of_low ((hplaced.lowAt _).trans hlow)
  have hjudged : ∀ t, s.Steady t →
      ((t.judgeLowering b).judgeKeepalive b).bar b = { t.bar b with closeDelay := none, half := none } := by
    intro t ht
    rw [State.bar_judgeKeepalive_of_low (((State.Steady.judgeLowering t b).lowAt _).trans ((ht.lowAt _).trans hlow)),
      State.bar_judgeLowering_of_loop ((ht.boomClear b).trans hloop)]
  unfold State.place
  dsimp only
  rw [hjudged _ (.ite hfailed hplaced), hpermissive, hbar]
  unfold BarrierWork.started
  by_cases hup : (s.bar b).placed.state = .up ∨ (s.bar b).placed.state = .stopped
  · rw [if_pos ⟨hup, rfl⟩, if_pos hup, State.bar_failAction_of_not_raising (hbar ▸ BarrierWork.placed_not_raising _),
      hbar, hplaced.barCfg]
    cases (s.barCfg b).failAction <;> rfl
  · rw [if_neg fun h => hup h.1, if_neg hup, hbar]

end Sys2Proof.Machine
end

section
/-! SUPPORT. The state after a start of the main domain (R25, R84, R124, R126, R148, R168, R176, R179 to R181, R212). -/

namespace Sys2Proof.Machine

/-! ### The stages of a start -/

/-- The state in which the stages of a start begin. -/
def State.begun (s : State) (x : Start) (cause : ResetCause) : State :=
  let b := s.backup.restart (s.backupOk x)
  { backup := b, check := checkValue b, main := startMain b x.first cause, running := true, pending := s.pending }

/-- The decks have started: the engines, and the windows at count 0 (R56, R84). -/
def State.decksStarted (s : State) (x : Start) (cause : ResetCause) : State :=
  Deck.all.foldl (fun t d => ((t.startEngine d).calLost s d).maybeOpen d) (s.begun x cause)

/-- The barriers are placed (R168). -/
def State.barriersPlaced (s : State) (x : Start) (cause : ResetCause) : State :=
  Barrier.all.foldl State.place (s.decksStarted x cause)

theorem State.restart_eq (s : State) (x : Start) (cause : ResetCause) :
    s.restart x cause = (Lane.all.foldl State.startLamps (s.barriersPlaced x cause).takeBooms).judgeAlarm := rfl

variable (s : State) (x : Start) (cause : ResetCause)

theorem State.steady_decksStarted : (s.begun x cause).Steady (s.decksStarted x cause) :=
  State.Steady.foldl (fun t d => State.Steady.startDeck t s d) _ _

theorem State.steady_restart : (s.begun x cause).Steady (s.restart x cause) :=
  ((((s.steady_decksStarted x cause).trans (State.Steady.foldl State.Steady.place _ _)).trans (State.Steady.takeBooms _)).trans
    (State.Steady.foldl State.Steady.startLamps _ _)).trans (State.Steady.judgeAlarm _)

/-! ### Engines and barriers behind their stage -/

theorem State.eng_changeBar (s : State) (b : Barrier) (r : BarrierReason) (f : BarrierWork → BarrierWork) (d : Deck) :
    (s.changeBar b r f).eng d = s.eng d := by
  simp only [State.changeBar]
  split <;> rfl

theorem State.eng_judgeLowering (s : State) (b : Barrier) (d : Deck) : (s.judgeLowering b).eng d = s.eng d := by
  unfold State.judgeLowering
  split
  · rfl
  split
  · rfl
  split
  · exact State.eng_changeBar ..
  · rfl

theorem State.eng_place (s : State) (b : Barrier) (d : Deck) : (s.place b).eng d = s.eng d := by
  simp only [State.place, State.judgeKeepalive, State.eng_modBar, State.eng_judgeLowering]
  split <;> simp only [State.failAction, State.eng_changeBar]

/-- What no step of a walk over a list changes stands as before at its end. -/
theorem State.foldl_keeps {α β : Type} (part : State → β) {f : State → α → State} (hf : ∀ s a, part (f s a) = part s)
    (xs : List α) (s : State) : part (xs.foldl f s) = part s := by
  induction xs generalizing s with
  | nil => rfl
  | cons a xs ih => rw [List.foldl_cons, ih, hf]

/-- The engines, barriers and barrier states of a state: what the lamps and the alarm line leave at a start. -/
def State.plant (s : State) : PerDeck Engine × PerBarrier BarrierWork × BarrierViews :=
  (s.main.engines, s.main.barriers, s.main.booms)

theorem State.eng_eq_plant (s : State) (d : Deck) : s.eng d = s.plant.1.get d := rfl
theorem State.bar_eq_plant (s : State) (b : Barrier) : s.bar b = s.plant.2.1.get b := rfl
theorem State.boomAtArbiter_eq_plant (s : State) (b : Barrier) : s.boomAtArbiter b = s.plant.2.2.arbiter.get b := rfl
theorem State.boomAtLane_eq_plant (s : State) (l : Lane) (b : Barrier) :
    s.boomAtLane l b = (s.plant.2.2.lane.get l).get b := rfl

theorem State.bar_takeBooms (s : State) (b : Barrier) : s.takeBooms.bar b = s.bar b := rfl
theorem State.eng_takeBooms (s : State) (d : Deck) : s.takeBooms.eng d = s.eng d := rfl

/-- Every reader goes by the state that placement has given a barrier (R166, R168). -/
theorem State.boomAtArbiter_takeBooms (s : State) (b : Barrier) : s.takeBooms.boomAtArbiter b = (s.bar b).state := by
  cases b <;> rfl

theorem State.boomAtLane_takeBooms (s : State) (l : Lane) (b : Barrier) : s.takeBooms.boomAtLane l b = (s.bar b).state := by
  simp only [State.takeBooms, State.modMain, State.boomAtLane, BarrierViews.all, Vector.get_eq_getElem,
    Vector.getElem_replicate]
  cases b <;> rfl

theorem State.plant_restart : (s.restart x cause).plant = (s.barriersPlaced x cause).takeBooms.plant := by
  have halarm : ∀ t : State, t.judgeAlarm.plant = t.plant := by
    intro t
    unfold State.judgeAlarm
    split <;> rfl
  have hlamps : ∀ (t : State) (l : Lane), (t.startLamps l).plant = t.plant := fun _ _ => rfl
  rw [State.restart_eq, halarm, State.foldl_keeps State.plant hlamps]

theorem State.eng_restart (d : Deck) :
    ∃ m, (s.restart x cause).eng d =
      { state := if (s.begun x cause).mode = .closed ∨ (s.begun x cause).calibrated d = false then .off else .warmup
        windowMark := m } := by
  obtain ⟨m, hm⟩ := (s.begun x cause).eng_startDecks s d
  have hfresh : (s.begun x cause).eng d = {} := by cases d <;> rfl
  refine ⟨m, ?_⟩
  calc (s.restart x cause).eng d = (s.barriersPlaced x cause).eng d := by
        rw [State.eng_eq_plant, s.plant_restart, ← State.eng_eq_plant, State.eng_takeBooms]
    _ = (s.decksStarted x cause).eng d := State.foldl_keeps (fun t => t.eng d) (fun t b => t.eng_place b d) _ _
    _ = _ := by rw [State.decksStarted, hm, hfresh]

theorem State.bar_startDeck (s old : State) (d : Deck) (b : Barrier) :
    (((s.startEngine d).calLost old d).maybeOpen d).bar b = s.bar b := by
  have hchans : ∀ (t : State) cs f, (t.modChans cs f).bar b = t.bar b := fun t cs f =>
    State.foldl_keeps (fun t => t.bar b) (f := fun t c => t.modChan c f) (fun t c => State.bar_modChan t c f b) cs t
  have hopen : ∀ t : State, (t.maybeOpen d).bar b = t.bar b := by
    intro t
    unfold State.maybeOpen
    split
    · rw [State.openWindow, State.bar_modEng, hchans, State.bar_modWin]
    · rfl
  rw [hopen]
  unfold State.calLost
  split <;> rfl

/-- Each barrier of a list without repetitions is placed once. -/
theorem State.bar_foldl_place {b : Barrier} (bs : List Barrier) (hbs : bs.Nodup) (hb : b ∈ bs) (s : State)
    (hlow : s.lowAt (.barrier b) = true) (hloop : s.boomClear b = false) :
    (bs.foldl State.place s).bar b = (s.bar b).started (s.barCfg b).failAction := by
  have hother : ∀ (cs : List Barrier) (t : State), b ∉ cs → (cs.foldl State.place t).bar b = t.bar b := by
    intro cs
    induction cs with
    | nil => exact fun _ _ => rfl
    | cons c cs ih =>
      intro t hc
      rw [List.mem_cons, not_or] at hc
      rw [List.foldl_cons, ih _ hc.2, State.bar_place_ne t hc.1]
  induction bs generalizing s with
  | nil => cases hb
  | cons c bs ih =>
    rw [List.nodup_cons] at hbs
    rw [List.foldl_cons]
    by_cases hc : b = c
    · rw [← hc] at hbs ⊢
      rw [hother bs _ hbs.1, State.bar_place hlow hloop]
    · have hsteady := State.Steady.place s c
      rw [ih hbs.2 ((List.mem_cons.mp hb).resolve_left hc) _ ((hsteady.lowAt _).trans hlow) ((hsteady.boomClear b).trans hloop),
        State.bar_place_ne s hc, hsteady.barCfg]

theorem State.bar_begun (b : Barrier) :
    (s.begun x cause).bar b = { upper := x.first.upper.get b, lower := x.first.lower.get b } := by
  cases b <;> rfl

theorem State.inp_begun (i : Input) : ∃ level c, (s.begun x cause).inp i = startInput level c := by
  rcases i with l | b | d | d
  · exact ⟨x.first.inputs.stop.get l, (s.backup.restart (s.backupOk x)).inputs.stop.get l, by
      simp [State.begun, State.inp, startMain, PerInput.get, Vector.get_eq_getElem]⟩
  · cases b <;> exact ⟨_, _, rfl⟩
  · cases d <;> exact ⟨_, _, rfl⟩
  · cases d <;> exact ⟨_, _, rfl⟩

theorem State.supplyAt_begun (r : SupplyReader) : (s.begun x cause).supplyAt r = .supplyLow := by
  rcases r with d | d | b
  · cases d <;> rfl
  · cases d <;> rfl
  · cases b <;> rfl

theorem State.modeAt_begun (r : ModeReader) : (s.begun x cause).modeAt r = (s.begun x cause).mode := by
  rcases r with _ | _ | d | d | d | l
  · rfl
  · rfl
  · cases d <;> rfl
  · cases d <;> rfl
  · cases d <;> rfl
  · simp [State.begun, State.modeAt, startMain, ModeViews.all, ModeViews.get, Vector.get_eq_getElem]
    rfl

theorem State.bar_restart (b : Barrier) :
    (s.restart x cause).bar b =
      BarrierWork.started { upper := x.first.upper.get b, lower := x.first.lower.get b }
        ((s.restart x cause).barCfg b).failAction := by
  have hdecks := s.steady_decksStarted x cause
  have hlow : (s.decksStarted x cause).lowAt (.barrier b) = true := by
    rw [hdecks.lowAt, State.lowAt, State.supplyAt_begun]
    rfl
  have hloop : (s.decksStarted x cause).boomClear b = false := by
    obtain ⟨level, c, hi⟩ := s.inp_begun x cause (.boom b)
    rw [hdecks.boomClear, State.boomClear, hi]
    rfl
  calc (s.restart x cause).bar b = (s.barriersPlaced x cause).bar b := by
        rw [State.bar_eq_plant, s.plant_restart, ← State.bar_eq_plant, State.bar_takeBooms]
    _ = ((s.decksStarted x cause).bar b).started ((s.decksStarted x cause).barCfg b).failAction :=
        State.bar_foldl_place _ (by decide) (by cases b <;> decide) _ hlow hloop
    _ = _ := by
        have hbar : (s.decksStarted x cause).bar b = (s.begun x cause).bar b :=
          State.foldl_keeps (fun t => t.bar b) (fun t d => State.bar_startDeck t s d b) _ _
        rw [hbar, State.bar_begun, hdecks.barCfg, (s.steady_restart x cause).barCfg]

theorem State.booms_restart (b : Barrier) :
    (s.restart x cause).boomAtArbiter b = ((s.restart x cause).bar b).state ∧
      ∀ l, (s.restart x cause).boomAtLane l b = ((s.restart x cause).bar b).state := by
  refine ⟨?_, fun l => ?_⟩
  · rw [State.boomAtArbiter_eq_plant, State.bar_eq_plant, s.plant_restart, ← State.boomAtArbiter_eq_plant,
      ← State.bar_eq_plant, State.boomAtArbiter_takeBooms, State.bar_takeBooms]
  · rw [State.boomAtLane_eq_plant, State.bar_eq_plant, s.plant_restart, ← State.boomAtLane_eq_plant,
      ← State.bar_eq_plant, State.boomAtLane_takeBooms, State.bar_takeBooms]

end Sys2Proof.Machine
end

section
/-! SUPPORT. A start under one cause or another, and what the states at its begin hold (R25, R179 to R181, R212). -/

namespace Sys2Proof.Machine

/-! ### The cause of a start stands for itself -/

/-- The supervisor with another reset cause (R179). -/
def State.recause (s : State) (c : ResetCause) : State := s.modSup fun v => { v with cause := c }

theorem State.recause_ite (c : ResetCause) (p : Prop) [Decidable p] (s t : State) :
    (if p then s else t).recause c = if p then s.recause c else t.recause c := apply_ite (fun s => State.recause s c) p s t

theorem State.foldl_recause {α : Type} (c : ResetCause) {f : State → α → State}
    (hf : ∀ s a, (f s a).recause c = f (s.recause c) a) (xs : List α) (s : State) :
    (xs.foldl f s).recause c = xs.foldl f (s.recause c) := by
  induction xs generalizing s with
  | nil => rfl
  | cons a xs ih => rw [List.foldl_cons, ih, hf, List.foldl_cons]

theorem State.recause_changeBar (s : State) (c : ResetCause) (b : Barrier) (r : BarrierReason)
    (f : BarrierWork → BarrierWork) : (s.changeBar b r f).recause c = (s.recause c).changeBar b r f :=
  State.recause_ite c _ _ _

theorem State.recause_judgeLowering (s : State) (c : ResetCause) (b : Barrier) :
    (s.judgeLowering b).recause c = (s.recause c).judgeLowering b := by
  unfold State.judgeLowering
  rw [State.recause_ite, State.recause_ite, State.recause_ite, State.recause_changeBar]
  rfl

theorem State.recause_place (s : State) (c : ResetCause) (b : Barrier) :
    (s.place b).recause c = (s.recause c).place b := by
  have hkeepalive : ∀ t : State, (t.judgeKeepalive b).recause c = (t.recause c).judgeKeepalive b := fun _ => rfl
  have hfail : ∀ t : State, (t.failAction b).recause c = (t.recause c).failAction b := fun t => State.recause_changeBar ..
  have hpermissive : ∀ t : State, (t.recause c).permissiveNow b = t.permissiveNow b := fun _ => rfl
  have hbar : ∀ t : State, (t.recause c).bar b = t.bar b := fun _ => rfl
  simp only [State.place, hkeepalive, State.recause_judgeLowering, State.recause_ite, hfail,
    ← State.recause_changeBar, hpermissive, hbar]

theorem State.recause_openWindow (s : State) (c : ResetCause) (d : Deck) (n : Nat) :
    (s.openWindow d n).recause c = (s.recause c).openWindow d n := by
  have hchans : ∀ (t : State) cs f, (t.modChans cs f).recause c = (t.recause c).modChans cs f := fun t cs f =>
    State.foldl_recause c (f := fun t ch => t.modChan ch f) (fun _ _ => rfl) cs t
  have heng : ∀ (t : State) f, (t.modEng d f).recause c = (t.recause c).modEng d f := fun _ _ => rfl
  rw [State.openWindow, heng, hchans]
  rfl

theorem State.recause_startDeck (s old : State) (c : ResetCause) (d : Deck) :
    (((s.startEngine d).calLost old d).maybeOpen d).recause c =
      (((s.recause c).startEngine d).calLost old d).maybeOpen d := by
  have hlost : ∀ t : State, (t.calLost old d).recause c = (t.recause c).calLost old d := fun t =>
    State.recause_ite c _ _ _
  have hopen : ∀ t : State, (t.maybeOpen d).recause c = (t.recause c).maybeOpen d := by
    intro t
    unfold State.maybeOpen
    rw [State.recause_ite, State.recause_openWindow]
    rfl
  rw [hopen, hlost]
  rfl

theorem State.recause_restart (s : State) (x : Start) (c c' : ResetCause) :
    (s.restart x c').recause c = s.restart x c := by
  have halarm : ∀ t : State, t.judgeAlarm.recause c = (t.recause c).judgeAlarm := fun t => State.recause_ite c _ _ _
  have hlamps : ∀ (t : State) (l : Lane), (t.startLamps l).recause c = (t.recause c).startLamps l := fun _ _ => rfl
  have hbooms : ∀ t : State, t.takeBooms.recause c = (t.recause c).takeBooms := fun _ => rfl
  have hdecks : (s.decksStarted x c').recause c = s.decksStarted x c :=
    State.foldl_recause c (fun t d => State.recause_startDeck t s c d) _ _
  rw [State.restart_eq, halarm, State.foldl_recause c hlamps, hbooms, State.barriersPlaced,
    State.foldl_recause c fun t b => State.recause_place t c b, hdecks]
  rfl

/-! ### What the begin of a start holds -/

theorem Entry.restart_eq (e : Entry) :
    e.restart =
      match e.state with
      | .admitted => none
      | .recalled =>
        if e.cancelling then none
        else
          some
            { e with
              pass := none, departure := none
              state := match e.recallIntent.map Recall.origin with
                | some .quarantine => .quarantine
                | some .inYard => .inYard
                | none => .inYard
              recallIntent := none, request := none }
      | .onDeck =>
        if e.finished then none
        else
          some
            { e with
              pass := none, departure := none
              state := if e.departure = some .toQuarantine then .quarantine else .inYard
              interrupted := true }
      | .inYard => some { e with pass := none, departure := none }
      | .quarantine => some { e with pass := none, departure := none } := by
  unfold Entry.restart
  cases e.state with
  | onDeck => rcases hd : e.departure with _ | _ | _ | _ | _ <;> simp [Entry.finished, hd]
  | recalled => rcases e.recallIntent with _ | ⟨i, _ | _⟩ <;> rfl
  | admitted => rfl
  | inYard => rfl
  | quarantine => rfl

theorem State.backupOk_iff (s : State) (x : Start) :
    s.backupOk x = true ↔ x.backupHeld = true ∧ checkValue s.backup = s.check := by
  simp [State.backupOk]

theorem State.restart_lost {s : State} {x : Start} {cause : ResetCause} (h : s.backupOk x = false) :
    (s.restart x cause).backup = {} := by
  rw [(s.steady_restart x cause).backup, State.begun, h]
  rfl

theorem State.restart_kept {s : State} {x : Start} {cause : ResetCause} (h : s.backupOk x = true) :
    (s.restart x cause).backup =
      { s.backup with records := { s.recs with entries := s.recs.entries.filterMap Entry.restart } } := by
  rw [(s.steady_restart x cause).backup, State.begun, h]
  rfl

theorem State.startCause_eq (s : State) (x : Start) :
    s.startCause x =
      if ¬(x.backupHeld = true ∧ checkValue s.backup = s.check) then .powerOnBackupLost
      else if s.sup.dip = true ∧ x.fellBelowStop = false then .supplyDip else .powerOn := by
  simp only [← s.backupOk_iff x]
  simp [State.startCause]

theorem State.lane_begun (s : State) (x : Start) (cause : ResetCause) (l : Lane) : (s.begun x cause).lane l = {} := by
  simp [State.begun, State.lane, startMain, Vector.get_eq_getElem]

theorem State.chan_begun (s : State) (x : Start) (cause : ResetCause) (c : Channel) : (s.begun x cause).chan c = {} := by
  simp [State.begun, State.chan, startMain, Vector.get_eq_getElem]

theorem State.port_begun (s : State) (x : Start) (cause : ResetCause) (p : Port) :
    (s.begun x cause).port p =
      { floor := defaultFloor ((s.begun x cause).portCfg p).role, rate := ((s.begun x cause).portCfg p).rate } := by
  simp [State.begun, State.port, State.portCfg, startMain, Vector.get_eq_getElem]

theorem PortWork.eq_of_bare {w v : PortWork} (h : w.bare = v.bare) :
    w = { v with latch := w.latch, incoming := w.incoming } := by
  cases w
  cases v
  simpa [PortWork.bare] using h

/-! ### What a start leaves -/

section

variable (s : State) (x : Start) (cause : ResetCause)

theorem State.running_restart : (s.restart x cause).running = true := (s.steady_restart x cause).running
theorem State.pending_restart : (s.restart x cause).pending = s.pending := (s.steady_restart x cause).pending

theorem State.check_restart : (s.restart x cause).check = checkValue (s.restart x cause).backup := by
  rw [(s.steady_restart x cause).check, (s.steady_restart x cause).backup]
  rfl

theorem State.modeAt_restart (k : ModeReader) : (s.restart x cause).modeAt k = (s.restart x cause).mode := by
  rw [(s.steady_restart x cause).modeAt, State.modeAt_begun, (s.steady_restart x cause).mode]

theorem State.supplyAt_restart (k : SupplyReader) : (s.restart x cause).supplyAt k = .supplyLow := by
  rw [(s.steady_restart x cause).supplyAt, State.supplyAt_begun]

/-- The supervisor at its reset values, but for the alarm line (R179). -/
theorem State.sup_restart :
    (s.restart x cause).sup =
      { cause := cause, calSwitch := x.first.calSwitch, lines := x.first, alarm := (s.restart x cause).sup.alarm } := by
  have h : { (s.restart x cause).sup with alarm := false } =
      ({ cause := cause, calSwitch := x.first.calSwitch, lines := x.first } : Supervisor) :=
    (s.steady_restart x cause).sup
  generalize (s.restart x cause).sup = v at h ⊢
  cases v
  cases h
  rfl

theorem State.engineState_restart (d : Deck) :
    ((s.restart x cause).eng d).state =
      if (s.restart x cause).mode = .closed ∨ (s.restart x cause).calibrated d = false then .off else .warmup := by
  obtain ⟨m, hm⟩ := s.eng_restart x cause d
  rw [hm, (s.steady_restart x cause).mode, (s.steady_restart x cause).calibrated]

theorem State.arb_restart (d : Deck) : (s.restart x cause).arb d = { state := .recover } := by
  rw [(s.steady_restart x cause).arb]
  cases d <;> rfl

theorem State.lane_restart (l : Lane) :
    (s.restart x cause).lane l = { lamps := ((s.restart x cause).lane l).lamps } := by
  have h : ((s.restart x cause).lane l).unlit = LaneWork.unlit {} := by
    rw [(s.steady_restart x cause).lane, State.lane_begun]
  generalize (s.restart x cause).lane l = w at h ⊢
  cases w
  cases h
  rfl

theorem State.inp_restart (i : Input) : ∃ level c, (s.restart x cause).inp i = startInput level c := by
  rw [(s.steady_restart x cause).inp]
  exact s.inp_begun x cause i

theorem State.chan_restart (c : Channel) : ((s.restart x cause).chan c).Unread :=
  (s.steady_restart x cause).chan (fun c => by rw [State.chan_begun]; exact ⟨rfl, rfl, rfl⟩) c

/-- A port at its reset values, but for its change latch and the notices on their way to it (R212). -/
theorem State.port_restart (p : Port) :
    (s.restart x cause).port p =
      { floor := defaultFloor ((s.restart x cause).portCfg p).role, rate := ((s.restart x cause).portCfg p).rate
        latch := ((s.restart x cause).port p).latch, incoming := ((s.restart x cause).port p).incoming } := by
  have hcfg : (s.restart x cause).portCfg p = (s.begun x cause).portCfg p := by
    rw [State.portCfg, (s.steady_restart x cause).backup, State.portCfg]
  have h := (s.steady_restart x cause).bare p
  rw [State.port_begun, ← hcfg] at h
  simpa only using PortWork.eq_of_bare h

theorem State.latch_restart (p : Port) (f : Flag) : ((s.restart x cause).port p).latch.holds f = true :=
  (s.steady_restart x cause).latch (fun p f => by rw [State.port_begun]; cases f <;> rfl) p f

end

theorem BarrierWork.started_of_lower (upper : Bool) (a : FailAction) :
    (BarrierWork.started { upper := upper, lower := true } a).state = (if upper then .fault else .down) ∧
      (BarrierWork.started { upper := upper, lower := true } a).latch = false ∧
      (BarrierWork.started { upper := upper, lower := true } a).hold = .none := by
  cases upper <;> cases a <;> decide

theorem BarrierWork.started_of_not_lower (upper : Bool) (a : FailAction) :
    (BarrierWork.started { upper := upper, lower := false } a).state =
        (if upper = true ∧ a ≠ .hold then .up else .stopped) ∧
      (BarrierWork.started { upper := upper, lower := false } a).latch = false ∧
      (BarrierWork.started { upper := upper, lower := false } a).hold = (if a = .hold then .fail else .none) ∧
      (BarrierWork.started { upper := upper, lower := false } a).cause = none := by
  cases upper <;> cases a <;> decide

theorem BarrierWork.started_lines (upper lower : Bool) (a : FailAction) :
    (BarrierWork.started { upper := upper, lower := lower } a).closeDelay = none ∧
      (BarrierWork.started { upper := upper, lower := lower } a).half = none ∧
      (BarrierWork.started { upper := upper, lower := lower } a).upper = upper ∧
      (BarrierWork.started { upper := upper, lower := lower } a).lower = lower := by
  cases upper <;> cases lower <;> cases a <;> decide

end Sys2Proof.Machine

open Sys2Proof Sys2Proof.Machine

/-- Settles O51: what every stage of a start leaves, and what the engines and the barriers become. -/
theorem resetsStartAfresh : Obligations.ResetsStartAfresh := by
  refine ⟨fun s x => ⟨s.restart x (s.startCause x), rfl, ?_⟩, fun s q role => ?_, fun s x h => ?_, fun s x hrun hdue => ?_,
    fun s => rfl⟩
  · intro held
    have hheld : s.backupOk x = true ↔ held := s.backupOk_iff x
    have hsup := s.sup_restart x (s.startCause x)
    refine ⟨s.running_restart x _, s.pending_restart x _, s.check_restart x _, s.modeAt_restart x _,
      s.supplyAt_restart x _, s.booms_restart x _, hheld, ?_, by rw [hsup], by rw [hsup], by rw [hsup], by rw [hsup],
      by rw [hsup], by rw [hsup], by rw [hsup], by rw [hsup], by rw [hsup], fun hlost => ?_, fun hkept => ?_, fun d => ?_,
      fun l => ?_, fun i => ?_, fun b hb => ?_, fun b hb => ?_, fun b => ?_, fun c => ?_, fun p => ?_⟩
    · rw [hsup]
      exact s.startCause_eq x
    · rw [← hheld, Bool.not_eq_true] at hlost
      exact State.restart_lost hlost
    · rw [← hheld] at hkept
      refine (State.restart_kept hkept).trans (congrArg (fun kept : Entry → Option Entry =>
        ({ s.backup with records := { s.recs with entries := s.recs.entries.filterMap kept } } : Backup)) (funext fun e => ?_))
      exact e.restart_eq
    · obtain ⟨m, hm⟩ := s.eng_restart x (s.startCause x) d
      refine ⟨s.engineState_restart x _ d, ?_, ?_, ?_, ?_, ?_, s.arb_restart x _ d⟩ <;> rw [hm]
    · rw [s.lane_restart x _ l]
      exact ⟨rfl, rfl, rfl⟩
    · obtain ⟨level, cfg, hi⟩ := s.inp_restart x (s.startCause x) i
      rw [hi]
      exact ⟨rfl, rfl⟩
    · rw [s.bar_restart x _ b, hb]
      exact BarrierWork.started_of_lower ..
    · rw [s.bar_restart x _ b, hb]
      exact BarrierWork.started_of_not_lower ..
    · rw [s.bar_restart x _ b]
      exact BarrierWork.started_lines ..
    · obtain ⟨hlast, hlatch, hfaults⟩ := s.chan_restart x (s.startCause x) c
      rw [← hlast, ← hlatch, ← hfaults]
    · have hlatch := s.latch_restart x (s.startCause x) p
      rw [s.port_restart x _ p] at hlatch ⊢
      refine ⟨rfl, rfl, rfl, rfl, rfl, rfl, rfl, rfl, hlatch, ?_⟩
      dsimp only
      cases ((s.restart x (s.startCause x)).portCfg p).role <;> rfl
  · intro c h
    exact request_answered s c q _ role _ _ h rfl
  · refine (exec_yardResetEffect ..).trans (congrArg Host.Outcome.next (if_neg ?_))
    rintro ⟨hrun, hdue⟩
    simp_all
  · refine ⟨_, _, congrArg Host.Outcome.next (if_pos ⟨hrun, hdue⟩), rfl, ?_⟩
    exact (s.recause_restart x _ _).symm
end

section
/-! SUPPORT. What becomes of an uncollected ticket under the operations of the log, and under every command (R40, R42,
R44, R46). -/

namespace Sys2Proof.Machine

/-! ### Tickets that stay -/

/-- A log holds a ticket with its content, marked VOIDED since or not. -/
def Ticket.StaysIn (k : Ticket) (log : List Ticket) : Prop := ∃ k' ∈ log, { k' with voided := k.voided } = k

/-- A change of the records that leaves every uncollected ticket in the log (R40). -/
def Records.Retains (r r' : Records) : Prop := ∀ k : Ticket, k.collected = false → k.StaysIn r.log → k.StaysIn r'.log

theorem Ticket.staysIn_of_mem {k : Ticket} {log : List Ticket} (h : k ∈ log) : k.StaysIn log := ⟨k, h, rfl⟩

theorem Ticket.StaysIn.mono {k : Ticket} {log log' : List Ticket} (h : k.StaysIn log)
    (hsub : ∀ x ∈ log, x.collected = k.collected → x ∈ log') : k.StaysIn log' := by
  obtain ⟨x, hx, hk⟩ := h
  exact ⟨x, hsub x hx (congrArg Ticket.collected hk :), hk⟩

theorem Records.Retains.of_log {r r' : Records} (h : r'.log = r.log) : r.Retains r' := fun _ _ hk => h ▸ hk

@[simp] theorem Records.retains_self (r : Records) : r.Retains r := .of_log rfl

theorem Records.Retains.trans {a b c : Records} (h : a.Retains b) (h' : b.Retains c) : a.Retains c :=
  fun k hc hk => h' k hc (h k hc hk)


/-- A log with a free slot gives up a collected ticket at most (R40, R42). -/
theorem Records.mem_roomInLog {r : Records} (h : r.freeSlot = true) {x : Ticket} (hx : x ∈ r.log)
    (hc : x.collected = false) : x ∈ roomInLog r.log := by
  unfold roomInLog
  split
  · next hfull =>
    simp only [Records.freeSlot, Bool.or_eq_true, decide_eq_true_eq, Nat.not_lt.mpr hfull, false_or] at h
    cases hlog : r.log with
    | nil => simp [hlog] at hx
    | cons y ys =>
      have hy : y.collected = true := by simpa [hlog] using h
      rcases List.mem_cons.mp (hlog ▸ hx) with rfl | hmem
      · simp [hy] at hc
      · simpa using hmem
  · exact hx

/-- An issue that finds a free slot leaves the uncollected tickets. -/
theorem Records.retains_issued {r : Records} (h : r.freeSlot = true) (t : Ticket) : r.Retains (r.issued t) :=
  fun _ hc hk => hk.mono fun _ hx hxc => List.mem_append_left _ (Records.mem_roomInLog h hx (hxc.trans hc))

theorem Records.freeSlot_of_unblocked {r : Records} {e : Entry} (h : r.closureBlock e = none) : r.freeSlot = true := by
  unfold Records.closureBlock at h
  split at h; · cases h
  split at h; · cases h
  split at h; · cases h
  split at h; · cases h
  next hf => simpa using hf

/-- An attempt at a closure issues a ticket only into a free slot (R12). -/
theorem Records.retains_attempted (r : Records) (e : Entry) : r.Retains (r.attempted e) := by
  unfold Records.attempted
  cases hb : r.closureBlock e with
  | some b => exact .of_log rfl
  | none =>
    have hissue := Records.retains_issued (freeSlot_of_unblocked hb) e.content
    cases e.passDeck with
    | some d => exact hissue.trans (.of_log rfl)
    | none => exact hissue.trans (.of_log rfl)

theorem State.retains_retry (s : State) : s.recs.Retains s.retry.recs := by
  rw [State.recs_retry]
  generalize s.recs.entries.filter Entry.retried = es
  generalize s.recs = r
  induction es generalizing r with
  | nil => exact r.retains_self
  | cons e es ih => exact (r.retains_attempted e).trans (ih _)

theorem State.retains_then_retry {r : Records} {s : State} (h : s.recs.log = r.log) : r.Retains s.retry.recs :=
  (Records.Retains.of_log h).trans s.retains_retry

/-- The mark of a voided ticket leaves the ticket in its place (R44). -/
theorem Records.retains_markVoided (r : Records) (n : Nat) :
    r.Retains { r with log := r.log.map fun u => if u.number = n then { u with voided := true } else u } := by
  rintro k - ⟨x, hx, hk⟩
  refine ⟨_, List.mem_map_of_mem hx, ?_⟩
  split
  · exact hk
  · exact hk

theorem Records.freeSlot_markVoided (r : Records) (n : Nat) :
    ({ r with log := r.log.map fun u => if u.number = n then { u with voided := true } else u } : Records).freeSlot =
      r.freeSlot := by
  cases hlog : r.log with
  | nil => simp [Records.freeSlot, hlog]
  | cons y ys =>
    simp only [Records.freeSlot, hlog, List.map_cons, List.length_cons, List.length_map, List.head?_cons, Option.map_some]
    split <;> rfl

/-- A confirmation leaves the tickets behind the one it names (R46). -/
theorem Ticket.staysIn_collectTo {k : Ticket} {older newer : List Ticket} {last : Ticket} (hk : k ∈ newer) :
    k.StaysIn (collectTo last.number (older ++ last :: newer)) := by
  refine Ticket.staysIn_of_mem ?_
  induction older with
  | nil => simp [collectTo, hk]
  | cons x xs ih =>
    rw [List.cons_append, collectTo]
    refine List.mem_cons_of_mem _ ?_
    split
    · simp [hk]
    · exact ih

/-! ### What a request and an event make of the records -/

/-- A request leaves the records, or makes of them what its owning block does (R200). -/
theorem recs_of_request {o : Outcome} {c : Instr} {q : Sender} {f : Serve} {s t : State} (h : o = .next t)
    (hc : o = request c q f s) : t.recs = s.recs ∨ ∃ role u, u.recs = s.recs ∧ t.recs = (f role u).1.recs := by
  subst hc
  cases h
  split
  · rw [State.recs_settle]
    unfold State.takeRequest
    dsimp only
    split
    · exact .inr ⟨_, s.consume c, rfl, rfl⟩
    split
    · exact .inl rfl
    split
    · exact .inl rfl
    · exact .inr ⟨_, s.modPort q.port _, rfl, rfl⟩
  · exact .inl rfl

theorem recs_of_event {o : Outcome} {c : Instr} {f : State → State} {s t : State} (h : o = .next t)
    (hc : o = event c f s) : t.recs = s.recs ∨ ∃ u, u.recs = s.recs ∧ t.recs = (f u).recs := by
  subst hc
  cases h
  split
  · rw [State.recs_settle]
    exact .inr ⟨s.consume c, rfl, rfl⟩
  · exact .inl rfl

theorem retains_request {o : Outcome} {c : Instr} {q : Sender} {f : Serve} {s t : State} (h : o = .next t)
    (hs : s.recs.Law) (hc : o = request c q f s)
    (hf : ∀ role (u : State), u.recs.Law → u.recs.Retains (f role u).1.recs) :
    s.recs.Retains t.recs := by
  rcases recs_of_request h hc with ht | ⟨role, u, hu, ht⟩
  · rw [ht]; exact s.recs.retains_self
  · rw [ht, ← hu]; exact hf role u (hu ▸ hs)

theorem retains_event {o : Outcome} {c : Instr} {f : State → State} {s t : State} (h : o = .next t)
    (hc : o = event c f s) (hf : ∀ u : State, u.recs.Retains (f u).recs) : s.recs.Retains t.recs := by
  rcases recs_of_event h hc with ht | ⟨u, hu, ht⟩
  · rw [ht]; exact s.recs.retains_self
  · rw [ht, ← hu]; exact hf u

/-! ### The requests and reports of the records -/

section
variable (role : Role) (s : State)

theorem retains_onEntry {n : Nat} {f : Entry → State → State × Reply} (hf : ∀ e, s.recs.Retains (f e s).1.recs) :
    s.recs.Retains (onEntry n f role s).1.recs := by
  unfold onEntry
  split
  · exact s.recs.retains_self
  split
  · exact s.recs.retains_self
  · exact hf _

theorem retains_serveIdentify (q : Sender) (lane : Nat) (plate : List Byte) (tag : Option Nat)
    (mode account material intent priority : Nat) :
    s.recs.Retains (serveIdentify q lane plate tag mode account material intent priority role s).1.recs := by
  refine .of_log ?_
  simp only [serveIdentify, State.admission, State.recallEntry]
  repeat' split
  all_goals rfl

theorem retains_serveHold (q : Sender) (n reason : Nat) : s.recs.Retains (serveHold q n reason role s).1.recs :=
  retains_onEntry role s fun e => .of_log (by split <;> rfl)

theorem retains_serveReleaseHold (n : Nat) : s.recs.Retains (serveReleaseHold n role s).1.recs := by
  refine retains_onEntry role s fun e => ?_
  split
  · exact s.recs.retains_self
  · exact State.retains_then_retry rfl

theorem retains_serveAmend (n : Nat) (account : Option Nat) (line : Option (Nat × Nat)) :
    s.recs.Retains (serveAmend n account line role s).1.recs := by
  refine retains_onEntry role s fun e => .of_log ?_
  dsimp only
  repeat' split
  all_goals rfl

@[simp] theorem State.log_cancelOnDeck (e : Entry) : (s.cancelOnDeck e).recs.log = s.recs.log := by
  unfold State.cancelOnDeck
  dsimp only
  repeat' split
  all_goals rfl

theorem retains_serveCancel (n : Nat) : s.recs.Retains (serveCancel n role s).1.recs := by
  refine retains_onEntry role s fun e => .of_log ?_
  dsimp only
  split
  · rfl
  · rfl
  · exact s.log_cancelOnDeck e
  all_goals (repeat' split) <;> rfl

theorem retains_serveQuarantine (n : Nat) : s.recs.Retains (serveQuarantine n role s).1.recs := by
  refine retains_onEntry role s fun e => .of_log ?_
  dsimp only
  repeat' split
  all_goals rfl

theorem retains_serveForceExit (n : Nat) : s.recs.Retains (serveForceExit n role s).1.recs := by
  refine retains_onEntry role s fun e => .of_log ?_
  dsimp only
  repeat' split
  all_goals rfl

/-- A CLOSE issues its ticket only where no closure condition fails (R23). -/
theorem retains_serveClose (n : Nat) : s.recs.Retains (serveClose n role s).1.recs := by
  refine retains_onEntry role s fun e => ?_
  split
  · exact s.recs.retains_self
  split
  · exact s.recs.retains_self
  split
  · exact s.recs.retains_self
  · next hb =>
    rw [State.recs_dropEntry, State.recs_issue]
    exact (Records.retains_issued (Records.freeSlot_of_unblocked hb) _).trans (.of_log rfl)

theorem retains_serveStoreTare (plate : List Byte) (tag : Option Nat) (weight : Int) (cls validity account : Nat) :
    s.recs.Retains (serveStoreTare plate tag weight cls validity account role s).1.recs := by
  refine .of_log ?_
  unfold serveStoreTare
  dsimp only
  repeat' split
  all_goals simp

theorem retains_serveDeleteTare (plate : List Byte) : s.recs.Retains (serveDeleteTare plate role s).1.recs := by
  refine .of_log ?_
  unfold serveDeleteTare
  split <;> rfl

theorem retains_serveSetClock (year month day hour minute second : Nat) :
    s.recs.Retains (serveSetClock year month day hour minute second role s).1.recs := by
  unfold serveSetClock
  dsimp only
  split
  · exact s.recs.retains_self
  · exact State.retains_then_retry rfl

/-- A log with an uncollected ticket has a counter, and refuses a new base (R39). -/
theorem retains_serveSetTicketBase (n : Nat) (h : s.recs.Law) :
    s.recs.Retains (serveSetTicketBase n role s).1.recs := by
  unfold serveSetTicketBase
  split
  · exact s.recs.retains_self
  split
  · exact s.recs.retains_self
  · next hfree =>
    rintro k hc ⟨x, hx, hk⟩
    have hne : s.recs.log ≠ [] := List.ne_nil_of_mem hx
    have hcounter : s.recs.counter.isSome = true := by
      rw [h.next _ (List.getLast?_eq_some_getLast hne)]
      rfl
    have hxc : x.collected = k.collected := (congrArg Ticket.collected hk :)
    have hmem : x ∈ uncollected s.recs.log := List.mem_filter.mpr ⟨hx, by simpa [hxc] using hc⟩
    exact absurd (by simp [hcounter, List.ne_nil_of_mem hmem]) hfree

theorem retains_serveVoidTicket (number reason : Nat) : s.recs.Retains (serveVoidTicket number reason role s).1.recs := by
  unfold serveVoidTicket
  split
  · exact s.recs.retains_self
  split
  · exact s.recs.retains_self
  split
  · exact s.recs.retains_self
  split
  · exact s.recs.retains_self
  split
  · exact s.recs.retains_self
  · next hslot =>
    rw [State.recs_issue]
    refine (s.recs.retains_markVoided number).trans (Records.retains_issued ?_ _)
    exact (s.recs.freeSlot_markVoided number).trans (by simpa using hslot)

theorem State.retains_withdrawalReport (n : Nat) : s.recs.Retains (s.withdrawalReport n).recs := by
  refine .of_log ?_
  unfold State.withdrawalReport
  repeat' split
  all_goals rfl

theorem State.retains_entryPassageReport (d : Deck) (n : Nat) : s.recs.Retains (s.entryPassageReport d n).recs := by
  refine .of_log ?_
  unfold State.entryPassageReport
  dsimp only
  split
  · rfl
  split
  · split
    · exact State.log_cancelOnDeck ..
    · rfl
  · rfl

theorem State.retains_captureFailure (n : Nat) (reason : FailReason) :
    s.recs.Retains (s.captureFailure n reason).recs := .of_log rfl

theorem State.retains_exitPassageReport (n : Nat) : s.recs.Retains (s.exitPassageReport n).recs := by
  refine .of_log ?_
  unfold State.exitPassageReport
  split <;> rfl

@[simp] theorem State.log_tareCompletion (e : Entry) (r : CaptureResult) :
    (s.tareCompletion e r).recs.log = s.recs.log := by
  unfold State.tareCompletion
  dsimp only
  repeat' split
  all_goals simp

/-- The weighing of a pass closes its entry at most (R10). -/
theorem State.retains_afterWeighing (e : Entry) (r : CaptureResult) (p : Purpose) :
    s.recs.Retains (s.afterWeighing e r p).recs := by
  unfold State.afterWeighing
  cases p with
  | first | split m => exact .of_log rfl
  | final | gross => rw [State.recs_attemptClosure]; exact Records.retains_attempted _ _
  | tare => exact .of_log (s.log_tareCompletion e r)

theorem State.retains_captureCompletion (r : CaptureResult) : s.recs.Retains (s.captureCompletion r).recs := by
  unfold State.captureCompletion
  dsimp only
  split
  · exact s.recs.retains_self
  split
  · exact s.recs.retains_self
  split
  · exact s.recs.retains_self
  split
  · split
    · rw [State.recs_attemptClosure]
      exact (Records.Retains.of_log rfl : s.recs.Retains (s.modEntry _ _).recs).trans (Records.retains_attempted _ _)
    · exact s.recs.retains_self
  · exact (Records.Retains.of_log rfl : s.recs.Retains (s.modEntry _ _).recs).trans (State.retains_afterWeighing _ _ _ _)

end

theorem Records.log_tick (r : Records) (m : TickMark) : (r.tick m).log = r.log := by
  unfold Records.tick
  repeat' split
  all_goals rfl

theorem Records.log_second (r : Records) : r.second.log = r.log := by
  unfold Records.second
  repeat' split
  all_goals rfl

theorem State.retains_watchExpiry (s : State) (x : Lines) : s.recs.Retains (s.watchExpiry x).recs := by
  unfold State.watchExpiry
  split
  · exact s.recs.retains_self
  · exact .of_log (by simp [Records.log_tick])

theorem State.retains_restart (s : State) (x : Start) (cause : ResetCause) (h : s.backupOk x = true) :
    s.recs.Retains (s.restart x cause).recs := by
  rw [State.recs_restart, h]
  exact .of_log rfl

/-! ### Every command -/

theorem retains_of_next {s u t : State} (h : (.next u : Outcome) = .next t) (hu : s.recs.Retains u.recs) :
    s.recs.Retains t.recs := Host.Outcome.next.inj h ▸ hu

/-- Every request but a confirmation leaves the uncollected tickets. -/
theorem retains_exec_request (c : Instr) (hc : c.spelling.isSome = true) (hn : ∀ q n, c ≠ .confirmCollected q n)
    (s t : State) (hs : s.recs.Law) (h : exec c s = .next t) : s.recs.Retains t.recs := by
  cases c
  case identify =>
    exact retains_request h hs (exec_identify ..) (fun role u _ => retains_serveIdentify role u _ _ _ _ _ _ _ _ _)
  case hold => exact retains_request h hs (exec_hold ..) (fun role u _ => retains_serveHold role u _ _ _)
  case releaseHold =>
    exact retains_request h hs (exec_releaseHold ..) (fun role u _ => retains_serveReleaseHold role u _)
  case amend => exact retains_request h hs (exec_amend ..) (fun role u _ => retains_serveAmend role u _ _ _)
  case cancelTransaction =>
    exact retains_request h hs (exec_cancelTransaction ..) (fun role u _ => retains_serveCancel role u _)
  case quarantine => exact retains_request h hs (exec_quarantine ..) (fun role u _ => retains_serveQuarantine role u _)
  case close => exact retains_request h hs (exec_close ..) (fun role u _ => retains_serveClose role u _)
  case forceExit => exact retains_request h hs (exec_forceExit ..) (fun role u _ => retains_serveForceExit role u _)
  case storeTare =>
    exact retains_request h hs (exec_storeTare ..) (fun role u _ => retains_serveStoreTare role u _ _ _ _ _ _)
  case deleteTare => exact retains_request h hs (exec_deleteTare ..) (fun role u _ => retains_serveDeleteTare role u _)
  case setClock =>
    exact retains_request h hs (exec_setClock ..) (fun role u _ => retains_serveSetClock role u _ _ _ _ _ _)
  case setTicketBase =>
    exact retains_request h hs (exec_setTicketBase ..) (fun role u => retains_serveSetTicketBase role u _)
  case voidTicket =>
    exact retains_request h hs (exec_voidTicket ..) (fun role u _ => retains_serveVoidTicket role u _ _)
  case confirmCollected q n => exact absurd rfl (hn q n)
  -- the others are no requests of the records, or read them alone
  all_goals try cases hc
  all_goals dsimp only [exec] at h
  all_goals exact retains_request h hs rfl (by simp)

/-- Every event leaves the uncollected tickets, and so does a start that keeps the backup domain. -/
theorem retains_exec_event (c : Instr) (hc : c.spelling.isSome = false) (s t : State)
    (hstart : ∀ x, c = .mainReset x ∨ c = .yardResetEffect x → s.backupOk x = true) (h : exec c s = .next t) :
    s.recs.Retains t.recs := by
  cases c
  case withdrawalReport => exact retains_event h (exec_withdrawalReport ..) (fun u => u.retains_withdrawalReport _)
  case entryPassageReport =>
    exact retains_event h (exec_entryPassageReport ..) (fun u => u.retains_entryPassageReport _ _)
  case recordsCaptureCompletion =>
    exact retains_event h (exec_recordsCaptureCompletion ..) (fun u => u.retains_captureCompletion _)
  case recordsCaptureFailure =>
    exact retains_event h (exec_recordsCaptureFailure ..) (fun u => u.retains_captureFailure _ _)
  case exitPassageReport => exact retains_event h (exec_exitPassageReport ..) (fun u => u.retains_exitPassageReport _)
  case watchExpiry => exact retains_event h (exec_watchExpiry ..) (fun u => u.retains_watchExpiry _)
  case yardClockSecond => exact retains_of_next h (.of_log (Records.log_second _))
  case yardTick x =>
    refine retains_of_next h ?_
    split
    · rw [State.recs_settle, State.recs_tick]; exact .of_log (Records.log_tick ..)
    · exact .of_log (Records.log_tick ..)
  case mainDomainStop => exact retains_of_next h (.of_log rfl)
  case mainReset x => exact retains_of_next h (s.retains_restart x _ (hstart x (.inl rfl)))
  case yardResetEffect x =>
    refine retains_of_next h ?_
    split
    · exact s.retains_restart x _ (hstart x (.inr rfl))
    · exact s.recs.retains_self
  case entryLoopEdgeAtArbiter d e => cases e <;> exact retains_event h (exec_entryLoopEdgeAtArbiter ..) (by simp)
  case exitLoopEdgeAtArbiter d e => cases e <;> exact retains_event h (exec_exitLoopEdgeAtArbiter ..) (by simp)
  -- the others are no events of the records
  all_goals try cases hc
  all_goals dsimp only [exec] at h
  all_goals exact retains_event h rfl (by simp)

/-- A confirmation leaves the tickets behind the one it names. -/
theorem staysIn_confirmCollected {q : Sender} {n : Nat} {s t : State} (h : exec (.confirmCollected q n) s = .next t)
    {k last : Ticket} {older newer : List Ticket} (hlog : s.recs.log = older ++ last :: newer) (hn : last.number = n)
    (hk : k ∈ newer) (hc : k.collected = false) : k.StaysIn t.recs.log := by
  have hstay : k.StaysIn s.recs.log := Ticket.staysIn_of_mem (by simp [hlog, hk])
  rcases recs_of_request h (exec_confirmCollected ..) with ht | ⟨role, u, hu, ht⟩
  · rwa [ht]
  rw [ht]
  unfold serveConfirmCollected
  split
  · rwa [hu]
  split
  · rwa [hu]
  · refine State.retains_retry _ k hc ?_
    rw [State.recs_modRecs_self, hu, hlog, ← hn]
    exact Ticket.staysIn_collectTo hk

end Sys2Proof.Machine

open Sys2Proof Sys2Proof.Machine

/-- Settles O8: every command but a confirmation and a start retains the uncollected tickets (`Records.Retains`), and those
two spare the tickets that the premises name. -/
theorem uncollectedTicketsStay : Obligations.UncollectedTicketsStay := by
  intro s t k hs h hk hc hspare
  have hstay := Ticket.staysIn_of_mem hk
  unfold step at h
  split at h
  · cases h; exact hstay
  · next c rest hp =>
    have hspare := hspare c rest hp
    cases hreq : c.spelling.isSome with
    | false =>
      refine retains_exec_event c hreq { s with pending := rest } t (fun x hx => ?_) h k hc hstay
      rcases hx with rfl | rfl <;> exact hspare
    | true =>
      by_cases hconf : ∃ q n, c = .confirmCollected q n
      · obtain ⟨q, n, rfl⟩ := hconf
        obtain ⟨older, last, newer, hlog, hn, hmem⟩ := hspare
        exact staysIn_confirmCollected h hlog hn hmem hc
      · exact retains_exec_request c hreq (fun q n hcn => hconf ⟨q, n, hcn⟩) { s with pending := rest } t hs h k hc hstay
end

section
/-! SUPPORT. A stopped main domain (R38, R179, R181). -/

namespace Sys2Proof.Machine

theorem State.eq_of_running {s : State} (h : s.running = false) : { s with running := false } = s := by
  rw [← h]

/-- While the main domain is stopped, the sub-second count takes a BACKUP tick (R38). -/
theorem exec_yardTick_stopped {s : State} (x : Lines) (h : s.running = false) :
    exec (.yardTick x) s = .next (s.modRecs fun r => r.tick .backup).seal :=
  congrArg Host.Outcome.next (if_neg (by simp [h]))

theorem Records.tick_backup (r : Records) : r.tick .backup =
    match r.clock with
    | none => r
    | some now =>
      if now = lastSecond then r else { r with subSecond := r.subSecond + 1, subBackup := true } := by
  unfold Records.tick
  cases r.clock <;> simp

/-- No request finds anything to take it. -/
theorem exec_request_stopped (c : Instr) (hc : c.spelling.isSome = true) {s : State} (h : s.running = false) :
    exec c s = .next s := by
  cases c
  all_goals try cases hc
  all_goals dsimp only [exec]
  all_goals exact request_stopped s _ _ _ h

/-- No event finds anything to take it, but for those that act on a stopped part. -/
theorem exec_event_stopped (c : Instr) (hc : c.spelling.isSome = false) {s : State} (h : s.running = false)
    (hreset : ∀ x, c ≠ .mainReset x) (hstop : c ≠ .mainDomainStop) (hsecond : c ≠ .yardClockSecond)
    (htick : ∀ x, c ≠ .yardTick x) : exec c s = .next s := by
  cases c
  case mainReset x => exact absurd rfl (hreset x)
  case mainDomainStop => exact absurd rfl hstop
  case yardClockSecond => exact absurd rfl hsecond
  case yardTick x => exact absurd rfl (htick x)
  case yardResetEffect x => exact congrArg Host.Outcome.next (if_neg (by simp [h]))
  case entryLoopEdgeAtArbiter d e => cases e <;> exact (exec_entryLoopEdgeAtArbiter ..).trans (event_stopped s _ _ h)
  case exitLoopEdgeAtArbiter d e => cases e <;> exact (exec_exitLoopEdgeAtArbiter ..).trans (event_stopped s _ _ h)
  all_goals try cases hc
  all_goals dsimp only [exec]
  all_goals exact event_stopped s _ _ h

end Sys2Proof.Machine

open Sys2Proof Sys2Proof.Machine

/-- Settles O3: no request and no event finds anything to take it, but for the four commands that act on a stopped part. -/
theorem stoppedMainDomain : Obligations.StoppedMainDomain := by
  intro c s h
  split
  · next x => exact ⟨_, rfl, s.running_restart x _⟩
  · exact congrArg Host.Outcome.next (State.eq_of_running (s := s.modSup fun v => { v with dip := true }) h)
  · rfl
  · next x =>
    refine (exec_yardTick_stopped x h).trans ?_
    exact congrArg (fun count => Host.Outcome.next (s.modRecs count).seal) (funext Records.tick_backup)
  · next hreset hstop hsecond htick =>
    cases hc : c.spelling.isSome with
    | true => exact exec_request_stopped c hc h
    | false => exact exec_event_stopped c hc h hreset hstop hsecond htick
end

section
/-! SUPPORT. Settings: operands outside their sets, clamped answers, and the settings of lanes, decks, barriers, inputs and
lamps (R35, R67, R68, R85, R108, R128, R130, R146, R147, R150). -/

namespace Sys2Proof.Machine

/-! ### Operands -/

theorem barrierOf_of_ge {n : Nat} (h : 4 ≤ n) : barrierOf n = none := List.getElem?_eq_none h
theorem inputOf_of_ge {n : Nat} (h : 12 ≤ n) : inputOf n = none := List.getElem?_eq_none h

theorem lampOf_zero : lampOf 0 = none := rfl
theorem lampOf_of_ge {n : Nat} (h : 4 ≤ n) : lampOf n = none := by
  obtain ⟨k, rfl⟩ := Nat.exists_eq_add_of_le' h; rfl
theorem sourceOf_of_ge {n : Nat} (h : 9 ≤ n) : sourceOf n = none := by
  obtain ⟨k, rfl⟩ := Nat.exists_eq_add_of_le' h; rfl
theorem switchOf_of_ge {n : Nat} (h : 2 ≤ n) : switchOf n = none := by
  obtain ⟨k, rfl⟩ := Nat.exists_eq_add_of_le' h; rfl
theorem failActionOf_of_ge {n : Nat} (h : 2 ≤ n) : failActionOf n = none := by
  obtain ⟨k, rfl⟩ := Nat.exists_eq_add_of_le' h; rfl
theorem invertedOf_of_ge {n : Nat} (h : 2 ≤ n) : invertedOf n = none := by
  obtain ⟨k, rfl⟩ := Nat.exists_eq_add_of_le' h; rfl

theorem switchOf_of_lt {n : Nat} (h : n < 2) : switchOf n = some (n == 0) := by
  match n, h with
  | 0, _ => rfl
  | 1, _ => rfl
theorem failActionOf_of_lt {n : Nat} (h : n < 2) : failActionOf n = some (if n = 0 then .lower else .hold) := by
  match n, h with
  | 0, _ => rfl
  | 1, _ => rfl
theorem invertedOf_of_lt {n : Nat} (h : n < 2) : invertedOf n = some (n == 1) := by
  match n, h with
  | 0, _ => rfl
  | 1, _ => rfl

/-! ### Answers -/

/-- OK where every value was stored as it came, CLAMPED with the stored values otherwise (R206). -/
theorem Reply.clamped_not (same : Bool) (stored : List Byte) :
    Reply.clamped (!same) stored = if same then Reply.ok else { code := .clamped, payload := stored } := by
  cases same <;> rfl

theorem Reply.clamped_not₂ (a b : Bool) (stored : List Byte) :
    Reply.clamped (!a || !b) stored = if a && b then Reply.ok else { code := .clamped, payload := stored } := by
  rw [← Bool.not_and, Reply.clamped_not]

theorem Reply.clamped_not₃ (a b c : Bool) (stored : List Byte) :
    Reply.clamped (!a || !b || !c) stored = if a && b && c then Reply.ok else { code := .clamped, payload := stored } := by
  rw [← Bool.not_and, Reply.clamped_not₂]

/-! ### Inputs and lamps -/

/-- A rewriting of a bank entry reads that entry alone. -/
theorem Bank.mod_congr {n : Nat} {α : Type} (v : Bank n α) (i : Fin n) {f g : α → α} (h : f (v.get i) = g (v.get i)) :
    Bank.mod v i f = Bank.mod v i g := by
  rw [Bank.mod, Bank.mod, h]

theorem Bank.mod_id {n : Nat} {α : Type} (v : Bank n α) (i : Fin n) : (Bank.mod v i fun x => x) = v :=
  Vector.set_getElem_self _

theorem State.modLane_congr (s : State) (l : Lane) {f g : LaneWork → LaneWork} (h : f (s.lane l) = g (s.lane l)) :
    s.modLane l f = s.modLane l g := by
  rw [State.modLane, State.modLane, Bank.mod_congr _ _ h]

theorem State.modLane_id (s : State) (l : Lane) : (s.modLane l fun w => w) = s := by
  rw [State.modLane, Bank.mod_id]

/-- The end of a stretch timer at 0 (R146). -/
theorem State.modLamp_due (s : State) (l : Lane) (k : Lamp) (h : ((s.lane l).lamps.get k).stretch = some 0) :
    (s.modLamp l k fun w => if w.stretch = some 0 then { w with stretch := none } else w) =
      s.modLane l fun w =>
        { w with lamps := w.lamps.set k { value := ((s.lane l).lamps.get k).value, stretch := none } } := by
  refine s.modLane_congr l ?_
  rw [Bank.mod, if_pos h]

/-- A stretch timer that is not at 0 stays (R146). -/
theorem State.modLamp_notDue (s : State) (l : Lane) (k : Lamp) (h : ((s.lane l).lamps.get k).stretch ≠ some 0) :
    (s.modLamp l k fun w => if w.stretch = some 0 then { w with stretch := none } else w) = s := by
  refine (s.modLane_congr l ?_).trans (s.modLane_id l)
  have hlamps := Bank.mod_congr (s.lane l).lamps k
    (f := fun w => if w.stretch = some 0 then { w with stretch := none } else w) (g := fun w => w) (if_neg h)
  rw [hlamps, Bank.mod_id]

/-- The effect of SET_CONDITIONER (R128). -/
theorem serveSetConditioner_free {s : State} {n polarity debounce : Nat} {i : Input} (role : Role)
    (hi : inputOf n = some i) (hp : polarity < 2) (hf : s.inputFree i = true) :
    serveSetConditioner n polarity debounce role s =
      ((((s.modInpCfg i fun _ => { inverted := polarity == 1, debounce := clampNat 10 500 debounce }).modInp i fun w =>
          { w with fresh := true }).flag (inputFlag i)),
        if clampNat 10 500 debounce == debounce then Reply.ok
        else { code := .clamped, payload := u32 (clampNat 10 500 debounce) }) := by
  simp only [serveSetConditioner, hi, invertedOf_of_lt hp, hf, bne, Reply.clamped_not]
  rfl

theorem serveSetConditioner_inUse {s : State} {n polarity : Nat} {i : Input} (debounce : Nat) (role : Role)
    (hi : inputOf n = some i) (hp : polarity < 2) (hf : s.inputFree i = false) :
    serveSetConditioner n polarity debounce role s = (s, .only .wrongState) := by
  simp [serveSetConditioner, hi, invertedOf_of_lt hp, hf]

end Sys2Proof.Machine

open Sys2Proof Sys2Proof.Machine

/-- Settles O59, setting by setting: the operands that are refused, then the value stored and the answer. -/
theorem settingsAreClamped : Obligations.SettingsAreClamped := by
  refine ⟨fun s q role => ?_, fun s q role => ?_⟩
  · intro clamp reply
    refine ⟨?_, ?_, ?_, ?_, ?_, ?_, ?_, ?_, ?_⟩
    · intro lane deck n a b m k hlane hdeck hn c hc h
      simp only [List.mem_cons, List.not_mem_nil, or_false] at hc
      rcases hc with rfl | rfl | rfl | rfl | rfl | rfl | rfl
      · exact request_refused s _ q _ role _ h (by simp [serveSetTareValidity, laneOf_of_ge hlane])
      · exact request_refused s _ q _ role _ h (by simp [serveSetLaneTimers, laneOf_of_ge hlane])
      · exact request_refused s _ q _ role _ h (by simp [serveSetSignalHead, laneOf_of_ge hlane])
      · exact request_refused s _ q _ role _ h (by simp [serveSetCaptureOptions, deckOf_of_ge hdeck])
      · exact request_refused s _ q _ role _ h (by simp [serveSetProceedTime, deckOf_of_ge hdeck])
      · exact request_refused s _ q _ role _ h (by simp [serveSetOccupancy, deckOf_of_ge hdeck])
      · exact request_refused s _ q _ role _ h (by simp [serveSetBarrier, barrierOf_of_ge hn])
    · intro deck n a b m k hm c hc h
      simp only [List.mem_cons, List.not_mem_nil, or_false] at hc
      rcases hc with rfl | rfl
      · exact request_refused s _ q _ role _ h (by simp [serveSetCaptureOptions, switchOf_of_ge hm])
      · exact request_refused s _ q _ role _ h (by simp [serveSetBarrier, failActionOf_of_ge hm])
    · intro lane l days hl c v h
      refine request_answered s c q _ role _ _ h ?_
      simp only [serveSetTareValidity, hl, bne, Reply.clamped_not]
      rfl
    · intro lane l absence stuck hl c a k h
      refine request_answered s c q _ role _ _ h ?_
      simp only [serveSetLaneTimers, hl, bne, Reply.clamped_not₂]
      rfl
    · intro lane l period hl c v h
      refine request_answered s c q _ role _ _ h ?_
      simp only [serveSetSignalHead, hl, bne, Reply.clamped_not]
      rfl
    · intro deck d attempt n accept hd ha c a k h
      refine request_answered s c q _ role _ _ h ?_
      simp only [serveSetCaptureOptions, hd, switchOf_of_lt ha, bne, Reply.clamped_not₂]
      rfl
    · intro deck d seconds hd c v h
      refine request_answered s c q _ role _ _ h ?_
      simp only [serveSetProceedTime, hd, bne, Reply.clamped_not]
      rfl
    · intro deck d n hd c v h
      split
      · next hn =>
        exact request_answered s c q _ role _ _ h (by simp [serveSetOccupancy, hd, Config.namedChoice, hn])
      next hn =>
      split
      · next hcal =>
        exact request_refused s c q _ role _ h (by simp [serveSetOccupancy, hd, Config.namedChoice, hn, hcal])
      · next hcal =>
        refine request_answered s c q _ role _ _ h ?_
        simp only [serveSetOccupancy, hd, Config.namedChoice, if_neg hn, State.calibrated_handed,
          Bool.not_eq_false _ ▸ hcal, State.deckCfg_handed, bne, Reply.clamped_not]
        rfl
    · intro n b fail motion close half hb hf c m k hh h
      refine request_answered s c q _ role _ _ h ?_
      simp only [serveSetBarrier, hb, failActionOf_of_lt hf, bne, Reply.clamped_not₃]
      rfl
  · intro clamp reply
    refine ⟨?_, ?_, ?_, ?_, ?_, ?_⟩
    · intro n polarity debounce hbad c h
      refine request_refused s c q _ role _ h ?_
      rcases hbad with hn | hp
      · simp [serveSetConditioner, inputOf_of_ge hn]
      · simp [serveSetConditioner, invertedOf_of_ge hp]
    · intro lane lamp source blink stretch hbad c h
      refine request_refused s c q _ role _ h ?_
      rcases hbad with hl | rfl | hk | hx | hb
      · simp [serveSetLamp, laneOf_of_ge hl]
      · simp [serveSetLamp, lampOf_zero]
      · simp [serveSetLamp, lampOf_of_ge hk]
      · simp [serveSetLamp, sourceOf_of_ge hx]
      · simp [serveSetLamp, switchOf_of_ge hb]
    · intro n i polarity debounce hi hp c v lane free h
      have hfree : (s.handed c q).inputFree i = free := by
        rw [State.inputFree_handed]
        cases i <;> simp [State.inputFree, free, beq_eq_decide]
      refine ⟨fun hf => ?_, fun hf => ?_⟩
      · exact request_refused s c q _ role _ h (serveSetConditioner_inUse debounce role hi hp (hfree.trans hf))
      · have hserve := serveSetConditioner_free (debounce := debounce) role hi hp (hfree.trans hf)
        intro write
        refine ⟨fun hlane => ?_, fun hlane => ?_⟩
        · obtain ⟨l, rfl⟩ := hlane
          exact request_answered s c q _ role _ _ h hserve
        · refine request_answered s c q _ role _ _ h (hserve.trans ?_)
          cases i with
          | stop l => exact absurd ⟨l, rfl⟩ hlane
          | boom | beam1 | beam2 => rfl
    · intro lane l lamp k source x blink stretch hl hk hx hb c v h
      refine request_answered s c q _ role _ _ h ?_
      simp only [serveSetLamp, hl, hk, hx, switchOf_of_lt hb, State.lampSource_handed, bne, Reply.clamped_not]
      rfl
    · intro flag c h
      split
      · next hf => exact request_refused s c q _ role _ h (by simp [serveSetLampInvert, switchOf_of_ge hf])
      · next hf =>
        exact request_answered s c q _ role _ _ h
          (by simp [serveSetLampInvert, switchOf_of_lt (Nat.lt_of_not_le hf)])
    · intro l k hrun c
      refine (exec_stretchTimerExpiry ..).trans (event_after s c _ _ hrun ?_)
      split
      · next hdue => exact State.modLamp_due _ l k hdue
      · next hdue => exact State.modLamp_notDue _ l k hdue
end

section
/-! SUPPORT. The tare store: the order of eviction, the tare write, and the standing of a tare (R27 to R35). -/

namespace Sys2Proof.Machine

/-! ### The order of eviction (R29) -/

theorem plateLt_iff (a b : Plate) : plateLt a b = true ↔ a.map BitVec.toNat < b.map BitVec.toNat := by
  induction a generalizing b with
  | nil => cases b <;> simp [plateLt]
  | cons x xs ih =>
    cases b with
    | nil => simp [plateLt]
    | cons y ys => simp [plateLt, ih, List.cons_lt_cons_iff]

/-- What places a tare in the order of eviction: the expiry date, the date stored and the plate (R29). -/
def Tare.key (t : Tare) : Nat ×ₗ Nat ×ₗ List Nat :=
  toLex (dateKey t.expiry, toLex (dateKey t.stored, t.plate.map BitVec.toNat))

theorem Tare.goesFirst_iff (a b : Tare) : a.goesFirst b ↔ a.key ≤ b.key := by
  simp [Tare.goesFirst, Tare.key, Prod.Lex.le_iff]

theorem Tare.before_iff (a b : Tare) : a.before b = true ↔ a.key < b.key := by
  unfold Tare.before Tare.key
  simp only [Prod.Lex.lt_iff, ofLex_toLex]
  split
  · next h => simp [h]
  next h =>
  split
  · next h' => simp_all
  · next h' => simp_all [plateLt_iff]

theorem perm_insertTare (t : Tare) (ts : List Tare) : (insertTare t ts).Perm (t :: ts) := by
  induction ts with
  | nil => exact .refl _
  | cons u us ih =>
    unfold insertTare
    split
    · exact (ih.cons u).trans (.swap t u us)
    · exact .refl _

theorem perm_sortTares (ts : List Tare) : (sortTares ts).Perm ts := by
  induction ts with
  | nil => exact .refl _
  | cons t ts ih => exact (perm_insertTare t _).trans (ih.cons t)

theorem pairwise_insertTare (t : Tare) {ts : List Tare} (h : ts.Pairwise Tare.goesFirst) :
    (insertTare t ts).Pairwise Tare.goesFirst := by
  induction ts with
  | nil => simp [insertTare]
  | cons u us ih =>
    obtain ⟨hu, hus⟩ := List.pairwise_cons.mp h
    unfold insertTare
    split
    · next hlt =>
      refine List.pairwise_cons.mpr ⟨fun x hx => ?_, ih hus⟩
      rcases mem_insertTare.mp hx with rfl | hx
      · exact (u.goesFirst_iff x).mpr ((u.before_iff x).mp hlt).le
      · exact hu x hx
    · next hlt =>
      have htu : t.key ≤ u.key := not_lt.mp (mt (u.before_iff t).mpr hlt)
      refine List.pairwise_cons.mpr ⟨fun x hx => (t.goesFirst_iff x).mpr ?_, h⟩
      rcases List.mem_cons.mp hx with rfl | hx
      · exact htu
      · exact htu.trans ((u.goesFirst_iff x).mp (hu x hx))

/-- The tares stand in the order of eviction (R32). -/
theorem pairwise_sortTares (ts : List Tare) : (sortTares ts).Pairwise Tare.goesFirst := by
  induction ts with
  | nil => exact .nil
  | cons t ts ih => exact pairwise_insertTare t ih

/-! ### The tare write (R29) -/

theorem Records.tareOf_isSome_iff (r : Records) (p : Plate) :
    (r.tareOf p).isSome = true ↔ ∃ u ∈ r.tares, u.plate = p := by
  simp [Records.tareOf]

theorem Records.evictee_isSome_iff (r : Records) :
    r.evictee.isSome = true ↔ ∃ u ∈ r.tares, u.standing r.today = .expired := by
  simp [Records.evictee, mem_sortTares]

/-- The evicted record is an EXPIRED one, and goes first among them. -/
theorem Records.evictee_spec {r : Records} {v : Tare} (h : r.evictee = some v) :
    v ∈ r.tares ∧ v.standing r.today = .expired ∧ ∀ u ∈ r.tares, u.standing r.today = .expired → v.goesFirst u := by
  have hsorted := pairwise_sortTares r.tares
  refine ⟨Records.evictee_mem h, ?_, fun u hu hexp => ?_⟩
  · simpa using List.find?_some h
  obtain ⟨-, before, behind, hlist, hbefore⟩ := List.find?_eq_some_iff_append.mp h
  have hmem : u ∈ before ++ v :: behind := hlist ▸ mem_sortTares.mpr hu
  rw [hlist] at hsorted
  rcases List.mem_append.mp hmem with hmem | hmem
  · simpa [hexp] using hbefore u hmem
  rcases List.mem_cons.mp hmem with rfl | hmem
  · exact (u.goesFirst_iff u).mpr le_rfl
  · exact (List.pairwise_cons.mp (List.pairwise_append.mp hsorted).2.1).1 u hmem

theorem Records.not_tareOf {r : Records} {p : Plate} (h : ∀ u ∈ r.tares, u.plate ≠ p) :
    ¬ (r.tareOf p).isSome = true := fun hs => by
  obtain ⟨u, hu, hp⟩ := (r.tareOf_isSome_iff p).mp hs
  exact h u hu hp

theorem Records.tareWrite_replace {r : Records} {t : Tare} (h : ∃ u ∈ r.tares, u.plate = t.plate) :
    r.tareWrite t = some
      { tares := r.tares.map fun u => if u.plate = t.plate then t else u, replaced := true, evicted := none } :=
  if_pos ((r.tareOf_isSome_iff _).mpr h)

theorem Records.tareWrite_add {r : Records} {t : Tare} (h : ∀ u ∈ r.tares, u.plate ≠ t.plate)
    (hl : r.tares.length < 256) :
    r.tareWrite t = some { tares := r.tares ++ [t], replaced := false, evicted := none } :=
  (if_neg (Records.not_tareOf h)).trans (if_pos hl)

theorem Records.tareWrite_full {r : Records} {t : Tare} (h : ∀ u ∈ r.tares, u.plate ≠ t.plate)
    (hl : 256 ≤ r.tares.length) :
    r.tareWrite t = r.evictee.map fun v =>
      { tares := (r.tares.filter fun u => u.plate != v.plate) ++ [t], replaced := false, evicted := some v } :=
  (if_neg (Records.not_tareOf h)).trans (if_neg (Nat.not_lt.mpr hl))

theorem Records.tareRoom_iff (r : Records) (p : Plate) :
    r.tareRoom p = true ↔
      (∃ u ∈ r.tares, u.plate = p) ∨ r.tares.length < 256 ∨ ∃ u ∈ r.tares, u.standing r.today = .expired := by
  rw [← r.tareOf_isSome_iff, ← r.evictee_isSome_iff, ← or_assoc]
  simp only [Records.tareRoom, Bool.or_eq_true, decide_eq_true_eq]
  rfl

/-- The store has room for a plate exactly when a write for it does not fail. -/
theorem Records.tareRoom_eq (r : Records) (t : Tare) : r.tareRoom t.plate = (r.tareWrite t).isSome := by
  unfold Records.tareRoom Records.tareWrite
  split
  · next h => simp [h]
  split
  · next h hl => simp [hl]
  · next h hl => simp [h, hl]

/-! ### STORE_TARE and TARE_ONLY completions (R30, R34) -/

theorem classOf_of_ge {n : Nat} (h : 2 ≤ n) : classOf n = none := by
  obtain ⟨k, rfl⟩ := Nat.exists_eq_add_of_le' h; rfl
theorem classOf_of_lt {n : Nat} (h : n < 2) : classOf n = some (if n = 0 then .approved else .indicative) := by
  match n, h with
  | 0, _ => rfl
  | 1, _ => rfl

theorem clampNat_validity (n : Nat) : clampNat 1 Config.validityMax n = max 1 (min n 730) := by
  unfold clampNat Config.validityMax
  split
  · omega
  · split <;> omega

/-- The tests of a STORE_TARE (R30). -/
theorem storeTare_refused_iff (p : Plate) (weight : Int) (account : Nat) :
    (!plateOk p || weight < 1 || Config.tareWeightMax < weight || !accountOk account) = true ↔
      plateOk p = false ∨ weight < 1 ∨ 100000 < weight ∨ 999999 < account := by
  have ha : accountOk account = false ↔ 999999 < account := by rw [← Bool.not_eq_true, accountOk_iff, Nat.not_le]
  simp only [Bool.or_eq_true, Bool.not_eq_true', decide_eq_true_eq, ha, or_assoc]
  rfl

theorem serveStoreTare_badArgument {s : State} {plate : List Byte} {tag : Option Nat} {weight : Int}
    {cls validity account : Nat} {role : Role}
    (h : 2 ≤ cls ∨ plateOk (trimPlate plate) = false ∨ weight < 1 ∨ 100000 < weight ∨ 999999 < account) :
    serveStoreTare plate tag weight cls validity account role s = (s, .only .badArgument) := by
  unfold serveStoreTare
  rcases Nat.lt_or_ge cls 2 with hcls | hcls
  · simp only [classOf_of_lt hcls]
    exact if_pos ((storeTare_refused_iff _ _ _).mpr (h.resolve_left (by omega)))
  · simp only [classOf_of_ge hcls]

/-- STORE_TARE with arguments that it takes, while the clock is set (R30). -/
theorem serveStoreTare_accepted {s : State} {plate : List Byte} {tag : Option Nat} {weight : Int}
    {cls validity account : Nat} {role : Role}
    (h : ¬ (2 ≤ cls ∨ plateOk (trimPlate plate) = false ∨ weight < 1 ∨ 100000 < weight ∨ 999999 < account)) :
    serveStoreTare plate tag weight cls validity account role s =
      match s.recs.clock with
      | none => (s, .only .clockUnset)
      | some now =>
        match s.recs.tareWrite
          { plate := trimPlate plate, tag := tag, weight := weight, cls := if cls = 0 then .approved else .indicative
            stored := now.date, validity := max 1 (min validity 730), account := account } with
        | none => (s, .only .tareFull)
        | some w =>
          (s.applyTare w,
            if max 1 (min validity 730) = validity then
              .ok (u8 (if w.replaced then 0 else 1) ++ optional (fun t : Tare => text t.plate) w.evicted)
            else
              { code := .clamped
                payload := u8 (if w.replaced then 0 else 1) ++ optional (fun t : Tare => text t.plate) w.evicted
                  ++ u16 (max 1 (min validity 730)) }) := by
  obtain ⟨hcls, hok⟩ := not_or.mp h
  unfold serveStoreTare
  simp only [classOf_of_lt (Nat.lt_of_not_le hcls), clampNat_validity, Records.today]
  rw [if_neg (mt (storeTare_refused_iff _ _ _).mp hok)]
  cases s.recs.clock <;> rfl

end Sys2Proof.Machine

open Sys2Proof Sys2Proof.Machine

/-- Settles O26: the request by its tests in their order, the write by its four cases, and the completion by its tests. -/
theorem tareStoreWrites : Obligations.TareStoreWrites := by
  refine ⟨?_, fun r t => ⟨Records.tareWrite_replace, Records.tareWrite_add, fun h hl hexp => ?_, fun h hl hexp => ?_,
    r.tareRoom_iff _, r.tareRoom_eq t⟩, fun s e r => ?_⟩
  · intro s q plate tag weight cls validity account role c h
    split
    · next hbad => exact request_refused s c q _ role _ h (serveStoreTare_badArgument hbad)
    next hok =>
    have hserve := serveStoreTare_accepted (s := s.handed c q) (tag := tag) (validity := validity) (role := role) hok
    rw [State.recs_handed] at hserve
    cases hclock : s.recs.clock with
    | none => exact request_refused s c q _ role _ h (by simp only [hserve, hclock])
    | some now =>
      dsimp only
      split
      · next hw => exact request_refused s c q _ role _ h (by simp only [hserve, hclock, hw])
      · next w hw =>
        refine request_answered s c q _ role _ _ h ?_
        simp only [hserve, hclock, hw]
        unfold State.applyTare
        cases w.evicted <;> rfl
  · rw [Records.tareWrite_full h hl, Option.map_eq_none_iff, Option.eq_none_iff_forall_not_mem]
    intro v hv
    obtain ⟨hmem, hv, -⟩ := Records.evictee_spec hv
    exact hexp v hmem hv
  · obtain ⟨v, hv⟩ := Option.isSome_iff_exists.mp (r.evictee_isSome_iff.mpr hexp)
    obtain ⟨hmem, hvexp, hfirst⟩ := Records.evictee_spec hv
    exact ⟨v, hmem, hvexp, hfirst, by rw [Records.tareWrite_full h hl, hv]; rfl⟩
  · unfold State.tareCompletion Records.today
    refine if_congr Iff.rfl rfl ?_
    cases s.recs.clock with
    | none => rfl
    | some now =>
      dsimp only [Option.map_some]
      generalize s.recs.tareWrite _ = write
      cases write with
      | none => rfl
      | some w =>
        dsimp only [State.applyTare]
        cases w.evicted <;> rfl
end

section
/-! SUPPORT. The standing of a tare on a date (R28). -/

namespace Sys2Proof.Machine

theorem Tare.standing_some (t : Tare) (d : Date) :
    t.standing (some d) =
      if dateKey d < dateKey t.stored then .notYetValid
      else if dateKey d < dateKey t.expiry then .valid
      else .expired := rfl

theorem Tare.standing_eq_notYetValid (t : Tare) (d : Date) :
    t.standing (some d) = .notYetValid ↔ dateKey d < dateKey t.stored := by
  rw [Tare.standing_some]
  split
  · next h => exact iff_of_true rfl h
  · next h => split <;> simp [h]

theorem Tare.standing_eq_valid (t : Tare) (d : Date) :
    t.standing (some d) = .valid ↔ dateKey t.stored ≤ dateKey d ∧ dateKey d < dateKey t.expiry := by
  rw [Tare.standing_some]
  split
  · next h => simp [Nat.not_le.mpr h]
  · next h =>
    split
    · next h' => exact iff_of_true rfl ⟨Nat.le_of_not_lt h, h'⟩
    · next h' => simp [h']

theorem Tare.standing_eq_expired (t : Tare) (d : Date) :
    t.standing (some d) = .expired ↔ dateKey t.stored ≤ dateKey d ∧ dateKey t.expiry ≤ dateKey d := by
  rw [Tare.standing_some]
  split
  · next h => simp [Nat.not_le.mpr h]
  · next h =>
    split
    · next h' => simp [Nat.not_le.mpr h']
    · next h' => exact iff_of_true rfl ⟨Nat.le_of_not_lt h, Nat.le_of_not_lt h'⟩

end Sys2Proof.Machine

open Sys2Proof Sys2Proof.Machine

/-- Settles O27: the standing by its three tests, and each request by what the store holds of its plate. -/
theorem tareStandingDeletesAndReads : Obligations.TareStandingDeletesAndReads := by
  refine ⟨fun t d => ⟨rfl, t.standing_eq_notYetValid d, t.standing_eq_valid d, t.standing_eq_expired d⟩,
    fun s q plate start role => ⟨fun h => ?_, fun h => ?_, fun h => ?_, perm_sortTares _, pairwise_sortTares _⟩⟩
  · cases ht : s.recs.tareOf (trimPlate plate) with
    | none => exact request_refused s _ q _ role _ h (by simp [serveDeleteTare, ht])
    | some t => exact request_answered s _ q _ role _ _ h (by simp [serveDeleteTare, ht])
  · refine request_answered s _ q _ role id _ h ?_
    simp only [serveReadTare, State.recs_handed]
    cases s.recs.tareOf (trimPlate plate) <;> rfl
  · refine request_answered s _ q _ role id _ h ?_
    simp only [serveListTares, State.recs_handed]
    rfl
end

section
/-! SUPPORT. The calendar and the yard clock (R27, R36, R37). -/

namespace Sys2Proof.Machine

/-! ### The calendar (R36) -/

/-- A date of the calendar, of any year. -/
def Date.Real (d : Date) : Prop :=
  1 ≤ d.month ∧ d.month ≤ 12 ∧ 1 ≤ d.day ∧ d.day ≤ monthDays d.year d.month

theorem monthDays_eq (y m : Nat) : monthDays y m =
    if m = 2 then (if y % 4 = 0 ∧ (y % 100 ≠ 0 ∨ y % 400 = 0) then 29 else 28)
    else if m = 4 ∨ m = 6 ∨ m = 9 ∨ m = 11 then 30 else 31 := by
  unfold monthDays
  split
  · simp [leapYear]
  all_goals simp_all

theorem monthDays_bounds (y m : Nat) : 28 ≤ monthDays y m ∧ monthDays y m ≤ 31 := by
  rw [monthDays_eq]
  repeat' split
  all_goals omega

theorem monthDays_december (y : Nat) : monthDays y 12 = 31 := rfl

theorem nextDay_eq (d : Date) : nextDay d =
    if d.day < monthDays d.year d.month then { year := d.year, month := d.month, day := d.day + 1 }
    else if d.month < 12 then { year := d.year, month := d.month + 1, day := 1 }
    else { year := d.year + 1, month := 1, day := 1 } := rfl

theorem Date.Real.nextDay {d : Date} (h : Date.Real d) : Date.Real (nextDay d) := by
  obtain ⟨hm, hm', hd, hd'⟩ := h
  have hbounds := monthDays_bounds
  rw [nextDay_eq]
  split
  · exact ⟨hm, hm', by dsimp only; omega, by dsimp only; omega⟩
  split
  · exact ⟨by dsimp only; omega, by dsimp only; omega, le_rfl, le_trans (by simp) (hbounds _ _).1⟩
  · exact ⟨le_rfl, by simp, le_rfl, le_trans (by simp) (hbounds _ _).1⟩

theorem dateKey_lt_nextDay {d : Date} (h : Date.Real d) : dateKey d < dateKey (nextDay d) := by
  obtain ⟨hm, hm', hd, hd'⟩ := h
  have hbounds := monthDays_bounds d.year d.month
  rw [nextDay_eq]
  unfold dateKey
  split
  · dsimp only; omega
  split
  · dsimp only; omega
  · dsimp only; omega

/-- Dates compare by year, month and day. -/
theorem dateKey_lt_iff {a b : Date} (ha : a.month ≤ 12) (hb : b.month ≤ 12) (ha' : a.day ≤ 31) (hb' : b.day ≤ 31) :
    dateKey a < dateKey b ↔
      a.year < b.year ∨ (a.year = b.year ∧ (a.month < b.month ∨ (a.month = b.month ∧ a.day < b.day))) := by
  unfold dateKey
  omega

/-- No date of the calendar lies between a date and the day after it. -/
theorem dateKey_nextDay_le {a b : Date} (ha : Date.Real a) (hb : Date.Real b) (h : dateKey a < dateKey b) :
    dateKey (nextDay a) ≤ dateKey b := by
  obtain ⟨ham, ham', had, had'⟩ := ha
  obtain ⟨hbm, hbm', hbd, hbd'⟩ := hb
  have hbounds := monthDays_bounds
  have ha31 : a.day ≤ 31 := had'.trans (hbounds _ _).2
  have hb31 : b.day ≤ 31 := hbd'.trans (hbounds _ _).2
  have hsame : a.year = b.year → a.month = b.month → monthDays a.year a.month = monthDays b.year b.month := by
    rintro hy hm; rw [hy, hm]
  rw [dateKey_lt_iff ham' hbm' ha31 hb31] at h
  rw [nextDay_eq]
  unfold dateKey
  split
  · dsimp only; omega
  split
  · dsimp only; omega
  · dsimp only; omega

theorem addDays_nextDay (d : Date) (n : Nat) : addDays (nextDay d) n = nextDay (addDays d n) := by
  induction n generalizing d with
  | zero => rfl
  | succ n ih => exact ih (nextDay d)

/-! ### The clock (R36, R37) -/

theorem timeExists_iff (t : DateTime) : timeExists t = true ↔
    (2000 ≤ t.date.year ∧ t.date.year ≤ 2099 ∧ Date.Real t.date) ∧ t.hour ≤ 23 ∧ t.minute ≤ 59 ∧ t.second ≤ 59 := by
  simp [timeExists, dateExists, Date.Real, and_assoc]

theorem nextSecond_lastSecond : nextSecond lastSecond = lastSecond := if_pos rfl

/-- The day after a date of the clock, but for its last, is of the clock. -/
theorem nextDay_year_le {d : Date} (h : Date.Real d) (hy : d.year ≤ 2099)
    (hlast : d ≠ { year := 2099, month := 12, day := 31 }) : d.year ≤ (nextDay d).year ∧ (nextDay d).year ≤ 2099 := by
  obtain ⟨-, hm, -, hd⟩ := h
  rw [nextDay_eq]
  split
  · exact ⟨le_rfl, hy⟩
  split
  · exact ⟨le_rfl, hy⟩
  next hday hmonth =>
  refine ⟨Nat.le_succ _, Nat.lt_of_le_of_ne hy fun hyear => hlast ?_⟩
  obtain ⟨year, month, day⟩ := d
  obtain rfl : month = 12 := Nat.le_antisymm hm (Nat.le_of_not_lt hmonth)
  rw [monthDays_december] at hd hday
  obtain rfl : day = 31 := Nat.le_antisymm hd (Nat.le_of_not_lt hday)
  exact congrArg (fun y => ({ year := y, month := 12, day := 31 } : Date)) hyear

/-- The next second of the clock, where it does not hold: a second, a minute, an hour or a day further (R36). -/
theorem nextSecond_spec {now : DateTime} (h : timeExists now = true) (hlast : now ≠ lastSecond) :
    timeExists (nextSecond now) = true ∧
      ((nextSecond now = { now with second := now.second + 1 }) ∨
        (now.second = 59 ∧ nextSecond now = { now with minute := now.minute + 1, second := 0 }) ∨
        (now.second = 59 ∧ now.minute = 59 ∧ nextSecond now = { now with hour := now.hour + 1, minute := 0, second := 0 }) ∨
        (now.second = 59 ∧ now.minute = 59 ∧ now.hour = 23 ∧
          nextSecond now = { date := nextDay now.date, hour := 0, minute := 0, second := 0 })) := by
  obtain ⟨⟨hy, hy', hd⟩, hh, hm, hs⟩ := (timeExists_iff now).mp h
  rw [timeExists_iff]
  unfold nextSecond
  rw [if_neg hlast]
  split
  · next hsec => exact ⟨⟨⟨hy, hy', hd⟩, hh, hm, hsec⟩, .inl rfl⟩
  next hsec =>
  have hsec : now.second = 59 := by omega
  split
  · next hmin => exact ⟨⟨⟨hy, hy', hd⟩, hh, hmin, by simp⟩, .inr (.inl ⟨hsec, rfl⟩)⟩
  next hmin =>
  have hmin : now.minute = 59 := by omega
  split
  · next hhour => exact ⟨⟨⟨hy, hy', hd⟩, hhour, by simp, by simp⟩, .inr (.inr (.inl ⟨hsec, hmin, rfl⟩))⟩
  next hhour =>
  have hhour : now.hour = 23 := by omega
  have hdate : now.date ≠ { year := 2099, month := 12, day := 31 } := by
    intro hdate
    obtain ⟨date, hour, minute, second⟩ := now
    exact hlast (by simp_all [lastSecond])
  obtain ⟨hfrom, hto⟩ := nextDay_year_le hd hy' hdate
  exact ⟨⟨⟨hy.trans hfrom, hto, hd.nextDay⟩, by simp, by simp, by simp⟩,
    .inr (.inr (.inr ⟨hsec, hmin, hhour, rfl⟩))⟩

end Sys2Proof.Machine

open Sys2Proof Sys2Proof.Machine

/-- Settles O28: the clock's requests and its second as they are defined, and the calendar from the day after a date. -/
theorem yardClock : Obligations.YardClock := by
  refine ⟨fun s q y mo d h mi sec role => ⟨fun ht => ?_, fun ht => request_answered s _ q _ role id _ ht ?_⟩,
    fun s => ⟨?_, nextSecond_lastSecond, fun now => nextSecond_spec⟩,
    monthDays_eq, nextDay_eq, fun d => ⟨rfl, addDays_nextDay d⟩, fun a b => dateKey_lt_iff, ?_⟩
  · have hexists := timeExists_iff { date := { year := y, month := mo, day := d }, hour := h, minute := mi, second := sec }
    simp only [Date.Real, and_assoc] at hexists
    split
    · next hok => exact request_answered s _ q _ role _ _ ht (by simp [serveSetClock, hexists.mpr hok])
    · next hbad => exact request_refused s _ q _ role _ ht (by simp [serveSetClock, mt hexists.mp hbad])
  · simp only [serveReadClock, State.recs_handed]
    rfl
  · rfl
  · intro a b real ha
    exact ⟨Date.Real.nextDay ha, dateKey_lt_nextDay ha, dateKey_nextDay_le ha⟩
end

section
/-! SUPPORT. The requests of the ticket counter and the ticket log (R39, R44 to R46). -/

namespace Sys2Proof.Machine

/-- The tests of a SET_TICKET_BASE for uncollected records (R39). -/
theorem Records.uncollected_refused_iff (r : Records) :
    (r.counter.isSome && !(uncollected r.log).isEmpty) = true ↔ r.counter ≠ none ∧ ∃ k ∈ r.log, k.collected = false := by
  simp [uncollected, Option.isSome_iff_ne_none]

/-- A confirmation marks the records from the oldest up to the first of its number (R46). -/
theorem collectTo_append {n : Nat} {older : List Ticket} {k : Ticket} {newer : List Ticket}
    (holder : ∀ x ∈ older, x.number ≠ n) (hk : k.number = n) :
    collectTo n (older ++ k :: newer) =
      older.map (fun x => { x with collected := true }) ++ { k with collected := true } :: newer := by
  induction older with
  | nil => simp [collectTo, hk]
  | cons x xs ih =>
    obtain ⟨hx, hxs⟩ := List.forall_mem_cons.mp holder
    simp [collectTo, hx, ih hxs]

section
variable {s : State} {role : Role} {n number reason : Nat}

theorem serveSetTicketBase_accepted (hn : ¬ (n < 1 ∨ 99999999 < n))
    (hfree : ¬ (s.recs.counter ≠ none ∧ ∃ k ∈ s.recs.log, k.collected = false)) :
    serveSetTicketBase n role s =
      (((s.modRecs fun x => { x with counter := some n, seqStart := true, log := [] }).flag .ticketLog).retry, .ok) :=
  (if_neg hn).trans (if_neg (mt s.recs.uncollected_refused_iff.mp hfree))

theorem serveSetTicketBase_uncollected (hn : ¬ (n < 1 ∨ 99999999 < n))
    (hrest : s.recs.counter ≠ none ∧ ∃ k ∈ s.recs.log, k.collected = false) :
    serveSetTicketBase n role s = (s, .only .uncollected) :=
  (if_neg hn).trans (if_pos (s.recs.uncollected_refused_iff.mpr hrest))

theorem serveConfirmCollected_some {k : Ticket} (hk : s.recs.ticket n = some k) (hc : k.collected = false) :
    serveConfirmCollected n role s =
      ((s.modRecs fun x => { x with log := collectTo n x.log }).retry,
        .ok (u16 ((uncollected s.recs.log).length - (uncollected (collectTo n s.recs.log)).length))) := by
  simp only [serveConfirmCollected, hk, hc]
  rfl

theorem serveVoidTicket_badArgument (h : reason < 1 ∨ 255 < reason) :
    serveVoidTicket number reason role s = (s, .only .badArgument) := by
  have hr : holdReasonOk reason ≠ true := mt holdReasonOk_iff.mp (by omega)
  simp [serveVoidTicket, hr]

/-- VOID_TICKET of a ticket in the log, with a reason that it takes, by the tests that remain (R44). -/
theorem serveVoidTicket_some {k : Ticket} (h : ¬ (reason < 1 ∨ 255 < reason)) (hk : s.recs.ticket number = some k) :
    serveVoidTicket number reason role s =
      if k.body.isVoid then (s, .only .wrongKind)
      else if k.voided then (s, .only .alreadyVoid)
      else if s.recs.freeSlot = false then (s, .only .logFull)
      else
        ((s.modRecs fun x =>
          { x with log := x.log.map fun u => if u.number = number then { u with voided := true } else u }).issue
            { k with body := .void k.number reason }, .ok (u32 s.recs.nextTicket)) := by
  have hr : holdReasonOk reason = true := holdReasonOk_iff.mpr (by omega)
  simp only [serveVoidTicket, hr, hk, Bool.not_eq_true']
  rfl

end

end Sys2Proof.Machine

open Sys2Proof Sys2Proof.Machine

/-- Settles O29, request by request, each by its tests in their order. -/
theorem ticketLogRequests : Obligations.TicketLogRequests := by
  refine ⟨fun s q n role => ⟨fun h => ?_, fun h => ?_⟩, fun n before k after => collectTo_append,
    fun s q number reason role => ?_, fun s q number role => ⟨fun h => ?_, fun h => ?_⟩⟩
  · split
    · next hn => exact request_refused s _ q _ role _ h (if_pos hn)
    next hn =>
    split
    · next hrest =>
      exact request_refused s _ q _ role _ h (serveSetTicketBase_uncollected hn (by rwa [State.recs_handed]))
    · next hfree =>
      exact request_answered s _ q _ role _ _ h (serveSetTicketBase_accepted hn (by rwa [State.recs_handed]))
  · split
    · next hk => exact request_answered s _ q _ role id _ h (by simp [serveConfirmCollected, hk])
    next k hk =>
    split
    · next hc => exact request_answered s _ q _ role id _ h (by simp [serveConfirmCollected, hk, hc])
    · next hc =>
      have hserve := serveConfirmCollected_some (s := s.handed (.confirmCollected q n) q) (role := role)
        (by rwa [State.recs_handed]) (Bool.eq_false_iff.mpr hc)
      exact request_answered s _ q _ role _ _ h (by rw [hserve, State.recs_handed])
  · intro c h
    split
    · next hr => exact request_refused s c q _ role _ h (serveVoidTicket_badArgument hr)
    next hr =>
    split
    · next hk =>
      have hok : holdReasonOk reason = true := holdReasonOk_iff.mpr (by omega)
      exact request_refused s c q _ role _ h (by simp [serveVoidTicket, hok, hk])
    next k hk =>
    have hserve := serveVoidTicket_some (s := s.handed c q) (role := role) hr (by rwa [State.recs_handed])
    split
    · next hb => exact request_refused s c q _ role _ h (by simp [hserve, hb, TicketBody.isVoid])
    next hb =>
    rw [hb, TicketBody.isVoid, if_neg Bool.false_ne_true] at hserve
    split
    · next hv => exact request_refused s c q _ role _ h (hserve.trans (if_pos hv))
    next hv =>
    split
    · next hf => exact request_refused s c q _ role _ h (by rw [hserve, if_neg hv, State.recs_handed, if_pos hf])
    · next hf => exact request_answered s c q _ role _ _ h (by rw [hserve, if_neg hv, State.recs_handed, if_neg hf])
  · refine request_answered s _ q _ role id _ h ?_
    simp only [serveCollectNext, State.recs_handed, uncollected]
    cases s.recs.log.filter fun k => !k.collected <;> rfl
  · refine request_answered s _ q _ role id _ h ?_
    simp only [serveReadTicket, State.recs_handed, Records.ticket]
    cases s.recs.log.find? fun k => k.number == number <;> rfl
end

section
/-! SUPPORT. A yard tick: what it samples and counts, and the windows it opens (R50, R51, R56, R126). -/

namespace Sys2Proof.Machine

/-! ### The samples (R126) -/

theorem Input.mem_all (i : Input) : i ∈ Input.all := by
  cases i with
  | stop l => revert l; decide
  | boom b => cases b <;> decide
  | beam1 d | beam2 d => cases d <;> decide

/-- A walk over inputs changes nothing but the inputs. -/
theorem State.foldl_modInp_eq (f : Input → ConditionerWork → ConditionerWork) (is : List Input) (s : State) :
    is.foldl (fun t i => t.modInp i (f i)) s =
      { s with main := { s.main with inputs := (is.foldl (fun t i => t.modInp i (f i)) s).main.inputs } } := by
  induction is generalizing s with
  | nil => rfl
  | cons i is ih => exact ih (s.modInp i (f i))

/-- Each input of a list without repetitions is rewritten once. -/
theorem State.inp_foldl_modInp (f : Input → ConditionerWork → ConditionerWork) (i : Input) (is : List Input)
    (his : is.Nodup) (s : State) :
    (is.foldl (fun t i => t.modInp i (f i)) s).inp i = if i ∈ is then f i (s.inp i) else s.inp i := by
  induction is generalizing s with
  | nil => rfl
  | cons j is ih =>
    rw [List.nodup_cons] at his
    rw [List.foldl_cons, ih his.2]
    by_cases hij : i = j
    · subst hij
      simp [his.1]
    · simp [hij, State.inp_modInp_ne s j _ hij]

theorem State.inp_sample (s : State) (x : Lines) (i : Input) :
    (s.sample x).inp i = (s.inp i).tick (x.inputs.get i != (s.inpCfg i).inverted) s.sup.firstTick := by
  rw [State.sample, State.inp_foldl_modInp _ i _ (by decide), if_pos (Input.mem_all i)]

theorem State.sample_eq (s : State) (x : Lines) :
    s.sample x = { s with main := { s.main with inputs := (s.sample x).main.inputs } } := State.foldl_modInp_eq ..

/-! ### The windows (R56) -/

/-- Whether a window of a deck opens at the yard millisecond count as it stands (R56). -/
def State.opens (s : State) (d : Deck) : Bool := (s.win d).runs && (s.win d).current.isNone && s.onBoundary d

theorem Channel.mem_all (c : Channel) : c ∈ Channel.all := by revert c; decide

theorem State.mem_channelSet (s : State) (d : Deck) (c : Channel) : c ∈ s.channelSet d ↔ (s.chanCfg c).map = some d := by
  simp [State.channelSet, Channel.mem_all]

/-- A walk over channels changes nothing but the channels. -/
theorem State.modChans_eq (s : State) (cs : List Channel) (f : ChannelWork → ChannelWork) :
    s.modChans cs f = { s with main := { s.main with channels := (s.modChans cs f).main.channels } } := by
  unfold State.modChans
  induction cs generalizing s with
  | nil => rfl
  | cons c cs ih => exact ih (s.modChan c f)

/-- A rewriting that is the same once or twice over. -/
theorem State.chan_modChans (s : State) (cs : List Channel) {f : ChannelWork → ChannelWork} (hf : ∀ w, f (f w) = f w)
    (c : Channel) : (s.modChans cs f).chan c = if c ∈ cs then f (s.chan c) else s.chan c := by
  unfold State.modChans
  induction cs generalizing s with
  | nil => rfl
  | cons a cs ih =>
    rw [List.foldl_cons, ih]
    by_cases hca : c = a
    · subst hca
      simp [hf]
    · simp [hca, State.chan_modChan_ne s a _ hca]

/-- What the opening of windows leaves: all but the windows, the engines and the channels. -/
def State.BesideWindows (s t : State) : Prop :=
  t = { s with main :=
    { s.main with windows := t.main.windows, engines := t.main.engines, channels := t.main.channels } }

theorem State.BesideWindows.trans {s t u : State} (h : s.BesideWindows t) (k : t.BesideWindows u) : s.BesideWindows u := by
  unfold State.BesideWindows at *
  rw [h] at k
  exact k

section
variable (s : State) (d : Deck)

theorem State.besideWindows_maybeOpen : s.BesideWindows (s.maybeOpen d) := by
  unfold State.maybeOpen
  split
  · unfold State.BesideWindows State.openWindow
    rw [State.modChans_eq]
    rfl
  · rfl

theorem State.win_modChans (cs : List Channel) (f : ChannelWork → ChannelWork) : (s.modChans cs f).win d = s.win d := by
  rw [State.modChans_eq]
  rfl

theorem State.win_maybeOpen : (s.maybeOpen d).win d =
    if s.opens d then
      { s.win d with current := some { opened := s.ms }, serial := (s.win d).serial + 1, first := false }
    else s.win d := by
  unfold State.maybeOpen State.opens
  split
  · rw [State.openWindow, State.win_modEng, State.win_modChans, State.win_modWin_self]
  · rfl

theorem State.win_maybeOpen_ne {e : Deck} (h : e ≠ d) : (s.maybeOpen d).win e = s.win e := by
  unfold State.maybeOpen
  split
  · rw [State.openWindow, State.win_modEng, State.win_modChans, State.win_modWin_ne _ _ _ h]
  · rfl

/-- The window mark of a deck whose window opens (R86). -/
theorem State.eng_maybeOpen_self : (s.maybeOpen d).eng d =
    { s.eng d with
      windowMark := if s.opens d then (s.win d).first || !(s.eng d).positioned else (s.eng d).windowMark } := by
  unfold State.maybeOpen State.opens
  split
  · rw [State.openWindow, State.eng_modEng_self, State.eng_modChans, State.eng_modWin]
  · rfl

/-- Every channel of a deck whose window opens counts from 0 (R56). -/
theorem State.chan_maybeOpen (c : Channel) : (s.maybeOpen d).chan c =
    if s.opens d = true ∧ (s.chanCfg c).map = some d then { s.chan c with running := some 0, saturated := false }
    else s.chan c := by
  unfold State.maybeOpen State.opens
  split
  · next h =>
    rw [State.openWindow, State.chan_modEng, State.chan_modChans]
    · simp only [State.mem_channelSet, h, true_and]
      rfl
    · exact fun _ => rfl
  · next h => simp [h]

/-- The opening of a deck's window does not bear on the other deck's. -/
theorem State.opens_maybeOpen_ne {e : Deck} (h : e ≠ d) : (s.maybeOpen d).opens e = s.opens e := by
  have hframe := s.besideWindows_maybeOpen d
  have hboundary : (s.maybeOpen d).onBoundary e = s.onBoundary e := by rw [hframe]; rfl
  rw [State.opens, State.opens, s.win_maybeOpen_ne d h, hboundary]

end

/-- The windows of both decks open, where they are due (R56). -/
def State.openBoth (s : State) : State := (s.maybeOpen .a).maybeOpen .b

section
variable (s : State)

theorem State.besideWindows_openBoth : s.BesideWindows s.openBoth :=
  (s.besideWindows_maybeOpen .a).trans ((s.maybeOpen .a).besideWindows_maybeOpen .b)

theorem State.ms_maybeOpen (d : Deck) : (s.maybeOpen d).ms = s.ms := by rw [s.besideWindows_maybeOpen d]; rfl
theorem State.chanCfg_maybeOpen (d : Deck) (c : Channel) : (s.maybeOpen d).chanCfg c = s.chanCfg c := by
  rw [s.besideWindows_maybeOpen d]; rfl

theorem State.sup_openBoth : s.openBoth.sup = s.sup := by rw [s.besideWindows_openBoth]; rfl
theorem State.ms_openBoth : s.openBoth.ms = s.ms := by rw [s.besideWindows_openBoth]; rfl
theorem State.arb_openBoth (d : Deck) : s.openBoth.arb d = s.arb d := by rw [s.besideWindows_openBoth]; rfl
theorem State.lane_openBoth (l : Lane) : s.openBoth.lane l = s.lane l := by rw [s.besideWindows_openBoth]; rfl
theorem State.bar_openBoth (b : Barrier) : s.openBoth.bar b = s.bar b := by rw [s.besideWindows_openBoth]; rfl
theorem State.inp_openBoth (i : Input) : s.openBoth.inp i = s.inp i := by rw [s.besideWindows_openBoth]; rfl
theorem State.port_openBoth (p : Port) : s.openBoth.port p = s.port p := by rw [s.besideWindows_openBoth]; rfl

theorem State.win_openBoth (d : Deck) : s.openBoth.win d =
    if s.opens d then
      { s.win d with current := some { opened := s.ms }, serial := (s.win d).serial + 1, first := false }
    else s.win d := by
  cases d with
  | a => rw [State.openBoth, State.win_maybeOpen_ne _ _ (by decide), State.win_maybeOpen]
  | b =>
    rw [State.openBoth, State.win_maybeOpen, State.opens_maybeOpen_ne _ _ (by decide),
      State.win_maybeOpen_ne _ _ (by decide), State.ms_maybeOpen]

theorem State.eng_openBoth (d : Deck) : s.openBoth.eng d =
    { s.eng d with
      windowMark := if s.opens d then (s.win d).first || !(s.eng d).positioned else (s.eng d).windowMark } := by
  cases d with
  | a => rw [State.openBoth, State.eng_maybeOpen_ne _ (by decide), State.eng_maybeOpen_self]
  | b =>
    rw [State.openBoth, State.eng_maybeOpen_self, State.opens_maybeOpen_ne _ _ (by decide),
      State.win_maybeOpen_ne _ _ (by decide), State.eng_maybeOpen_ne _ (by decide)]

theorem State.chan_openBoth (c : Channel) : s.openBoth.chan c =
    if (s.chanCfg c).map.any s.opens then { s.chan c with running := some 0, saturated := false } else s.chan c := by
  rw [State.openBoth, State.chan_maybeOpen, State.chan_maybeOpen, State.opens_maybeOpen_ne _ _ (by decide),
    State.chanCfg_maybeOpen]
  cases (s.chanCfg c).map with
  | none => simp
  | some d => cases d <;> simp

end

/-! ### The counts and timers (R50, R51) -/

/-- A state with every count, timer and sample of a tick taken, before windows open. -/
def State.counted (s : State) (m : TickMark) (x : Lines) : State :=
  { s with
    backup := { s.backup with records := s.recs.tick m }
    main :=
      { s.main with
        inputs := ((s.modRecs fun r => r.tick m).sample x).main.inputs
        windows := ⟨s.main.windows.a.tick m, s.main.windows.b.tick m⟩
        engines := ⟨s.main.engines.a.tick, s.main.engines.b.tick⟩
        arbiters := ⟨s.main.arbiters.a.tick, s.main.arbiters.b.tick⟩
        lanes := Vector.ofFn fun l => (s.lane l).tick (s.loopActive l)
        barriers :=
          ⟨s.main.barriers.aEntry.tick x.upper.aEntry x.lower.aEntry, s.main.barriers.aExit.tick x.upper.aExit x.lower.aExit,
            s.main.barriers.bEntry.tick x.upper.bEntry x.lower.bEntry,
            s.main.barriers.bExit.tick x.upper.bExit x.lower.bExit⟩
        ports := s.main.ports.map PortWork.tick
        sup := s.main.sup.tick x } }

theorem State.modMain_sample (s : State) (m : TickMark) (x : Lines) :
    (((s.modRecs fun r => r.tick m).sample x).modMain fun v =>
      { v with
        windows := ⟨v.windows.a.tick m, v.windows.b.tick m⟩
        engines := ⟨v.engines.a.tick, v.engines.b.tick⟩
        arbiters := ⟨v.arbiters.a.tick, v.arbiters.b.tick⟩
        lanes := Vector.ofFn fun l => (s.lane l).tick (s.loopActive l)
        barriers :=
          ⟨v.barriers.aEntry.tick x.upper.aEntry x.lower.aEntry, v.barriers.aExit.tick x.upper.aExit x.lower.aExit,
            v.barriers.bEntry.tick x.upper.bEntry x.lower.bEntry, v.barriers.bExit.tick x.upper.bExit x.lower.bExit⟩
        ports := v.ports.map PortWork.tick
        sup := v.sup.tick x }) = s.counted m x := by
  unfold State.counted State.modMain
  rw [State.sample_eq]
  rfl

/-- A tick counts and samples, opens windows, and places barriers if it is the first (R50, R56, R151). -/
theorem State.tick_eq (s : State) (m : TickMark) (x : Lines) :
    s.tick m x =
      if s.sup.firstTick then Barrier.all.foldl (fun t b => t.firstLimits x b) (s.counted m x).openBoth
      else (s.counted m x).openBoth := by
  unfold State.tick
  dsimp only
  rw [State.modMain_sample]
  rfl

section
variable (s : State) (m : TickMark) (x : Lines)

theorem State.win_counted (d : Deck) : (s.counted m x).win d = (s.win d).tick m := by cases d <;> rfl
theorem State.eng_counted (d : Deck) : (s.counted m x).eng d = (s.eng d).tick := by cases d <;> rfl
theorem State.arb_counted (d : Deck) : (s.counted m x).arb d = (s.arb d).tick := by cases d <;> rfl
theorem State.lane_counted (l : Lane) : (s.counted m x).lane l = (s.lane l).tick (s.loopActive l) := by
  simp [State.counted, State.lane, Vector.get_eq_getElem]
theorem State.bar_counted (b : Barrier) : (s.counted m x).bar b = (s.bar b).tick (x.upper.get b) (x.lower.get b) := by
  cases b <;> rfl
theorem State.port_counted (p : Port) : (s.counted m x).port p = (s.port p).tick := by
  simp [State.counted, State.port, Vector.get_eq_getElem]
theorem State.inputs_counted : (s.counted m x).main.inputs = ((s.modRecs fun r => r.tick m).sample x).main.inputs := rfl
theorem State.inp_counted (i : Input) :
    (s.counted m x).inp i = (s.inp i).tick (x.inputs.get i != (s.inpCfg i).inverted) s.sup.firstTick := by
  rw [State.inp, State.inputs_counted]
  exact (s.modRecs fun r => r.tick m).inp_sample x i

theorem Supervisor.tick_eq (v : Supervisor) : v.tick x =
    { v with
      ms := if v.ms < 281474976710655 then v.ms + 1 else v.ms
      startTimer := v.startTimer.map fun n => n - 1
      restore := v.restore.map fun n => if x.supply = .aboveRestore then (if n < 2000 then n + 1 else n) else 0
      calSwitch := if v.firstTick then x.calSwitch else v.calSwitch
      calRun := if v.firstTick ∨ x.calSwitch = v.calSwitch then 0 else v.calRun + 1
      qualification :=
        if v.monitor = .locked then v.qualification
        else if 4014 ≤ x.refEdges ∧ x.refEdges ≤ 4178 then
          (if v.qualification < 1000 then v.qualification + 1 else v.qualification)
        else 0
      firstTick := false, lines := x } := by
  have hrun : (if v.firstTick then 0 else limitRun v.calSwitch x.calSwitch v.calRun) =
      if v.firstTick ∨ x.calSwitch = v.calSwitch then 0 else v.calRun + 1 := by
    unfold limitRun
    cases v.firstTick <;> simp
  have hgood : goodTick x.refEdges = true ↔ 4014 ≤ x.refEdges ∧ x.refEdges ≤ 4178 := by
    simp only [goodTick, Bool.and_eq_true, decide_eq_true_eq]
    rfl
  simp only [Supervisor.tick, hrun, hgood]
  rfl

theorem LaneWork.tick_eq (w : LaneWork) (loop : Debounced) : w.tick (loop == .active) =
    { w with
      absence := if w.state = .waiting ∧ loop ≠ .active then w.absence.map fun n => n - 1 else w.absence
      stuck := w.stuck.map fun n => n - 1
      lamps := w.lamps.map fun k => { k with stretch := k.stretch.map fun n => n - 1 } } := by
  have hoff : w.offLoop (loop == .active) = true ↔ w.state = .waiting ∧ loop ≠ .active := by simp
  simp only [LaneWork.tick, hoff]
  rfl

theorem ConditionerWork.tick_eq (w : ConditionerWork) (raw first : Bool) : w.tick raw first =
    if first then { w with raw := raw, fresh := false, run := some 0 }
    else if w.debounced = (if raw then .active else .clear) then { w with raw := raw, fresh := false, run := none }
    else
      { w with
        raw := raw, fresh := false
        run := match w.run with
          | none => some 0
          | some n => some (if raw = w.raw ∧ w.fresh = false then n + 1 else 0) } := by
  unfold ConditionerWork.tick debouncedOf
  cases w.run <;> rfl

/-- A window opens by the count as the tick leaves it (R51, R56). -/
theorem State.opens_counted (d : Deck) : (s.counted m x).opens d =
    ((s.win d).runs && (s.win d).current.isNone
      && (if s.ms < 281474976710655 then s.ms + 1 else s.ms) % (s.deckCfg d).metrology.window == 0) := by
  have hcurrent : ((s.win d).tick m).current.isNone = (s.win d).current.isNone := by simp [WindowWork.tick]
  rw [State.opens, State.win_counted, hcurrent]
  rfl

end

end Sys2Proof.Machine

open Sys2Proof Sys2Proof.Machine

/-- Settles O48: the counts of a tick (`State.counted`), with the windows that open on them. -/
theorem yardTickCounts : Obligations.YardTickCounts := by
  refine ⟨fun s x hrun => ?_, fun s m x => ?_⟩
  · intro c
    refine congrArg Host.Outcome.next ((if_pos hrun).trans ?_)
    rw [s.tickSource_eq]
    rfl
  · intro backup down opens
    have hopens : (s.counted m x).opens = opens := funext (s.opens_counted m x)
    have hframe := (s.counted m x).besideWindows_openBoth
    refine ⟨(s.counted m x).openBoth, s.tick_eq m x, ?_⟩
    refine ⟨by rw [hframe]; rfl, by rw [hframe]; rfl, by rw [hframe]; rfl, by rw [hframe]; rfl, by rw [hframe]; rfl,
      by rw [hframe]; rfl, by rw [hframe]; rfl, by rw [hframe]; rfl, ?_, fun d => ?_, fun d => ?_, fun c => ?_,
      fun d => ?_, fun l => ?_, fun b => ?_, fun i => ?_, fun p => ?_⟩
    · rw [State.sup_openBoth]
      exact s.sup.tick_eq x
    · rw [State.win_openBoth, State.win_counted, hopens, State.ms_openBoth]
      rfl
    · rw [State.eng_openBoth, State.eng_counted, State.win_counted, hopens]
      rfl
    · rw [State.chan_openBoth, hopens]
      rfl
    · rw [State.arb_openBoth, State.arb_counted]
      rfl
    · rw [State.lane_openBoth, State.lane_counted]
      exact (s.lane l).tick_eq (s.inp (.stop l)).debounced
    · rw [State.bar_openBoth, State.bar_counted]
      rfl
    · rw [State.inp_openBoth, State.inp_counted]
      exact (s.inp i).tick_eq ..
    · rw [State.port_openBoth, State.port_counted]
      rfl
end

section
/-! SUPPORT. The channels of the frequency capture unit: limits, fault latches and edges (R54, R55, R62). -/

namespace Sys2Proof.Machine

theorem clampNat_zero (hi n : Nat) : clampNat 0 hi n = min n hi := by
  unfold clampNat
  split
  · omega
  · split <;> omega

theorem scopeOf_of_ge {n : Nat} (h : 2 ≤ n) : scopeOf n = none := by
  obtain ⟨k, rfl⟩ := Nat.exists_eq_add_of_le' h; rfl
theorem scopeOf_of_lt {n : Nat} (h : n < 2) : scopeOf n = some (n == 1) := by
  match n, h with
  | 0, _ => rfl
  | 1, _ => rfl

/-- A rewriting of a channel reads that channel alone. -/
theorem State.modChan_congr (s : State) (c : Channel) {f g : ChannelWork → ChannelWork}
    (h : f (s.chan c) = g (s.chan c)) : s.modChan c f = s.modChan c g := by
  rw [State.modChan, State.modChan, Bank.mod_congr _ _ h]

section
variable {s : State} {channel scope low high : Nat} {role : Role}

theorem serveSetChannelLimits_unordered {ch : Channel} (hch : channelOf channel = some ch)
    (h : min high 262143 < min low 262143) :
    serveSetChannelLimits channel low high role s = (s, .only .badArgument) := by
  simp only [serveSetChannelLimits, hch, clampNat_zero]
  exact if_pos h

/-- SET_CHANNEL_LIMITS with limits in their order stores them clamped (R54). -/
theorem serveSetChannelLimits_ordered {ch : Channel} (hch : channelOf channel = some ch)
    (h : ¬ min high 262143 < min low 262143) :
    serveSetChannelLimits channel low high role s =
      ((s.modChanCfg ch fun x => { x with low := min low 262143, high := min high 262143 }).flag .decks,
        if min low 262143 = low ∧ min high 262143 = high then .ok
        else { code := .clamped, payload := u32 (min low 262143) ++ u32 (min high 262143) }) := by
  simp only [serveSetChannelLimits, hch, clampNat_zero, bne, Reply.clamped_not₂, Bool.and_eq_true, beq_iff_eq]
  exact if_neg h

/-- CLEAR_FAULTS of channels that it takes, with a scope that it takes (R62). -/
theorem serveClearFaults_named {cs : List Channel} (hcs : channelsOf channel = some cs) (hscope : scope < 2) :
    serveClearFaults channel scope role s =
      ((s.modChans cs fun w => { w with latch := {}, faults := if scope = 1 then 0 else w.faults }).flagIf
          (!(cs.filter fun ch => (s.chan ch).latch != {}).isEmpty ||
            (scope == 1 && cs.any fun ch => (s.chan ch).faults != 0)) .decks,
        .ok (u8 (cs.filter fun ch => (s.chan ch).latch != {}).length)) := by
  simp only [serveClearFaults, hcs, scopeOf_of_lt hscope, beq_iff_eq]

end

/-- An edge counts at a channel that counts, and the count stops at 262,143 with the channel marked (R55). -/
theorem State.converterEdge_eq (s : State) (ch : Channel) (e : Edge) :
    s.converterEdge ch e =
      match (s.chanCfg ch).map with
      | none => s
      | some d =>
        match (s.win d).current with
        | none => s
        | some _ =>
          if (s.chanCfg ch).polarity = e then
            s.modChan ch fun w =>
              match w.running with
              | none => w
              | some n =>
                if n < 262142 then { w with running := some (n + 1) }
                else { w with running := some 262143, saturated := true }
          else s := by
  have hcount : ∀ n, n + 1 < Config.countMax ↔ n < 262142 := fun n => by unfold Config.countMax; omega
  unfold State.converterEdge
  cases (s.chanCfg ch).map with
  | none => rfl
  | some d =>
    simp only [hcount]
    cases (s.win d).current with
    | none => exact if_pos (.inl rfl)
    | some w =>
      by_cases he : (s.chanCfg ch).polarity = e
      · simp only [he, ne_eq, not_true_eq_false, or_false, if_true]
        exact if_neg Bool.false_ne_true
      · exact (if_pos (.inr he)).trans (if_neg he).symm

end Sys2Proof.Machine

open Sys2Proof Sys2Proof.Machine

/-- Settles O30: each request by its operands, and an edge by the channel that it comes to (`State.converterEdge_eq`). -/
theorem channelSettingsAndEdges : Obligations.ChannelSettingsAndEdges := by
  refine ⟨fun s q channel low high scope role => ⟨?_, ?_⟩, fun s ch e hrun => ?_⟩
  · intro c lo hi h
    cases hch : channelOf channel with
    | none => exact request_refused s c q _ role _ h (by simp only [serveSetChannelLimits, hch])
    | some ch =>
      dsimp only
      split
      · next hlt => exact request_refused s c q _ role _ h (serveSetChannelLimits_unordered hch hlt)
      · next hle => exact request_answered s c q _ role _ _ h (serveSetChannelLimits_ordered hch hle)
  · intro c h
    have hcs : (if channel = 4294967295 then some Channel.all else (channelOf channel).map fun ch => [ch]) =
        channelsOf channel := rfl
    rw [hcs]
    cases hnamed : channelsOf channel with
    | none => exact request_refused s c q _ role _ h (by simp only [serveClearFaults, hnamed])
    | some cs =>
      dsimp only
      split
      · next hscope =>
        exact request_refused s c q _ role _ h (by simp only [serveClearFaults, hnamed, scopeOf_of_ge hscope])
      · next hscope =>
        refine request_answered s c q _ role _ _ h ((serveClearFaults_named hnamed (Nat.lt_of_not_le hscope)).trans ?_)
        simp only [State.chan_handed]
        rfl
  · refine (exec_converterEdge ..).trans (event_after s _ _ _ hrun ((State.converterEdge_eq _ ch e).trans ?_))
    simp only [State.chanCfg_consume, State.win_consume]
    rfl
end

section
/-! SUPPORT. The windows of a deck: their status, the judging of one channel, their opening and their close at full length
(R56 to R61, R86). -/

namespace Sys2Proof.Machine

theorem windowStatus_eq (es : List WindowEntry) :
    windowStatus es = if es = [] then .noChannels else if ∀ x ∈ es, x.cause = none then .valid else .channelInvalid := by
  have hinvalid : (es.any fun e => e.cause.isSome) = true ↔ ¬ ∀ x ∈ es, x.cause = none := by
    simp [Option.isSome_iff_ne_none]
  unfold windowStatus
  rw [if_congr List.isEmpty_iff rfl rfl, if_congr hinvalid rfl rfl, ite_not]

theorem WindowWork.nextNumber_eq {w : WindowWork} (h : w.number ≤ 4294967295) :
    w.nextNumber = if w.number < 4294967295 then w.number + 1 else 0 := by
  unfold WindowWork.nextNumber Config.windowNumbers
  split <;> omega

/-- A count in range leaves the fault latch and the fault counter as they are (R57). -/
theorem State.judgeChannel_valid {s : State} {d : Deck} {n : Nat} {c : Channel}
    (h : judgeCount (s.chanCfg c) (s.chan c) = none) :
    s.judgeChannel d n c = s.modChan c fun w =>
      { w with running := none, saturated := false
               last := some { count := (s.chan c).running.getD 0, cause := none } } := by
  simp only [State.judgeChannel, h]

/-- An invalid channel adds its cause to its latch and one to its fault counter (R61). -/
theorem State.judgeChannel_invalid {s : State} {d : Deck} {n : Nat} {c : Channel} {k : CountCause}
    (h : judgeCount (s.chanCfg c) (s.chan c) = some k) :
    s.judgeChannel d n c =
      let t := (s.modChan c fun w =>
          { w with running := none, saturated := false
                   last := some { count := (s.chan c).running.getD 0, cause := some k }
                   latch := (s.chan c).latch.add k
                   faults := if w.faults < 65535 then w.faults + 1 else w.faults }).flagIf
        ((s.chan c).latch.add k != (s.chan c).latch) .decks
      if (s.chan c).latch = {} then
        t.post .captureUnit (.channelFault c d k ((s.chan c).running.getD 0) n)
      else t := by
  simp only [State.judgeChannel, h]
  rw [s.modChan_congr c]
  rfl

section
variable (s : State) (d : Deck) (b : Nat)

theorem State.win_openWindow : (s.openWindow d b).win d =
    { s.win d with current := some { opened := b, backup := false }, serial := (s.win d).serial + 1, first := false } := by
  rw [State.openWindow, State.win_modEng, State.win_modChans, State.win_modWin_self]

theorem State.eng_openWindow : (s.openWindow d b).eng d =
    { s.eng d with windowMark := (s.win d).first || !(s.eng d).positioned } := by
  rw [State.openWindow, State.eng_modEng_self, State.eng_modChans, State.eng_modWin]

/-- Every channel of the deck counts from 0 (R56). -/
theorem State.chan_openWindow (c : Channel) : (s.openWindow d b).chan c =
    if (s.chanCfg c).map = some d then { s.chan c with running := some 0, saturated := false } else s.chan c := by
  rw [State.openWindow, State.chan_modEng, State.chan_modChans]
  · simp only [State.mem_channelSet, State.chan_modWin]
  · exact fun _ => rfl

end

/-- A window that has reached its full length closes, and the next one opens at its boundary (R56 to R59). -/
theorem State.windowClose_due {s : State} {d : Deck} {w : OpenWindow} (hw : (s.win d).current = some w)
    (hdue : w.opened + s.windowLength d ≤ s.ms) :
    s.windowClose d =
      let n := (s.win d).nextNumber
      let es := (s.channelSet d).map s.windowEntry
      let t := ((s.channelSet d).foldl (fun t c => t.judgeChannel d n c) s).modWin d fun x =>
        { x with
          current := none, number := n, last := some { number := n, timing := w.timing, status := windowStatus es } }
      (t.raise [.engineWindow
        { deck := d, number := n, closing := w.opened + s.windowLength d, length := s.windowLength d, timing := w.timing
          status := windowStatus es, channels := es, marked := (s.eng d).windowMark
          serial := (s.win d).serial }]).openWindow d (w.opened + s.windowLength d) := by
  simp only [State.windowClose, hw]
  exact if_neg (Nat.not_lt.mpr hdue)

theorem State.windowClose_notDue {s : State} {d : Deck} {w : OpenWindow} (hw : (s.win d).current = some w)
    (h : s.ms < w.opened + s.windowLength d) : s.windowClose d = s := by
  simp only [State.windowClose, hw]
  exact if_pos h

theorem State.windowClose_none {s : State} {d : Deck} (hw : (s.win d).current = none) : s.windowClose d = s := by
  simp only [State.windowClose, hw]

end Sys2Proof.Machine

open Sys2Proof Sys2Proof.Machine

/-- Settles O31: the close by whether the window is due, the judgement by its cause, and the opening item by item. -/
theorem windowsOpenCloseAndAreJudged : Obligations.WindowsOpenCloseAndAreJudged := by
  refine ⟨fun s d hrun => ?_, fun s d n ch => ?_, fun s d b => ⟨?_, ?_, ?_⟩⟩
  · intro c L n cs es hn
    refine (exec_windowClose ..).trans (event_after s c _ _ hrun ?_)
    cases hw : (s.win d).current with
    | none => exact State.windowClose_none hw
    | some w =>
      dsimp only
      split
      · next h => exact State.windowClose_notDue hw h
      · next h =>
        refine (State.windowClose_due (s := s.consume c) hw (Nat.le_of_not_lt h)).trans ?_
        simp only [windowStatus_eq, State.win_consume, WindowWork.nextNumber_eq hn]
        rfl
  · intro w count k
    have hk : judgeCount (s.chanCfg ch) w = k := rfl
    refine ⟨hk, ?_⟩
    generalize k = k' at hk ⊢
    cases k' with
    | none => exact State.judgeChannel_valid hk
    | some cause =>
      refine (State.judgeChannel_invalid hk).trans ?_
      cases cause <;> rfl
  · exact s.win_openWindow d b
  · exact s.eng_openWindow d b
  · exact s.chan_openWindow d b
end

section
/-! SUPPORT. Windows that close before a change of settings: what their closing keeps, and how one is cut short (R53, R58,
R60). -/

namespace Sys2Proof.Machine

theorem State.eng_openWindow_ne (s : State) {d x : Deck} (b : Nat) (h : x ≠ d) : (s.openWindow d b).eng x = s.eng x := by
  rw [State.openWindow, State.eng_modEng_ne _ _ _ h, State.eng_modChans, State.eng_modWin]

/-- What the opening and the closing of windows keep of the part: the backup domain, the supervisor and the ZERO_LIMIT
latches. -/
structure State.KeepsSettings (s t : State) : Prop where
  backup : t.backup = s.backup
  sup : t.sup = s.sup
  zeroLimit : ∀ x, (t.eng x).zeroLimit = (s.eng x).zeroLimit

namespace State.KeepsSettings
variable {s t u : State}

theorem refl (s : State) : s.KeepsSettings s := ⟨rfl, rfl, fun _ => rfl⟩

theorem trans (h : s.KeepsSettings t) (k : t.KeepsSettings u) : s.KeepsSettings u :=
  ⟨k.backup.trans h.backup, k.sup.trans h.sup, fun x => (k.zeroLimit x).trans (h.zeroLimit x)⟩

theorem ms (h : s.KeepsSettings t) : t.ms = s.ms := congrArg Supervisor.ms h.sup

theorem windowLength (h : s.KeepsSettings t) (d : Deck) : t.windowLength d = s.windowLength d :=
  congrArg (fun b => (b.decks.get d).metrology.window) h.backup

theorem deckCfg (h : s.KeepsSettings t) (d : Deck) : t.deckCfg d = s.deckCfg d :=
  congrArg (fun b => b.decks.get d) h.backup

theorem modChans (s : State) (cs : List Channel) (f : ChannelWork → ChannelWork) : s.KeepsSettings (s.modChans cs f) := by
  rw [State.modChans_eq]
  exact ⟨rfl, rfl, fun _ => rfl⟩

theorem judgeChannel (s : State) (d : Deck) (n : Nat) (c : Channel) : s.KeepsSettings (s.judgeChannel d n c) := by
  cases hk : judgeCount (s.chanCfg c) (s.chan c) with
  | none =>
    rw [State.judgeChannel_valid hk]
    exact ⟨rfl, rfl, fun _ => rfl⟩
  | some k =>
    rw [State.judgeChannel_invalid hk]
    unfold State.flagIf
    dsimp only
    split <;> split <;> exact ⟨rfl, rfl, fun _ => rfl⟩

theorem judgeChannels (s : State) (d : Deck) (n : Nat) (cs : List Channel) :
    s.KeepsSettings (cs.foldl (fun t c => t.judgeChannel d n c) s) := by
  induction cs generalizing s with
  | nil => exact refl s
  | cons c cs ih => exact (judgeChannel s d n c).trans (ih _)

theorem openWindow (s : State) (d : Deck) (b : Nat) : s.KeepsSettings (s.openWindow d b) := by
  have hchans := modChans (s.modWin d fun w =>
    { w with current := some { opened := b }, serial := w.serial + 1, first := false }) (s.channelSet d)
    fun c => { c with running := some 0, saturated := false }
  refine ⟨hchans.backup, hchans.sup, fun x => ?_⟩
  by_cases hx : x = d
  · subst hx
    rw [State.eng_openWindow]
  · rw [s.eng_openWindow_ne b hx]

theorem windowClose (s : State) (d : Deck) : s.KeepsSettings (s.windowClose d) := by
  cases hw : (s.win d).current with
  | none =>
    rw [State.windowClose_none hw]
    exact refl s
  | some w =>
    rcases Nat.lt_or_ge s.ms (w.opened + s.windowLength d) with h | h
    · rw [State.windowClose_notDue hw h]
      exact refl s
    · rw [State.windowClose_due hw h]
      have hjudged := judgeChannels s d (s.win d).nextNumber (s.channelSet d)
      have hclosed : ∀ t (f : WindowWork → WindowWork) cs, State.KeepsSettings t ((t.modWin d f).raise cs) :=
        fun t f cs => ⟨rfl, rfl, fun _ => rfl⟩
      exact (hjudged.trans (hclosed ..)).trans (openWindow ..)

theorem closeDue (s : State) (d : Deck) (n : Nat) : s.KeepsSettings (s.closeDue d n) := by
  induction n generalizing s with
  | zero => exact refl s
  | succ n ih => exact (windowClose s d).trans (ih _)

theorem shortRecord (s : State) (d : Deck) : s.KeepsSettings (s.shortRecord d) := by
  unfold State.shortRecord
  split
  · exact refl s
  · have hdropped := modChans s (s.channelSet d) fun c => { c with running := none, saturated := false }
    exact ⟨hdropped.backup, hdropped.sup, hdropped.zeroLimit⟩

theorem shortClose (s : State) (d : Deck) : s.KeepsSettings (s.shortClose d) :=
  (closeDue s d _).trans (shortRecord ..)

end State.KeepsSettings

/-! ### How many windows are due -/

section
variable {s : State} {d : Deck} {w : OpenWindow}

theorem State.dueWindows_eq (hw : (s.win d).current = some w) :
    s.dueWindows d = (s.ms - w.opened) / s.windowLength d := by
  simp only [State.dueWindows, hw]

/-- The window that a full close opens begins at the boundary of the closed one (R56). -/
theorem State.current_windowClose (hw : (s.win d).current = some w) (hdue : w.opened + s.windowLength d ≤ s.ms) :
    ((s.windowClose d).win d).current = some { opened := w.opened + s.windowLength d } := by
  rw [State.windowClose_due hw hdue]
  dsimp only
  rw [State.win_openWindow]

theorem State.shortClose_none (hw : (s.win d).current = none) : s.shortClose d = s := by
  have hdue : s.dueWindows d = 0 := by simp only [State.dueWindows, hw]
  rw [State.shortClose, hdue, State.closeDue, State.shortRecord, hw]

/-- A window that has reached its full length is closed in full before the next one is cut short (R56, R57). -/
theorem State.shortClose_due (hw : (s.win d).current = some w) (hlength : 0 < s.windowLength d)
    (hdue : w.opened + s.windowLength d ≤ s.ms) : s.shortClose d = (s.windowClose d).shortClose d := by
  have hkeeps := State.KeepsSettings.windowClose s d
  have hcount : s.dueWindows d = (s.windowClose d).dueWindows d + 1 := by
    rw [State.dueWindows_eq hw, State.dueWindows_eq (State.current_windowClose hw hdue), hkeeps.ms, hkeeps.windowLength,
      Nat.div_eq_sub_div hlength (by omega), Nat.sub_sub]
  rw [State.shortClose, hcount]
  rfl

/-- A window that has run less than its length closes as SHORT at once (R60). -/
theorem State.shortClose_notDue (hw : (s.win d).current = some w) (h : s.ms < w.opened + s.windowLength d) :
    s.shortClose d = s.shortRecord d := by
  have hnone : s.dueWindows d = 0 := by
    rw [State.dueWindows_eq hw, Nat.div_eq_zero_iff]
    omega
  rw [State.shortClose, hnone]
  rfl

/-- A SHORT window: the counts dropped, its number and its status kept, and its record handed to the engine (R60). -/
theorem State.shortRecord_some (hw : (s.win d).current = some w) :
    s.shortRecord d =
      ((s.dropCounts d).modWin d fun x =>
          { x with
            current := none, number := (s.win d).nextNumber
            last := some { number := (s.win d).nextNumber, timing := w.timing, status := .short } }).raise
        [.engineWindow
          { deck := d, number := (s.win d).nextNumber, closing := s.ms, length := s.ms - w.opened, timing := w.timing
            status := .short, channels := [], marked := (s.eng d).windowMark, serial := (s.win d).serial }] := by
  simp only [State.shortRecord, hw]

theorem State.dropCounts_eq (s : State) (d : Deck) :
    s.dropCounts d = { s with main := { s.main with channels := (s.dropCounts d).main.channels } } := State.modChans_eq ..

theorem State.chan_dropCounts (s : State) (d : Deck) (c : Channel) :
    (s.dropCounts d).chan c =
      if (s.chanCfg c).map = some d then { s.chan c with running := none, saturated := false } else s.chan c := by
  rw [State.dropCounts, State.chan_modChans]
  · simp only [State.mem_channelSet]
  · exact fun _ => rfl

end

end Sys2Proof.Machine
end

section
/-! SUPPORT. The engine state and what a metrological change does to an engine: the record of each operation, and what it
leaves of the rest of the part (R80, R82, R97, R186 to R188, R193). -/

namespace Sys2Proof.Machine

/-- The first row of R80: the engine of a deck is OFF. -/
abbrev State.EngineOff (s : State) (d : Deck) : Prop := s.modeAt (.engine d) = .closed ∨ s.calibrated d = false

theorem State.engineStateNow_off {s : State} {d : Deck} (h : s.EngineOff d) : s.engineStateNow d = .off := if_pos h
theorem State.engineStateNow_on {s : State} {d : Deck} (h : ¬ s.EngineOff d) :
    s.engineStateNow d = (s.eng d).activeState := if_neg h

theorem Engine.activeState_ne_off (g : Engine) : g.activeState ≠ .off := by
  unfold Engine.activeState
  split
  · exact EngineState.noConfusion
  · cases g.occupancy <;> exact EngineState.noConfusion

/-- An engine that holds no capture and no occupancy reading warms up (R80). -/
theorem Engine.activeState_cleared (g : Engine) :
    g.cleared.activeState = if g.capture.isSome then .capturing else .warmup := rfl

theorem State.modEng_modEng (s : State) (d : Deck) (f g : Engine → Engine) :
    (s.modEng d f).modEng d g = s.modEng d fun x => g (f x) := by cases d <;> rfl

/-! ### The engine after each operation -/

section
variable (s : State) (d : Deck)

theorem State.eng_dropCapture (reason : FailReason) : (s.dropCapture d reason).eng d =
    { s.eng d with capture := none, ended := (s.eng d).capture.isSome || (s.eng d).ended } := by
  unfold State.dropCapture
  split
  · next h => rw [h, Option.isSome_none, Bool.false_or, ← h]
  · next h => simp [h]

theorem State.eng_failCollection (reason : CalFailReason) :
    (s.failCollection d reason).eng d = { s.eng d with collection := none } := by
  unfold State.failCollection
  split
  · next h => rw [← h]
  · simp

end

section
variable {s : State} {d : Deck} (window : Option Nat)

theorem State.refreshEngine_same (h : s.engineStateNow d = (s.eng d).state) :
    s.refreshEngine d window = s := if_pos h

/-- Entering OFF ends the capture and the collection and empties the engine (R80, R97, R193). -/
theorem State.refreshEngine_off (h : s.EngineOff d)
    (hs : (s.eng d).state ≠ .off) :
    s.refreshEngine d window =
      (((((s.dropCapture d .aborted).failCollection d .aborted).modEng d fun g => { g.cleared with state := .off }).post
        (.engine d) (.engineState d (s.eng d).state .off window)).flag .decks) := by
  have hnow := State.engineStateNow_off h
  unfold State.refreshEngine
  rw [hnow]
  dsimp only
  rw [if_neg hs.symm, if_pos rfl, State.modEng_modEng]

theorem State.refreshEngine_on (h : ¬ s.EngineOff d)
    (hs : (s.eng d).activeState ≠ (s.eng d).state) :
    s.refreshEngine d window =
      ((s.modEng d fun g => { g with state := (s.eng d).activeState }).post (.engine d)
        (.engineState d (s.eng d).state (s.eng d).activeState window)).flag .decks := by
  have hnow := State.engineStateNow_on h
  unfold State.refreshEngine
  rw [hnow]
  dsimp only
  rw [if_neg hs, if_neg (Engine.activeState_ne_off _)]

theorem State.eng_refreshEngine_on (h : ¬ s.EngineOff d) :
    (s.refreshEngine d window).eng d = { s.eng d with state := (s.eng d).activeState } := by
  by_cases hs : (s.eng d).activeState = (s.eng d).state
  · rw [State.refreshEngine_same window ((State.engineStateNow_on h).trans hs), hs]
  · rw [State.refreshEngine_on window h hs]
    simp

theorem State.eng_refreshEngine_off (h : s.EngineOff d)
    (hs : (s.eng d).state ≠ .off) :
    (s.refreshEngine d window).eng d =
      { (s.eng d).cleared with
        state := .off, capture := none, collection := none
        ended := (s.eng d).capture.isSome || (s.eng d).ended } := by
  rw [State.refreshEngine_off window h hs]
  simp [State.eng_failCollection, State.eng_dropCapture, Engine.cleared]

end

/-! ### What the operations leave -/

/-- What changes of engines leave: all but the engines, the ports and the delivered events. -/
def State.BesideEngines (s t : State) : Prop :=
  t = { s with main := { s.main with engines := t.main.engines, ports := t.main.ports, raised := t.main.raised } }

theorem State.BesideEngines.trans {s t u : State} (h : s.BesideEngines t) (k : t.BesideEngines u) :
    s.BesideEngines u := by
  unfold State.BesideEngines at *
  rw [h] at k
  exact k

/-- A change of one engine, and nothing beside the engines, the ports and the delivered events. -/
structure State.EngineMoves (d : Deck) (s t : State) : Prop where
  frame : s.BesideEngines t
  others : ∀ x, x ≠ d → t.eng x = s.eng x

namespace State.EngineMoves
variable {d : Deck} {s t u : State}

theorem refl (d : Deck) (s : State) : EngineMoves d s s := ⟨rfl, fun _ _ => rfl⟩

theorem trans (h : EngineMoves d s t) (k : EngineMoves d t u) : EngineMoves d s u :=
  ⟨h.frame.trans k.frame, fun x hx => (k.others x hx).trans (h.others x hx)⟩

theorem ite {c : Prop} [Decidable c] (ht : EngineMoves d s t) (hu : EngineMoves d s u) :
    EngineMoves d s (if c then t else u) := by split <;> assumption

theorem modEng (s : State) (f : Engine → Engine) : EngineMoves d s (s.modEng d f) :=
  ⟨rfl, fun _ hx => s.eng_modEng_ne d f hx⟩
theorem post (s : State) (b : Block) (n : NoticeBody) (o : Option Port) : EngineMoves d s (s.post b n o) :=
  ⟨rfl, fun _ _ => rfl⟩
theorem flag (s : State) (f : Flag) : EngineMoves d s (s.flag f) := ⟨rfl, fun _ _ => rfl⟩
theorem raise (s : State) (cs : List Instr) : EngineMoves d s (s.raise cs) := ⟨rfl, fun _ _ => rfl⟩

theorem dropCapture (s : State) (reason : FailReason) : EngineMoves d s (s.dropCapture d reason) := by
  unfold State.dropCapture
  split
  · exact refl d s
  · exact (((modEng ..).trans (raise ..)).trans (post ..)).trans (flag ..)

theorem failCollection (s : State) (reason : CalFailReason) : EngineMoves d s (s.failCollection d reason) := by
  unfold State.failCollection
  split
  · exact refl d s
  · exact ((modEng ..).trans (post ..)).trans (flag ..)

theorem refreshEngine (s : State) (window : Option Nat) : EngineMoves d s (s.refreshEngine d window) := by
  have hoff := ((dropCapture s .aborted).trans (failCollection _ .aborted)).trans (modEng (d := d) _ Engine.cleared)
  exact ite (refl d s) ((((ite hoff (refl d s)).trans (modEng ..)).trans (post ..)).trans (flag ..))

theorem touchDeck (old s : State) (window : Option Nat) : EngineMoves d s (State.touchDeck old s window d) := by
  have hcal : ∀ t : State, EngineMoves d t
      (if old.calibrated d = t.calibrated d then t
      else t.post (.engine d) (.calState d (t.calibrated d) t.backup.calCounter)) := fun t => ite (refl d t) (post ..)
  exact (((modEng s Engine.cleared).trans (hcal _)).trans (refreshEngine ..)).trans (failCollection ..)

theorem engineOff (h : EngineMoves d s t) (x : Deck) : t.EngineOff x ↔ s.EngineOff x := by rw [h.frame]; rfl

end State.EngineMoves

end Sys2Proof.Machine
end

section
/-! SUPPORT. Metrological changes: the engines, the notices and the counter of the decks they touch (R186 to R188). -/

namespace Sys2Proof.Machine

/-- What a metrological change makes of an engine it touches (R186). -/
structure Engine.Touched (off : Prop) (g g' : Engine) : Prop where
  filter : g'.filter = []
  stab : g'.stab = []
  occupancy : g'.occupancy = .unknown
  latest : g'.latest = none
  collection : g'.collection = none
  ends : off → g'.state = .off ∧ g'.capture = none
  stays : ¬ off → g'.capture = g.capture ∧ g'.state = if g.capture.isSome then .capturing else .warmup

/-- A touched deck whose calibrated state changed posts CAL_STATE (R187). -/
def State.judgeCal (old s : State) (d : Deck) : State :=
  if old.calibrated d = s.calibrated d then s
  else s.post (.engine d) (.calState d (s.calibrated d) s.backup.calCounter)

/-- The CAL_STATE of a touched deck whose calibrated state changed (R187). -/
def State.calNotices (old s : State) (d : Deck) : List Notice :=
  if old.calibrated d = s.calibrated d then []
  else [{ block := .engine d, body := .calState d (s.calibrated d) s.backup.calCounter, at_ := s.ms, origin := none }]

/-- The ENGINE_STATE of an engine that comes to a state it is not in (R82). -/
def State.stateNotices (s : State) (d : Deck) (x : EngineState) (window : Option Nat) : List Notice :=
  if (s.eng d).state = x then []
  else [{ block := .engine d, body := .engineState d (s.eng d).state x window, at_ := s.ms, origin := none }]

/-- The CAL_FAILED of the collection that a deck holds, if any (R193). -/
def State.collectionNotices (s : State) (d : Deck) (reason : CalFailReason) : List Notice :=
  match (s.eng d).collection with
  | none => []
  | some k =>
      [{ block := .engine d, body := .calFailed d k.kind reason k.windows k.origin, at_ := s.ms, origin := some k.origin }]

theorem State.touchDeck_eq (old s : State) (window : Option Nat) (d : Deck) : State.touchDeck old s window d =
    ((State.judgeCal old (s.modEng d Engine.cleared) d).refreshEngine d window).failCollection d .aborted := rfl

section
variable (old s : State) (d : Deck)

theorem State.engineMoves_judgeCal : State.EngineMoves d s (State.judgeCal old s d) := .ite (.refl d s) (.post ..)

theorem State.eng_judgeCal (x : Deck) : (State.judgeCal old s d).eng x = s.eng x := by
  unfold State.judgeCal
  split <;> rfl

theorem State.ms_judgeCal : (State.judgeCal old s d).ms = s.ms := by
  unfold State.judgeCal
  split <;> rfl

theorem State.incoming_judgeCal (p : Port) : ((State.judgeCal old s d).port p).incoming =
    (s.port p).incoming ++ State.calNotices old s d := by
  unfold State.judgeCal State.calNotices
  split <;> simp

theorem State.incoming_failCollection (reason : CalFailReason) (p : Port) :
    ((s.failCollection d reason).port p).incoming = (s.port p).incoming ++ s.collectionNotices d reason := by
  unfold State.failCollection State.collectionNotices
  cases (s.eng d).collection <;> simp

end

section
variable {s t : State} {d : Deck} {x : EngineState} (window : Option Nat)

theorem State.collectionNotices_none (h : (s.eng d).collection = none) (reason : CalFailReason) :
    s.collectionNotices d reason = [] := by
  simp only [State.collectionNotices, h]

theorem State.collectionNotices_congr (h : (t.eng d).collection = (s.eng d).collection)
    (hms : t.ms = s.ms) (reason : CalFailReason) : t.collectionNotices d reason = s.collectionNotices d reason := by
  simp only [State.collectionNotices, h, hms]

theorem State.stateNotices_same (h : (s.eng d).state = x) :
    s.stateNotices d x window = [] := if_pos h

theorem State.stateNotices_of_ne (h : (s.eng d).state ≠ x) :
    s.stateNotices d x window =
      [{ block := .engine d, body := .engineState d (s.eng d).state x window, at_ := s.ms, origin := none }] := if_neg h

theorem State.incoming_refreshEngine_off (h : s.EngineOff d) (hs : (s.eng d).state ≠ .off)
    (hc : (s.eng d).capture = none) (p : Port) :
    ((s.refreshEngine d window).port p).incoming = (s.port p).incoming ++ s.collectionNotices d .aborted ++
      s.stateNotices d .off window := by
  have hdrop : s.dropCapture d .aborted = s := by simp only [State.dropCapture, hc]
  have hms : (s.failCollection d .aborted).ms = s.ms := by
    rw [(State.EngineMoves.failCollection (d := d) s .aborted).frame]
    rfl
  rw [State.refreshEngine_off window h hs, hdrop, State.stateNotices_of_ne window hs]
  simp [State.incoming_failCollection, hms]

theorem State.incoming_refreshEngine_on (h : ¬ s.EngineOff d) (p : Port) :
    ((s.refreshEngine d window).port p).incoming = (s.port p).incoming ++
      s.stateNotices d (s.eng d).activeState window := by
  by_cases hs : (s.eng d).activeState = (s.eng d).state
  · rw [State.refreshEngine_same window ((State.engineStateNow_on h).trans hs), State.stateNotices_same window hs.symm,
      List.append_nil]
  · rw [State.refreshEngine_on window h hs, State.stateNotices_of_ne window (Ne.symm hs)]
    simp

end

/-! ### One deck -/

section
variable {old s : State} {d : Deck} {window : Option Nat}

theorem State.eng_judgeCal_cleared :
    (State.judgeCal old (s.modEng d Engine.cleared) d).eng d = (s.eng d).cleared := by
  rw [State.eng_judgeCal, State.eng_modEng_self]

theorem State.engineOff_judgeCal_cleared :
    (State.judgeCal old (s.modEng d Engine.cleared) d).EngineOff d ↔ s.EngineOff d :=
  (State.engineMoves_judgeCal ..).engineOff d

theorem State.incoming_judgeCal_cleared (p : Port) :
    ((State.judgeCal old (s.modEng d Engine.cleared) d).port p).incoming =
      (s.port p).incoming ++ State.calNotices old s d := State.incoming_judgeCal ..

theorem State.collectionNotices_judgeCal_cleared (reason : CalFailReason) :
    (State.judgeCal old (s.modEng d Engine.cleared) d).collectionNotices d reason = s.collectionNotices d reason := by
  rw [State.collectionNotices, State.eng_judgeCal_cleared, State.ms_judgeCal]
  rfl

theorem State.stateNotices_judgeCal_cleared (x : EngineState) :
    (State.judgeCal old (s.modEng d Engine.cleared) d).stateNotices d x window = s.stateNotices d x window := by
  rw [State.stateNotices, State.eng_judgeCal_cleared, State.ms_judgeCal]
  rfl

/-- A deck that a metrological change touches (R80, R186). -/
theorem State.touched_touchDeck (hlaw : (s.eng d).Law) :
    Engine.Touched (s.EngineOff d) (s.eng d) ((State.touchDeck old s window d).eng d) := by
  have heng := State.eng_judgeCal_cleared (old := old) (s := s) (d := d)
  rw [State.touchDeck_eq, State.eng_failCollection]
  by_cases hoff : s.EngineOff d
  · have hoff' := State.engineOff_judgeCal_cleared (old := old).mpr hoff
    by_cases hs : (s.eng d).state = .off
    · obtain ⟨-, -, -, -, hcapture, -⟩ := hlaw.off hs
      have hsame := (State.engineStateNow_off hoff').trans ((congrArg Engine.state heng).trans hs).symm
      rw [State.refreshEngine_same window hsame, heng]
      exact ⟨rfl, rfl, rfl, rfl, rfl, fun _ => ⟨hs, hcapture⟩, fun hon => absurd hoff hon⟩
    · rw [State.eng_refreshEngine_off window hoff' (by rwa [heng]), heng]
      exact ⟨rfl, rfl, rfl, rfl, rfl, fun _ => ⟨rfl, rfl⟩, fun hon => absurd hoff hon⟩
  · rw [State.eng_refreshEngine_on window (mt State.engineOff_judgeCal_cleared.mp hoff), heng]
    exact ⟨rfl, rfl, rfl, rfl, rfl, fun h => absurd h hoff, fun _ => ⟨rfl, Engine.activeState_cleared _⟩⟩

/-- The notices of a touched deck that comes to be OFF, or is (R82, R187, R193). -/
theorem State.incoming_touchDeck_off (hoff : s.EngineOff d) (hc : (s.eng d).capture = none) (p : Port) :
    ((State.touchDeck old s window d).port p).incoming = (s.port p).incoming ++ State.calNotices old s d ++
      s.collectionNotices d .aborted ++ s.stateNotices d .off window := by
  have heng := State.eng_judgeCal_cleared (old := old) (s := s) (d := d)
  have hoff' := State.engineOff_judgeCal_cleared (old := old).mpr hoff
  rw [State.touchDeck_eq, State.incoming_failCollection]
  by_cases hs : (s.eng d).state = .off
  · have hsame := (State.engineStateNow_off hoff').trans ((congrArg Engine.state heng).trans hs).symm
    rw [State.refreshEngine_same window hsame, State.collectionNotices_judgeCal_cleared, State.incoming_judgeCal_cleared,
      State.stateNotices_same window hs, List.append_nil]
  · have hs' : ((State.judgeCal old (s.modEng d Engine.cleared) d).eng d).state ≠ .off := by rwa [heng]
    have hnone := congrArg Engine.collection (State.eng_refreshEngine_off window hoff' hs')
    rw [State.collectionNotices_none hnone, State.incoming_refreshEngine_off window hoff' hs' (by rwa [heng]),
      State.collectionNotices_judgeCal_cleared, State.incoming_judgeCal_cleared, State.stateNotices_judgeCal_cleared,
      List.append_nil]

/-- The notices of a touched deck that stays on (R82, R187, R193). -/
theorem State.incoming_touchDeck_on (hon : ¬ s.EngineOff d) (hc : (s.eng d).capture = none) (p : Port) :
    ((State.touchDeck old s window d).port p).incoming = (s.port p).incoming ++ State.calNotices old s d ++
      s.stateNotices d .warmup window ++ s.collectionNotices d .aborted := by
  have heng := State.eng_judgeCal_cleared (old := old) (s := s) (d := d)
  have hon' := mt (State.engineOff_judgeCal_cleared (old := old)).mp hon
  have hactive : (s.eng d).cleared.activeState = .warmup := by rw [Engine.activeState_cleared, hc]; rfl
  have hrefreshed : ((State.judgeCal old (s.modEng d Engine.cleared) d).refreshEngine d window).collectionNotices d
      .aborted = s.collectionNotices d .aborted := by
    refine State.collectionNotices_congr ?_ ?_ .aborted
    · rw [State.eng_refreshEngine_on window hon', heng]
      rfl
    · rw [(State.EngineMoves.refreshEngine (d := d) _ window).frame]
      exact State.ms_judgeCal ..
  rw [State.touchDeck_eq, State.incoming_failCollection, State.incoming_refreshEngine_on window hon',
    State.incoming_judgeCal_cleared, State.stateNotices_judgeCal_cleared, hrefreshed, heng, hactive]

end

/-! ### Several decks -/

/-- What a walk over touched decks does: each engine by itself, and nothing beside the engines, ports and events. -/
structure State.TouchesDecks (ds : List Deck) (s t : State) : Prop where
  frame : s.BesideEngines t
  others : ∀ x, x ∉ ds → t.eng x = s.eng x
  touched : ds.Nodup → ∀ x ∈ ds, (s.eng x).Law → Engine.Touched (s.EngineOff x) (s.eng x) (t.eng x)

theorem State.touchesDecks_foldl (old s : State) (window : Option Nat) (ds : List Deck) :
    State.TouchesDecks ds s (ds.foldl (fun s d => State.touchDeck old s window d) s) := by
  induction ds generalizing s with
  | nil => exact ⟨rfl, fun _ _ => rfl, by simp⟩
  | cons d ds ih =>
    have hfirst := State.EngineMoves.touchDeck (d := d) old s window
    have hrest := ih (State.touchDeck old s window d)
    rw [List.foldl_cons]
    refine ⟨hfirst.frame.trans hrest.frame, fun x hx => ?_, fun hds x hx hlaw => ?_⟩
    · obtain ⟨hxd, hx⟩ := not_or.mp (mt List.mem_cons.mpr hx)
      exact (hrest.others x hx).trans (hfirst.others x hxd)
    · obtain ⟨hd, hds⟩ := List.nodup_cons.mp hds
      by_cases hxd : x = d
      · subst hxd
        rw [hrest.others x hd]
        exact State.touched_touchDeck hlaw
      · have hkeep := hfirst.others x hxd
        have htouched := hrest.touched hds x ((List.mem_cons.mp hx).resolve_left hxd) (hkeep ▸ hlaw)
        rwa [hkeep, hfirst.engineOff x] at htouched

section
variable (old s : State) (ds : List Deck) (window : Option Nat)

/-- A metrological change from the state with the counter advanced (R186, R188). -/
theorem State.touchesDecks_metroChange : State.TouchesDecks ds s.advanceCounter (State.metroChange old s ds window) := by
  obtain ⟨hframe, hothers, htouched⟩ := State.touchesDecks_foldl old s.advanceCounter window ds
  exact ⟨hframe.trans rfl, hothers, htouched⟩

theorem State.backup_metroChange : (State.metroChange old s ds window).backup =
    { s.backup with
      calCounter := if s.backup.calCounter < 65535 then s.backup.calCounter + 1 else s.backup.calCounter } := by
  have hframe := (State.touchesDecks_metroChange old s ds window).frame
  exact congrArg State.backup hframe

theorem State.latch_metroChange (p : Port) :
    ((State.metroChange old s ds window).port p).latch.holds .decks = true := by
  simp only [State.metroChange, State.port_flag_self, Latch.set_holds]

theorem State.incoming_metroChange (p : Port) : ((State.metroChange old s ds window).port p).incoming =
    ((ds.foldl (fun s d => State.touchDeck old s window d) s.advanceCounter).port p).incoming := by
  rw [State.metroChange, State.port_flag_self]

end

end Sys2Proof.Machine
end

section
/-! SUPPORT. The tests of a metrology set and its store (R60, R67, R103, R189). -/

namespace Sys2Proof.Machine

theorem intervalModeOf_of_ge {n : Nat} (h : 2 ≤ n) : intervalModeOf n = none := by
  obtain ⟨k, rfl⟩ := Nat.exists_eq_add_of_le' h; rfl
theorem intervalModeOf_of_lt {n : Nat} (h : n < 2) : intervalModeOf n = some (if n = 0 then .dual else .single) := by
  match n, h with
  | 0, _ => rfl
  | 1, _ => rfl

theorem exists_deckOf {n : Nat} (h : n < 2) : ∃ d, deckOf n = some d := by
  match n, h with
  | 0, _ => exact ⟨_, rfl⟩
  | 1, _ => exact ⟨_, rfl⟩

/-- A deck starts with its next window only at a boundary (R56). -/
theorem State.maybeOpen_eq (s : State) (d : Deck) :
    s.maybeOpen d =
      if (s.win d).runs = true ∧ (s.win d).current = none ∧ s.sup.ms % (s.deckCfg d).metrology.window = 0 then
        s.openWindow d s.sup.ms
      else s := by
  have hopens : ((s.win d).runs && (s.win d).current.isNone && s.onBoundary d) = true ↔
      (s.win d).runs = true ∧ (s.win d).current = none ∧ s.sup.ms % (s.deckCfg d).metrology.window = 0 := by
    simp only [Bool.and_eq_true, Option.isNone_iff_eq_none, State.onBoundary, beq_iff_eq, and_assoc]
    rfl
  exact if_congr hopens rfl rfl

/-- The values of a set, each legal, and the conditions of its mode (R67, R189). -/
theorem Metrology.ok_iff (m : Metrology) : m.ok = true ↔
    m.e1 ∈ [5, 10, 20, 50, 100] ∧ m.e2 ∈ [5, 10, 20, 50, 100] ∧ 1 ≤ m.max1 ∧ m.max1 ≤ 100000 ∧ 1 ≤ m.max2 ∧
      m.max2 ≤ 100000 ∧ m.window ∈ [50, 100, 200, 400] ∧ m.f ∈ [1, 2, 4, 8] ∧ 2 ≤ m.s ∧ m.s ≤ 16 ∧ m.max2 % m.e2 = 0 ∧
      (m.mode = .dual → m.e1 < m.e2 ∧ m.max1 < m.max2 ∧ m.max1 % m.e2 = 0) ∧
      (m.mode = .single → m.e1 = m.e2 ∧ m.max1 = m.max2) := by
  unfold Metrology.ok Config.capacityMax
  cases m.mode
  all_goals
    simp only [Bool.and_eq_true, List.contains_iff_mem, decide_eq_true_eq, beq_iff_eq, true_implies, reduceCtorEq,
      false_implies]
    tauto

/-- A rewriting of a deck's settings reads those settings alone. -/
theorem State.modDeckCfg_congr (s : State) (d : Deck) {f g : DeckCfg → DeckCfg} (h : f (s.deckCfg d) = g (s.deckCfg d)) :
    s.modDeckCfg d f = s.modDeckCfg d g := by
  cases d
  all_goals
    simp only [State.deckCfg, PerDeck.get] at h
    simp only [State.modDeckCfg, PerDeck.mod, h]

/-- The ZERO_LIMIT of a new Zd: posted where Zd was clamped and the latch is clear (R103, R106). -/
theorem State.latchClamped_eq (t : State) (d : Deck) (same : Prop) [Decidable same] (positive : Bool) :
    (if same then t else t.latchZeroLimit d positive none) =
      if same ∨ (t.eng d).zeroLimit = true then t
      else ((t.modEng d fun g => { g with zeroLimit := true }).post (.engine d) (.zeroLimit d positive none)).flag .decks :=
  (ite_or ..).symm

section
variable (s : State) (d : Deck) (m : Metrology)

/-- The state before the new set is stored: the open window is cut short where its length changes (R60). -/
def State.shortFor : State := if (s.deckCfg d).metrology.window = m.window then s else s.shortClose d

theorem State.keepsSettings_shortFor : s.KeepsSettings (s.shortFor d m) := by
  unfold State.shortFor
  split
  · exact .refl s
  · exact .shortClose s d

/-- The store of a metrology set, with every item read in the state before it (R60, R67, R103, R189). -/
theorem State.storeMetrology_eq :
    s.storeMetrology d m =
      let zd := clampInt (-((m.max2 : Int) * 20)) ((m.max2 : Int) * 20) (s.deckCfg d).zd
      let t := (s.shortFor d m).modDeckCfg d fun x =>
        { x with metrology := m, mark := true, zd := zd, threshold := x.threshold.map (clampNat (2 * m.e1) m.max1) }
      let t := if zd = (s.deckCfg d).zd ∨ (s.eng d).zeroLimit = true then t else
        ((t.modEng d fun g => { g with zeroLimit := true }).post (.engine d) (.zeroLimit d (0 ≤ zd) none)).flag .decks
      let t := if (s.deckCfg d).metrology.window = m.window then t else t.maybeOpen d
      State.setChange s t .setMetrology [d] none := by
  have hkeeps := s.keepsSettings_shortFor d m
  have hcfg := hkeeps.deckCfg d
  have hstore : ((s.shortFor d m).modDeckCfg d fun c => c.withMetrology m) = (s.shortFor d m).modDeckCfg d fun x =>
      { x with metrology := m, mark := true
               zd := clampInt (-((m.max2 : Int) * 20)) ((m.max2 : Int) * 20) (s.deckCfg d).zd
               threshold := x.threshold.map (clampNat (2 * m.e1) m.max1) } :=
    State.modDeckCfg_congr _ d (by rw [hcfg]; rfl)
  unfold State.storeMetrology
  dsimp only
  rw [← State.shortFor, hstore, State.deckCfg_modDeckCfg_self, State.latchClamped_eq, State.eng_modDeckCfg,
    hkeeps.zeroLimit d]

theorem State.KeepsSettings.maybeOpen : s.KeepsSettings (s.maybeOpen d) := by
  unfold State.maybeOpen
  split
  · exact .openWindow ..
  · exact .refl s

theorem State.calCounter_setChange (old : State) (r : CalRequest) (ds : List Deck) (ch : Option Channel) :
    (State.setChange old s r ds ch).backup.calCounter =
      if s.backup.calCounter < 65535 then s.backup.calCounter + 1 else s.backup.calCounter :=
  congrArg Backup.calCounter (State.backup_metroChange old s ds none)

/-- An accepted SET_METROLOGY is answered with the counter it advanced (R186, R189). -/
theorem State.counterReply_storeMetrology : (s.storeMetrology d m).counterReply =
    .ok (u16 (if s.backup.calCounter < 65535 then s.backup.calCounter + 1 else s.backup.calCounter)) := by
  have hopen : ∀ (c : Prop) [Decidable c] (t : State),
      (if c then t else t.maybeOpen d).backup.calCounter = t.backup.calCounter := fun c _ t => by
    split
    · rfl
    · exact congrArg Backup.calCounter (State.KeepsSettings.maybeOpen t d).backup
  have hlatch : ∀ (c : Prop) [Decidable c] (t : State) n,
      (if c then t else ((t.modEng d fun g => { g with zeroLimit := true }).post (.engine d) n none).flag .decks).backup
        = t.backup := fun c _ t n => by split <;> rfl
  rw [State.storeMetrology_eq, State.counterReply, State.calCounter_setChange, hopen,
    hlatch, State.calCounter_modDeckCfg, (s.keepsSettings_shortFor d m).backup]

/-! ### SET_METROLOGY -/

section
variable {deck mode max1 max2 e1 e2 window f sc : Nat} (role : Role)

/-- The metrology set that the arguments of SET_METROLOGY name (R189). -/
abbrev metrologyOf (mode max1 max2 e1 e2 window f sc : Nat) : Metrology :=
  { mode := if mode = 0 then .dual else .single, max1 := max1, max2 := max2, e1 := e1, e2 := e2
    window := window, f := f, s := sc }

theorem metrologyOf_ok_iff (hmode : mode < 2) : (metrologyOf mode max1 max2 e1 e2 window f sc).ok = true ↔
    e1 ∈ [5, 10, 20, 50, 100] ∧ e2 ∈ [5, 10, 20, 50, 100] ∧ 1 ≤ max1 ∧ max1 ≤ 100000 ∧ 1 ≤ max2 ∧ max2 ≤ 100000 ∧
      window ∈ [50, 100, 200, 400] ∧ f ∈ [1, 2, 4, 8] ∧ 2 ≤ sc ∧ sc ≤ 16 ∧ max2 % e2 = 0 ∧
      (mode = 0 → e1 < e2 ∧ max1 < max2 ∧ max1 % e2 = 0) ∧ (mode = 1 → e1 = e2 ∧ max1 = max2) := by
  have hdual : (if mode = 0 then IntervalMode.dual else .single) = .dual ↔ mode = 0 := by simp
  have hsingle : (if mode = 0 then IntervalMode.dual else .single) = .single ↔ mode = 1 := by
    split
    · next h => simp [h]
    · simp only [true_iff]
      omega
  rw [Metrology.ok_iff, hdual, hsingle]

theorem serveSetMetrology_illegal
    (h : ¬ (deck < 2 ∧ mode < 2 ∧ (metrologyOf mode max1 max2 e1 e2 window f sc).ok = true)) :
    serveSetMetrology deck mode max1 max2 e1 e2 window f sc role s = (s, .only .badArgument) := by
  unfold serveSetMetrology
  rcases Nat.lt_or_ge deck 2 with hdeck | hdeck
  · rcases Nat.lt_or_ge mode 2 with hmode | hmode
    · obtain ⟨d, hd⟩ := exists_deckOf hdeck
      have hbad : (metrologyOf mode max1 max2 e1 e2 window f sc).ok ≠ true := fun hok => h ⟨hdeck, hmode, hok⟩
      simp only [hd, intervalModeOf_of_lt hmode]
      exact if_pos (by simpa using hbad)
    · obtain ⟨d, hd⟩ := exists_deckOf hdeck
      simp only [hd, intervalModeOf_of_ge hmode]
  · simp only [deckOf_of_ge hdeck]

/-- SET_METROLOGY with legal values, by the switch and by what is stored (R189). -/
theorem serveSetMetrology_legal {d : Deck} (hd : deckOf deck = some d) (hmode : mode < 2)
    (hok : (metrologyOf mode max1 max2 e1 e2 window f sc).ok = true) :
    serveSetMetrology deck mode max1 max2 e1 e2 window f sc role s =
      if s.sup.calSwitch = false then (s, .only .calLocked)
      else if (s.deckCfg d).metrology = metrologyOf mode max1 max2 e1 e2 window f sc ∧ (s.deckCfg d).mark = true then
        (s, s.counterReply)
      else
        (s.storeMetrology d (metrologyOf mode max1 max2 e1 e2 window f sc),
          (s.storeMetrology d (metrologyOf mode max1 max2 e1 e2 window f sc)).counterReply) := by
  simp only [serveSetMetrology, hd, intervalModeOf_of_lt hmode, hok, Bool.not_true, Bool.false_eq_true, if_false,
    Bool.not_eq_true']

end

end

end Sys2Proof.Machine

open Sys2Proof Sys2Proof.Machine

/-- Settles O53: a change by its walk over the decks it touches (`State.touchesDecks_foldl`) and by the notices of one
deck, and SET_METROLOGY by its tests in their order. -/
theorem metrologicalChanges : Obligations.MetrologicalChanges := by
  refine ⟨⟨fun old s r ds ch => ?_, fun s d => s.maybeOpen_eq d, fun old s ds window hds => ?_⟩, ?_⟩
  · rw [State.setChange, State.backup_metroChange]
  · have hnodup : ds.Nodup := by
      simp only [List.mem_cons, List.not_mem_nil, or_false] at hds
      rcases hds with rfl | rfl | rfl | rfl <;> decide
    have htouches := State.touchesDecks_metroChange old s ds window
    intro t off counter
    refine ⟨State.backup_metroChange old s ds window, ?_, htouches.others, fun d hd hlaw => ?_,
      State.latch_metroChange old s ds window, ?_⟩
    · exact congrArg State.main htouches.frame
    · obtain ⟨hfilter, hstab, hoccupancy, hlatest, hcollection, hends, hstays⟩ := htouches.touched hnodup d hd hlaw
      exact ⟨hfilter, hstab, hoccupancy, hlatest, hcollection, hends, hstays⟩
    · rintro d rfl hc p post failed entered
      have hport := State.incoming_metroChange old s [d] window p
      have hfailed : failed = s.advanceCounter.collectionNotices d .aborted := rfl
      refine ⟨fun hoff => hport.trans ?_, fun hon => hport.trans ?_⟩
      · rw [hfailed]
        exact State.incoming_touchDeck_off (s := s.advanceCounter) hoff hc p
      · rw [hfailed]
        exact State.incoming_touchDeck_on (s := s.advanceCounter) hon hc p
  · intro s q role deck mode max1 max2 e1 e2 window f sc c legal h
    have hlegal : legal ↔ deck < 2 ∧ mode < 2 ∧ (metrologyOf mode max1 max2 e1 e2 window f sc).ok = true :=
      and_congr_right fun _ => and_congr_right fun hmode => (metrologyOf_ok_iff hmode).symm
    refine ⟨fun hbad => ?_, fun hok hopen => ?_, fun hok hclosed d hd => ?_⟩
    · exact request_refused s c q _ role _ h (serveSetMetrology_illegal _ role (mt hlegal.mpr hbad))
    · obtain ⟨hdeck, hmode, hok⟩ := hlegal.mp hok
      obtain ⟨d, hd⟩ := exists_deckOf hdeck
      refine request_refused s c q _ role _ h ((serveSetMetrology_legal _ role hd hmode hok).trans ?_)
      rw [State.sup_handed, if_pos hopen]
    · obtain ⟨hdeck, hmode, hok⟩ := hlegal.mp hok
      have hserve := serveSetMetrology_legal (s.handed c q) role hd hmode hok
      rw [State.sup_handed, if_neg (by simp [hclosed]), State.deckCfg_handed] at hserve
      intro m cfg limit zd
      refine ⟨fun hsame => ?_, fun hnew => ?_⟩
      · refine request_answered s c q _ role id _ h (hserve.trans ((if_pos hsame).trans ?_))
        rw [State.counterReply_handed]
        rfl
      · refine request_answered s c q _ role _ _ h (hserve.trans ((if_neg hnew).trans ?_))
        rw [State.counterReply_storeMetrology, State.storeMetrology_eq, State.shortFor, State.deckCfg_handed,
          State.eng_handed, State.backup_handed]
        rfl
end

section
/-! SUPPORT. The channel settings under the calibration switch (R53, R190). -/

namespace Sys2Proof.Machine

theorem channelOf_of_ge {n : Nat} (h : 16 ≤ n) : channelOf n = none := dif_neg (Nat.not_lt.mpr h)
theorem mapOf_of_ge {n : Nat} (h : 3 ≤ n) : mapOf n = none := by
  obtain ⟨k, rfl⟩ := Nat.exists_eq_add_of_le' h; rfl
theorem edgeOf_of_ge {n : Nat} (h : 2 ≤ n) : edgeOf n = none := by
  obtain ⟨k, rfl⟩ := Nat.exists_eq_add_of_le' h; rfl

/-- The decks that a change of a channel's map affects (R53). -/
theorem affected_eq (old new : Option Deck) :
    affected old new = [Deck.a, Deck.b].filter fun d => old = some d ∨ new = some d :=
  List.filter_congr fun d _ => by rw [Bool.eq_iff_iff]; simp

theorem ChannelCfg.withFactor_eq_self {x : ChannelCfg} {k : Nat} : { x with factor := k } = x ↔ x.factor = k :=
  ⟨fun h => (congrArg ChannelCfg.factor h).symm, fun h => by rw [← h]⟩
theorem ChannelCfg.withZero_eq_self {x : ChannelCfg} {z : Nat} : { x with zero := z } = x ↔ x.zero = z :=
  ⟨fun h => (congrArg ChannelCfg.zero h).symm, fun h => by rw [← h]⟩

section
variable {s : State} {ch : Channel} {f : ChannelCfg → ChannelCfg} (r : CalRequest)

theorem State.writePair_same (h : f (s.chanCfg ch) = s.chanCfg ch) : s.writePair r ch f = (s, s.counterReply) := if_pos h

/-- A pair that differs from the stored one is written as a metrological change (R186, R190). -/
theorem State.writePair_new (h : f (s.chanCfg ch) ≠ s.chanCfg ch) :
    s.writePair r ch f =
      (State.setChange s (s.modChanCfg ch f) r (s.chanCfg ch).map.toList (some ch),
        .ok (u16 (if s.backup.calCounter < 65535 then s.backup.calCounter + 1 else s.backup.calCounter))) := by
  refine (if_neg h).trans ?_
  dsimp only
  rw [State.counterReply, State.calCounter_setChange, State.calCounter_modChanCfg]

end

/-- A request to write a calibration pair: its value, the switch, and what is stored (R190). -/
theorem request_writePair {s : State} {c : Instr} {q : Sender} {role : Role} {serve : Serve} {r : CalRequest}
    {ch : Channel} {f : ChannelCfg → ChannelCfg} {bad same : Prop} [Decidable bad] [Decidable same]
    (h : s.Taken c q role) (hsame : f (s.chanCfg ch) = s.chanCfg ch ↔ same)
    (hserve : ∀ t : State, serve role t =
      if bad then (t, .only .badArgument)
      else if t.sup.calSwitch = false then (t, .only .calLocked)
      else t.writePair r ch f) :
    request c q serve s = .next
      (if bad then s.refusal c q .badArgument
      else if s.sup.calSwitch = false then s.refusal c q .calLocked
      else if same then s.answered c q id (.ok (u16 s.backup.calCounter))
      else
        s.answered c q (fun t => State.setChange t (t.modChanCfg ch f) r (s.chanCfg ch).map.toList (some ch))
          (.ok (u16 (if s.backup.calCounter < 65535 then s.backup.calCounter + 1 else s.backup.calCounter)))) := by
  have hserve := hserve (s.handed c q)
  rw [State.sup_handed] at hserve
  split
  · next hbad => exact request_refused s c q _ role _ h (hserve.trans (if_pos hbad))
  next hbad =>
  rw [if_neg hbad] at hserve
  split
  · next hopen => exact request_refused s c q _ role _ h (hserve.trans (if_pos hopen))
  next hclosed =>
  rw [if_neg hclosed] at hserve
  rw [← State.chanCfg_handed s c q] at hsame
  split
  · next heq =>
    refine request_answered s c q _ role id _ h (hserve.trans ((State.writePair_same r (hsame.mpr heq)).trans ?_))
    rw [State.counterReply, State.backup_handed]
    rfl
  · next hne =>
    refine request_answered s c q _ role _ _ h (hserve.trans ((State.writePair_new r (mt hsame.mp hne)).trans ?_))
    rw [State.backup_handed, State.chanCfg_handed]

section
variable {s : State} {channel map polarity : Nat} {ch : Channel} {m : Option Deck} {p : Edge} (role : Role)

/-- SET_CHANNEL_MAP with operands that it takes, by its tests in their order (R53). -/
theorem serveSetChannelMap_named (hch : channelOf channel = some ch) (hm : mapOf map = some m)
    (hp : edgeOf polarity = some p) :
    serveSetChannelMap channel map polarity role s =
      if s.sup.calSwitch = false then (s, .only .calLocked)
      else if ∃ d ∈ [Deck.a, Deck.b], ((s.chanCfg ch).map = some d ∨ m = some d) ∧ (s.arb d).state ≠ .outOfService then
        (s, .only .wrongState)
      else if (s.chanCfg ch).map = m ∧ (s.chanCfg ch).polarity = p then (s, .ok)
      else (s.mapChannel ch m p, .ok) := by
  have hbusy : ((affected (s.chanCfg ch).map m).any fun d => (s.arb d).state != .outOfService) = true ↔
      ∃ d ∈ [Deck.a, Deck.b], ((s.chanCfg ch).map = some d ∨ m = some d) ∧ (s.arb d).state ≠ .outOfService := by
    rw [affected_eq, List.any_filter, List.any_eq_true]
    simp only [Bool.and_eq_true, decide_eq_true_eq, bne_iff_ne]
  simp only [serveSetChannelMap, hch, hm, hp, hbusy, Bool.not_eq_true']

end

end Sys2Proof.Machine

open Sys2Proof Sys2Proof.Machine

/-- Settles O54: each request by its operands, the switch and what is stored, and the cutting short of a window by whether
it is due. -/
theorem channelSettingsUnderTheSwitch : Obligations.ChannelSettingsUnderTheSwitch := by
  refine ⟨?_, fun s q role channel ch hch => ?_⟩
  · intro s q role channel k map polarity hge c hc h
    have hnone := channelOf_of_ge hge
    simp only [List.mem_cons, List.not_mem_nil, or_false] at hc
    rcases hc with rfl | rfl | rfl
    · exact request_refused s _ q _ role _ h (by simp only [serveSetChannelFactor, hnone])
    · exact request_refused s _ q _ role _ h (by simp only [serveSetChannelZero, hnone])
    · exact request_refused s _ q _ role _ h (by simp only [serveSetChannelMap, hnone])
  intro old counter
  refine ⟨?_, ?_, ?_,
    fun d => ⟨State.shortClose_none, fun o hcurrent => State.shortClose_due hcurrent, fun o hcurrent hshort => ?_⟩⟩
  · intro k c h
    refine (exec_setChannelFactor ..).trans (request_writePair h ChannelCfg.withFactor_eq_self fun t => ?_)
    simp only [serveSetChannelFactor, hch, Bool.not_eq_true']
    rfl
  · intro z c h
    refine (exec_setChannelZero ..).trans (request_writePair h ChannelCfg.withZero_eq_self fun t => ?_)
    simp only [serveSetChannelZero, hch, Bool.not_eq_true']
    rfl
  · intro map polarity c h
    refine ⟨fun hbad => ?_, fun m p hm hp => ?_⟩
    · refine request_refused s c q _ role _ h ?_
      rcases hbad with hmap | hpolarity
      · simp only [serveSetChannelMap, hch, mapOf_of_ge hmap]
      · simp [serveSetChannelMap, edgeOf_of_ge hpolarity]
    · have hserve := serveSetChannelMap_named (s := s.handed c q) role hch hm hp
      simp only [State.sup_handed, State.chanCfg_handed, State.arb_handed] at hserve
      split
      · next hopen => exact request_refused s c q _ role _ h (hserve.trans (if_pos hopen))
      next hclosed =>
      rw [if_neg hclosed] at hserve
      split
      · next hbusy => exact request_refused s c q _ role _ h (hserve.trans (if_pos hbusy))
      next hbusy =>
      rw [if_neg hbusy] at hserve
      split
      · next hsame => exact request_answered s c q _ role id _ h (hserve.trans (if_pos hsame))
      · next hnew =>
        refine request_answered s c q _ role _ _ h (hserve.trans ((if_neg hnew).trans ?_))
        simp only [State.mapChannel, affected_eq, State.chanCfg_handed]
        rfl
  · intro n mark t
    have ht : t = _ := (State.shortClose_notDue hcurrent hshort).trans (State.shortRecord_some hcurrent)
    rw [ht]
    refine ⟨?_, ?_, s.chan_dropCounts d, ?_, ?_, ?_⟩
    · rw [State.win_raise, State.win_modWin_self, State.dropCounts, State.win_modChans]
      rfl
    all_goals
      rw [s.dropCounts_eq d]
      rfl
end

section
/-! SUPPORT. The yard mode: its change, the drain, and what the readers make of it (R56, R80, R170 to R172). -/

namespace Sys2Proof.Machine

theorem yardModeOf_of_ge {n : Nat} (h : 3 ≤ n) : yardModeOf n = none := by
  obtain ⟨k, rfl⟩ := Nat.exists_eq_add_of_le' h; rfl

/-! ### SET_YARD_MODE and the drain (R171, R172) -/

theorem State.drainCondition_iff (s : State) : s.drainCondition = true ↔
    (∀ e ∈ s.recs.entries, e.state ≠ .admitted ∧ e.state ≠ .recalled ∧ e.state ≠ .onDeck) ∧
      (s.arb .a).state = .free ∧ (s.arb .a).offer = none ∧ (s.arb .b).state = .free ∧ (s.arb .b).offer = none := by
  simp [State.drainCondition, Deck.all, and_assoc]

theorem State.deckInUse_iff (s : State) (d : Deck) : s.deckInUse d = true ↔
    (s.arb d).state = .granted ∨ (s.arb d).state = .occupied ∨ (s.arb d).offer ≠ none := by
  simp [State.deckInUse, Option.isSome_iff_ne_none, or_assoc]

/-- CLOSING on a drained yard leads on to CLOSED (R172). -/
theorem State.judgeDrain_changeMode (s : State) : (s.changeMode .closing false).judgeDrain =
    if s.drainCondition = true then (s.changeMode .closing false).changeMode .closed true
    else s.changeMode .closing false :=
  if_congr (and_iff_right rfl) rfl rfl

section
variable (s : State) (role : Role)

theorem serveSetYardMode_open :
    serveSetYardMode 0 role s = (if s.mode = .open then s else s.changeMode .open false, .ok) := by
  unfold serveSetYardMode yardModeOf
  cases s.mode <;> rfl

theorem serveSetYardMode_closing :
    serveSetYardMode 1 role s =
      if s.mode = .closed then (s, .only .wrongState)
      else (if s.mode = .closing then s else (s.changeMode .closing false).judgeDrain, .ok) := by
  unfold serveSetYardMode yardModeOf
  cases s.mode <;> rfl

theorem serveSetYardMode_closed :
    serveSetYardMode 2 role s =
      if s.mode = .closed then (s, .ok)
      else if ∃ d ∈ [Deck.a, Deck.b],
          (s.arb d).state = .granted ∨ (s.arb d).state = .occupied ∨ (s.arb d).offer ≠ none then
        (s, .only .deckBusy)
      else (s.changeMode .closed false, .ok) := by
  have huse : Deck.all.any s.deckInUse = true ↔ ∃ d ∈ [Deck.a, Deck.b],
      (s.arb d).state = .granted ∨ (s.arb d).state = .occupied ∨ (s.arb d).offer ≠ none := by
    simp only [List.any_eq_true, State.deckInUse_iff, Deck.all]
  simp only [serveSetYardMode, yardModeOf, huse]

end

/-! ### The frequency capture unit (R56) -/

/-- What a yard mode makes of one deck's windows, by the settings and the windows of `s`, at a state `r` (R56). -/
def State.deckTakesMode (s : State) (m : YardMode) (d : Deck) (r : State) : State :=
  if m = .closed then
    (Channel.all.foldl
      (fun t ch =>
        if (s.chanCfg ch).map = some d then t.modChan ch fun w => { w with running := none, saturated := false }
        else t) r).modWin d fun w => { w with runs := false, current := none }
  else if (s.win d).runs = true then r
  else
    let t := r.modWin d fun w => { w with runs := true }
    if (s.win d).current = none ∧ s.ms % (s.deckCfg d).metrology.window = 0 then t.openWindow d s.ms else t

theorem State.dropCounts_eq_foldl (s : State) (d : Deck) : s.dropCounts d =
    Channel.all.foldl
      (fun t ch =>
        if (s.chanCfg ch).map = some d then t.modChan ch fun w => { w with running := none, saturated := false }
        else t) s := by
  simp only [State.dropCounts, State.modChans, State.channelSet, List.foldl_filter, beq_iff_eq]

theorem State.modeAtCapture_eq {s r : State} {d : Deck} (m : YardMode) (hbackup : r.backup = s.backup)
    (hms : r.ms = s.ms) (hwin : r.win d = s.win d) : r.modeAtCapture d m = s.deckTakesMode m d r := by
  have hcfg : ∀ ch, r.chanCfg ch = s.chanCfg ch := fun ch => congrArg (fun b => b.channels.get ch) hbackup
  have hdeck : r.deckCfg d = s.deckCfg d := congrArg (fun b => b.decks.get d) hbackup
  have hmaybe := State.maybeOpen_eq (r.modWin d fun w => { w with runs := true }) d
  have hsup : (r.modWin d fun w => { w with runs := true }).sup.ms = s.ms := hms
  simp only [State.win_modWin_self, State.deckCfg_modWin, hsup, hwin, hdeck, true_and] at hmaybe
  simp only [State.modeAtCapture, State.deckTakesMode, State.dropCounts_eq_foldl, hcfg, hwin, hmaybe]

theorem State.besideWindows_modeAtCapture (s : State) (d : Deck) (m : YardMode) :
    s.BesideWindows (s.modeAtCapture d m) := by
  unfold State.modeAtCapture
  split
  · rw [State.dropCounts_eq]
    rfl
  split
  · rfl
  · have hruns : s.BesideWindows (s.modWin d fun w => { w with runs := true }) := rfl
    exact hruns.trans (State.besideWindows_maybeOpen ..)

theorem State.win_modeAtCapture_ne (s : State) {d x : Deck} (m : YardMode) (h : x ≠ d) :
    (s.modeAtCapture d m).win x = s.win x := by
  unfold State.modeAtCapture
  split
  · rw [State.win_modWin_ne _ _ _ h, State.dropCounts, State.win_modChans]
  split
  · rfl
  · rw [State.win_maybeOpen_ne _ _ h, State.win_modWin_ne _ _ _ h]

/-- The frequency capture unit takes a yard mode for both decks, each by what it was before (R56). -/
theorem State.modeTaken_captureUnit (s : State) (m : YardMode) : s.modeTaken .captureUnit m =
    s.deckTakesMode m .b (s.deckTakesMode m .a (s.setModeAt .captureUnit m)) := by
  have ha : (s.setModeAt .captureUnit m).modeAtCapture .a m = s.deckTakesMode m .a (s.setModeAt .captureUnit m) :=
    State.modeAtCapture_eq m rfl rfl rfl
  have hframe := (s.setModeAt .captureUnit m).besideWindows_modeAtCapture .a m
  have hb := State.modeAtCapture_eq (s := s) (r := (s.setModeAt .captureUnit m).modeAtCapture .a m) (d := .b) m
    (by rw [hframe]; rfl) (by rw [hframe]; rfl) (State.win_modeAtCapture_ne _ m (by decide))
  rw [← ha, ← hb]
  rfl

/-! ### The engines (R80) -/

section
variable {s : State} {d : Deck} {m : YardMode}

theorem State.engineOff_setModeAt : (s.setModeAt (.engine d) m).EngineOff d ↔ m = .closed ∨ s.calibrated d = false := by
  rw [State.EngineOff, State.modeAt_setModeAt_self]
  rfl

theorem State.collection_dropCapture (reason : FailReason) :
    ((s.dropCapture d reason).eng d).collection = (s.eng d).collection := by rw [State.eng_dropCapture]

/-- An engine that stays as its capture and its occupancy reading give it (R80). -/
theorem State.refreshEngine_stays (hlaw : (s.eng d).Law) (hon : ¬ s.EngineOff d) (hs : (s.eng d).state ≠ .off)
    (window : Option Nat) : s.refreshEngine d window = s :=
  State.refreshEngine_same window ((State.engineStateNow_on hon).trans (hlaw.active hs).symm)

/-- A calibrated engine leaves OFF for WARMUP (R80). -/
theorem State.refreshEngine_warmup (hlaw : (s.eng d).Law) (hon : ¬ s.EngineOff d) (hs : (s.eng d).state = .off)
    (window : Option Nat) : s.refreshEngine d window =
      ((s.modEng d fun g => { g with state := .warmup }).post (.engine d) (.engineState d .off .warmup window)).flag
        .decks := by
  obtain ⟨-, -, hoccupancy, -, hcapture, -⟩ := hlaw.off hs
  have hactive : (s.eng d).activeState = .warmup := by simp [Engine.activeState, hcapture, hoccupancy]
  rw [State.refreshEngine_on window hon (by simp [hactive, hs]), hactive, hs]

end

end Sys2Proof.Machine

open Sys2Proof Sys2Proof.Machine

/-- Settles O50: the request mode by mode, and the readers one by one. -/
theorem yardModes : Obligations.YardModes := by
  refine ⟨fun s => ?_, fun s m hrun => ⟨fun j k => ?_, ?_, fun d => ?_, fun d k hk => ?_, fun l => ?_⟩⟩
  · intro drained readers change
    have hdrained := s.drainCondition_iff
    have hchange : ∀ r m drain, State.changeMode r m drain = change m drain r := fun _ _ _ => rfl
    refine ⟨?_, fun hrun => ?_⟩
    · intro q mode role c h
      split
      · next hmode => exact request_refused s c q _ role _ h (by simp only [serveSetYardMode, yardModeOf_of_ge hmode])
      next hmode =>
      obtain rfl | rfl | rfl : mode = 0 ∨ mode = 1 ∨ mode = 2 := by omega
      · refine request_answered s c q _ role _ _ h ((serveSetYardMode_open ..).trans ?_)
        rw [State.mode_handed]
        split <;> rfl
      · have hserve := serveSetYardMode_closing (s.handed c q) role
        rw [State.mode_handed, State.judgeDrain_changeMode, State.drainCondition_handed] at hserve
        rw [if_neg (by decide), if_pos rfl]
        split
        · next hclosed => exact request_refused s c q _ role _ h (hserve.trans (if_pos hclosed))
        · next hclosed =>
          refine request_answered s c q _ role _ _ h (hserve.trans ((if_neg hclosed).trans ?_))
          exact congrArg (·, Reply.ok) (if_congr Iff.rfl rfl (if_congr hdrained rfl rfl))
      · have hserve := serveSetYardMode_closed (s.handed c q) role
        simp only [State.mode_handed, State.arb_handed] at hserve
        rw [if_neg (by decide), if_neg (by decide)]
        split
        · next hclosed => exact request_answered s c q _ role id _ h (hserve.trans (if_pos hclosed))
        next hclosed =>
        rw [if_neg hclosed] at hserve
        split
        · next huse => exact request_refused s c q _ role _ h (hserve.trans (if_pos huse))
        · next huse => exact request_answered s c q _ role _ _ h (hserve.trans (if_neg huse))
    · refine (exec_drain ..).trans (event_after s _ _ _ hrun ?_)
      refine if_congr (and_congr_right fun _ => ?_) rfl rfl
      exact hdrained
  · by_cases hk : k = j
    · subst hk
      rw [State.modeAt_setModeAt_self, if_pos rfl]
    · rw [s.modeAt_setModeAt_ne j m hk, if_neg hk]
  · intro c ofDeck
    exact (exec_yardModeTaken ..).trans (event_after s c _ _ hrun ((s.consume c).modeTaken_captureUnit m))
  · intro c hlaw
    refine (exec_yardModeTaken ..).trans (event_after s c _ _ hrun ?_)
    have hoff := State.engineOff_setModeAt (s := s.consume c) (d := d) (m := m)
    dsimp only
    split
    · next hclosed =>
      have hoff := hoff.mpr hclosed
      split
      · next hs => exact State.refreshEngine_same none ((State.engineStateNow_off hoff).trans hs.symm)
      · next hs =>
        refine (State.refreshEngine_off none hoff hs).trans ?_
        simp only [State.failCollection, State.collection_dropCapture]
        rfl
    next hopen =>
    have hon := mt hoff.mp hopen
    split
    · next hs => exact State.refreshEngine_warmup (s := (s.consume c).setModeAt (.engine d) m) hlaw hon hs none
    · next hs => exact State.refreshEngine_stays (s := (s.consume c).setModeAt (.engine d) m) hlaw hon hs none
  · simp only [List.mem_cons, List.not_mem_nil, or_false] at hk
    rcases hk with rfl | rfl | rfl
    all_goals exact (exec_yardModeTaken ..).trans (event_after s _ _ _ hrun rfl)
  · exact (exec_yardModeTaken ..).trans (event_after s _ _ _ hrun rfl)
end

section
/-! SUPPORT. The frame of the weigh engines and of the zeros: every operation that is not of the engines, of zero setting or of
calibration leaves alone what the laws of R80, R87 and R103 read. -/

namespace Sys2Proof.Machine

/-- What the law of an engine reads: all but its marks, its positioning and its ZERO_LIMIT latch (R80, R87). -/
def Engine.core (g : Engine) : Engine :=
  { g with positioned := false, windowMark := false, ended := false, zeroLimit := false }

/-- What the laws of R80, R87 and R103 read of a state: the engines, and the zero and the zero limit of each deck. -/
def State.scales (s : State) (d : Deck) : Engine × Int × Int :=
  ((s.eng d).core, (s.deckCfg d).zd, (s.deckCfg d).zlim)

section
variable (s : State)

/-! ### The rewritings of one item -/

@[simp] theorem State.scales_modRecs (f : Records → Records) : (s.modRecs f).scales = s.scales := rfl
@[simp] theorem State.scales_modArb (d : Deck) (f : Arbiter → Arbiter) : (s.modArb d f).scales = s.scales := rfl
@[simp] theorem State.scales_modWin (d : Deck) (f : WindowWork → WindowWork) : (s.modWin d f).scales = s.scales := rfl
@[simp] theorem State.scales_modChan (c : Channel) (f : ChannelWork → ChannelWork) : (s.modChan c f).scales = s.scales := rfl
@[simp] theorem State.scales_modLane (l : Lane) (f : LaneWork → LaneWork) : (s.modLane l f).scales = s.scales := rfl
@[simp] theorem State.scales_modBar (b : Barrier) (f : BarrierWork → BarrierWork) : (s.modBar b f).scales = s.scales := rfl
@[simp] theorem State.scales_modInp (i : Input) (f : ConditionerWork → ConditionerWork) :
    (s.modInp i f).scales = s.scales := rfl
@[simp] theorem State.scales_modPort (p : Port) (f : PortWork → PortWork) : (s.modPort p f).scales = s.scales := rfl
@[simp] theorem State.scales_modPorts (f : PortWork → PortWork) : (s.modPorts f).scales = s.scales := rfl
@[simp] theorem State.scales_modSup (f : Supervisor → Supervisor) : (s.modSup f).scales = s.scales := rfl
@[simp] theorem State.scales_modChanCfg (c : Channel) (f : ChannelCfg → ChannelCfg) :
    (s.modChanCfg c f).scales = s.scales := rfl
@[simp] theorem State.scales_modLaneCfg (l : Lane) (f : LaneCfg → LaneCfg) : (s.modLaneCfg l f).scales = s.scales := rfl
@[simp] theorem State.scales_modBarCfg (b : Barrier) (f : BarrierCfg → BarrierCfg) :
    (s.modBarCfg b f).scales = s.scales := rfl
@[simp] theorem State.scales_modInpCfg (i : Input) (f : ConditionerCfg → ConditionerCfg) :
    (s.modInpCfg i f).scales = s.scales := rfl
@[simp] theorem State.scales_modPortCfg (p : Port) (f : PortCfg → PortCfg) : (s.modPortCfg p f).scales = s.scales := rfl
@[simp] theorem State.scales_setModeAt (r : ModeReader) (m : YardMode) : (s.setModeAt r m).scales = s.scales := rfl
@[simp] theorem State.scales_setSupplyAt (r : SupplyReader) (st : SupplyState) : (s.setSupplyAt r st).scales = s.scales := rfl
@[simp] theorem State.scales_setBoomAt (r : BarrierReader) (b : Barrier) (st : BarrierState) :
    (s.setBoomAt r b st).scales = s.scales := rfl
@[simp] theorem State.scales_seal : s.seal.scales = s.scales := rfl
@[simp] theorem State.scales_raise (cs : List Instr) : (s.raise cs).scales = s.scales := rfl
@[simp] theorem State.scales_consume (c : Instr) : (s.consume c).scales = s.scales := rfl
@[simp] theorem State.scales_post (k : Block) (n : NoticeBody) (o : Option Port) : (s.post k n o).scales = s.scales := rfl
@[simp] theorem State.scales_flag (f : Flag) : (s.flag f).scales = s.scales := rfl

@[simp] theorem State.scales_modBackup (f : Backup → Backup) (h : ∀ b, (f b).decks = b.decks) :
    (s.modBackup f).scales = s.scales := by
  funext d
  simp only [State.scales, State.eng, State.deckCfg, State.modBackup, h]

/-- A rewriting of an engine's marks alone. -/
theorem State.scales_modEng (d : Deck) (f : Engine → Engine) (h : ∀ g, (f g).core = g.core) :
    (s.modEng d f).scales = s.scales := by
  funext x
  by_cases hx : x = d
  · subst hx
    simp only [State.scales, State.eng_modEng_self, State.deckCfg_modEng, h]
  · simp only [State.scales, State.eng_modEng_ne s d f hx, State.deckCfg_modEng]

/-- A rewriting of a deck's settings that leaves its zero and its metrology set. -/
@[simp] theorem State.scales_modDeckCfg (d : Deck) (f : DeckCfg → DeckCfg)
    (h : ∀ c, (f c).zd = c.zd ∧ (f c).metrology = c.metrology) : (s.modDeckCfg d f).scales = s.scales := by
  funext x
  by_cases hx : x = d
  · subst hx
    simp only [State.scales, DeckCfg.zlim, State.deckCfg_modDeckCfg_self, State.eng_modDeckCfg, h]
  · simp only [State.scales, State.deckCfg_modDeckCfg_ne s d f hx, State.eng_modDeckCfg]

@[simp] theorem State.scales_ite (c : Prop) [Decidable c] (t : State) :
    (if c then s else t).scales = if c then s.scales else t.scales := apply_ite State.scales c s t

@[simp] theorem State.scales_foldl {α : Type} (f : State → α → State) (h : ∀ s a, (f s a).scales = s.scales) (xs : List α) :
    (xs.foldl f s).scales = s.scales := State.foldl_keeps State.scales h xs s

end

/-! ### The operations -/

section
variable (s : State) (r : Role)

/-! ### Shared operations -/

@[simp] theorem State.scales_flagIf (b : Bool) (f : Flag) : (s.flagIf b f).scales = s.scales := by
  simp [State.flagIf]
@[simp] theorem State.scales_changeArb (d : Deck) (f : Arbiter → Arbiter) : (s.changeArb d f).scales = s.scales := by
  simp [State.changeArb]
@[simp] theorem State.scales_changeLane (l : Lane) (f : LaneWork → LaneWork) :
    (s.changeLane l f).scales = s.scales := by
  simp [State.changeLane]
@[simp] theorem State.scales_judgeLamps (l : Lane) : (s.judgeLamps l).scales = s.scales := rfl
@[simp] theorem State.scales_judgeAlarm : s.judgeAlarm.scales = s.scales := by
  simp [State.judgeAlarm]
@[simp] theorem State.scales_settleLamps (old : State) : (settleLamps old s).scales = s.scales := by
  simp [settleLamps]
@[simp] theorem State.scales_settleFlags (old : State) : (settleFlags old s).scales = s.scales := by
  simp [settleFlags]
@[simp] theorem State.scales_settle (old : State) : (State.settle old s).scales = s.scales := by
  simp [State.settle]
@[simp] theorem State.scales_reply (q : Sender) (kind : Nat) (r : Reply) : (s.reply q kind r).scales = s.scales := rfl

/-! ### Barriers -/

@[simp] theorem State.scales_changeBar (b : Barrier) (reason : BarrierReason) (f : BarrierWork → BarrierWork) :
    (s.changeBar b reason f).scales = s.scales := by
  simp [State.changeBar]
@[simp] theorem State.scales_faultBar (b : Barrier) (cause : FaultCause) : (s.faultBar b cause).scales = s.scales := by
  simp [State.faultBar]
@[simp] theorem State.scales_judgeLowering (b : Barrier) : (s.judgeLowering b).scales = s.scales := by
  simp [State.judgeLowering]
@[simp] theorem State.scales_judgeKeepalive (b : Barrier) : (s.judgeKeepalive b).scales = s.scales := rfl
@[simp] theorem State.scales_failAction (b : Barrier) : (s.failAction b).scales = s.scales := by
  simp [State.failAction]
@[simp] theorem State.scales_place (b : Barrier) : (s.place b).scales = s.scales := by
  simp [State.place]
@[simp] theorem State.scales_permissiveRise (b : Barrier) : (s.permissiveRise b).scales = s.scales := by
  simp [State.permissiveRise]
@[simp] theorem State.scales_permissiveFall (b : Barrier) : (s.permissiveFall b).scales = s.scales := by
  simp [State.permissiveFall]
@[simp] theorem State.scales_markClosing (b : Barrier) (old : BarrierState) :
    (s.markClosing b old).scales = s.scales := by
  simp [State.markClosing]
@[simp] theorem State.scales_barrierLoopEdge (b : Barrier) (e : Edge) : (s.barrierLoopEdge b e).scales = s.scales := by
  unfold State.barrierLoopEdge; split <;> simp
@[simp] theorem State.scales_closeDelayExpiry (b : Barrier) : (s.closeDelayExpiry b).scales = s.scales := by
  simp [State.closeDelayExpiry]
@[simp] theorem State.scales_motionTimeout (b : Barrier) : (s.motionTimeout b).scales = s.scales := by
  simp [State.motionTimeout]
@[simp] theorem State.scales_limitEvent (b : Barrier) (which : LimitSwitch) :
    (s.limitEvent b which).scales = s.scales := by
  unfold State.limitEvent; split <;> simp
@[simp] theorem State.scales_keepaliveToggle (b : Barrier) : (s.keepaliveToggle b).scales = s.scales := by
  simp [State.keepaliveToggle]
@[simp] theorem scales_serveSetBarrier (barrier failAction motionLimit closeDelay halfPeriod : Nat) :
    (serveSetBarrier barrier failAction motionLimit closeDelay halfPeriod r s).1.scales = s.scales := by
  unfold serveSetBarrier; split <;> simp
@[simp] theorem scales_serveBarrierReset (barrier : Nat) : (serveBarrierReset barrier r s).1.scales = s.scales := by
  unfold serveBarrierReset; split <;> simp [apply_ite Prod.fst]
@[simp] theorem scales_serveBarrierCommand (barrier action : Nat) :
    (serveBarrierCommand barrier action r s).1.scales = s.scales := by
  unfold serveBarrierCommand; split <;> simp [apply_ite Prod.fst]
@[simp] theorem scales_serveReadBarriers : (serveReadBarriers  r s).1.scales = s.scales := rfl

/-! ### The frequency capture unit -/

@[simp] theorem State.scales_modChans (cs : List Channel) (f : ChannelWork → ChannelWork) :
    (s.modChans cs f).scales = s.scales := s.scales_foldl (fun t c => t.modChan c f) (fun _ _ => rfl) cs
@[simp] theorem State.scales_openWindow (d : Deck) (boundary : Nat) : (s.openWindow d boundary).scales = s.scales := by
  rw [State.openWindow, State.scales_modEng]
  · simp
  · exact fun _ => rfl
@[simp] theorem State.scales_maybeOpen (d : Deck) : (s.maybeOpen d).scales = s.scales := by
  simp [State.maybeOpen]
@[simp] theorem State.scales_dropCounts (d : Deck) : (s.dropCounts d).scales = s.scales := by
  simp [State.dropCounts]
@[simp] theorem State.scales_judgeChannel (d : Deck) (window : Nat) (c : Channel) :
    (s.judgeChannel d window c).scales = s.scales := by
  simp only [State.judgeChannel]; split <;> simp
@[simp] theorem State.scales_windowClose (d : Deck) : (s.windowClose d).scales = s.scales := by
  unfold State.windowClose; split <;> simp
@[simp] theorem State.scales_closeDue (d : Deck) (n : Nat) : (s.closeDue d n).scales = s.scales := by
  induction n generalizing s with
  | zero => rfl
  | succ n ih => rw [State.closeDue, ih, State.scales_windowClose]
@[simp] theorem State.scales_shortRecord (d : Deck) : (s.shortRecord d).scales = s.scales := by
  unfold State.shortRecord; split <;> simp
@[simp] theorem State.scales_shortClose (d : Deck) : (s.shortClose d).scales = s.scales := by
  rw [State.shortClose, State.scales_shortRecord, State.scales_closeDue]

/-! ### Latches and the counter -/

@[simp] theorem State.scales_latchZeroLimit (d : Deck) (positive : Bool) (window : Option Nat) :
    (s.latchZeroLimit d positive window).scales = s.scales := by
  have hmark := s.scales_modEng d (fun g => { g with zeroLimit := true }) fun _ => rfl
  simp [State.latchZeroLimit, hmark]
@[simp] theorem State.scales_advanceCounter : s.advanceCounter.scales = s.scales := rfl

/-! ### The deck arbiters -/

@[simp] theorem State.scales_makeChoice (d : Deck) : (s.makeChoice d).scales = s.scales := by
  simp only [State.makeChoice]; (repeat' split) <;> simp
@[simp] theorem State.scales_withdrawal (d : Deck) (l : Lane) : (s.withdrawal d l).scales = s.scales := by
  unfold State.withdrawal; split <;> simp
@[simp] theorem State.scales_acceptance (d : Deck) (l : Lane) (number : Nat) :
    (s.acceptance d l number).scales = s.scales := by
  simp [State.acceptance]
@[simp] theorem State.scales_decline (d : Deck) (l : Lane) (number : Nat) :
    (s.decline d l number).scales = s.scales := by
  simp [State.decline]
@[simp] theorem State.scales_withdrawGrant (d : Deck) (cause : WithdrawCause) :
    (s.withdrawGrant d cause).scales = s.scales := by
  unfold State.withdrawGrant; split <;> simp
@[simp] theorem State.scales_proceedTimeout (d : Deck) : (s.proceedTimeout d).scales = s.scales := by
  simp [State.proceedTimeout]
@[simp] theorem State.scales_entryRise (d : Deck) : (s.entryRise d).scales = s.scales := by
  simp only [State.entryRise]; split <;> simp
@[simp] theorem State.scales_entryPassage (d : Deck) (g : Grant) : (s.entryPassage d g).scales = s.scales := by
  rw [State.entryPassage, State.scales_raise, State.scales_modEng]
  · simp
  · exact fun _ => rfl
@[simp] theorem State.scales_intrusion (d : Deck) : (s.intrusion d).scales = s.scales := by
  simp [State.intrusion]
@[simp] theorem State.scales_entryFall (d : Deck) : (s.entryFall d).scales = s.scales := by
  simp only [State.entryFall]; (repeat' split) <;> simp
@[simp] theorem State.scales_exitFall (d : Deck) : (s.exitFall d).scales = s.scales := by
  unfold State.exitFall; split <;> simp
@[simp] theorem State.scales_modCurrent (d : Deck) (number : Nat) (f : Current → Current) :
    (s.modCurrent d number f).scales = s.scales := rfl
@[simp] theorem State.scales_exitRelease (d : Deck) (number : Option Nat) :
    (s.exitRelease d number).scales = s.scales := rfl
@[simp] theorem State.scales_forceExitNotice (d : Deck) (number : Nat) :
    (s.forceExitNotice d number).scales = s.scales := rfl
@[simp] theorem State.scales_deckEmpty (d : Deck) : (s.deckEmpty d).scales = s.scales := by
  simp [State.deckEmpty]
@[simp] theorem State.scales_barrierStateTaken (reader : BarrierReader) (b : Barrier) (st : BarrierState) :
    (s.barrierStateTaken reader b st).scales = s.scales := by
  unfold State.barrierStateTaken; split <;> simp
@[simp] theorem scales_serveSetProceedTime (deck seconds : Nat) :
    (serveSetProceedTime deck seconds r s).1.scales = s.scales := by
  unfold serveSetProceedTime; split <;> simp
@[simp] theorem scales_serveClearTailgate (deck : Nat) : (serveClearTailgate deck r s).1.scales = s.scales := by
  unfold serveClearTailgate; split <;> simp [apply_ite Prod.fst]
@[simp] theorem State.scales_endCommandHold (b : Barrier) : (s.endCommandHold b).scales = s.scales := by
  simp [State.endCommandHold]
@[simp] theorem scales_serveReadDeckState (deck : Nat) : (serveReadDeckState deck r s).1.scales = s.scales := by
  unfold serveReadDeckState; split <;> simp

/-! ### Readouts and settings of the engines -/

@[simp] theorem scales_serveReadCalibration (deck : Nat) : (serveReadCalibration deck r s).1.scales = s.scales := by
  unfold serveReadCalibration; split <;> simp
@[simp] theorem scales_serveSetCaptureOptions (deck attempt n accept : Nat) :
    (serveSetCaptureOptions deck attempt n accept r s).1.scales = s.scales := by
  unfold serveSetCaptureOptions; split <;> simp
@[simp] theorem scales_serveReadCapture (deck : Nat) : (serveReadCapture deck r s).1.scales = s.scales := by
  unfold serveReadCapture; split <;> simp
@[simp] theorem scales_serveSetChannelLimits (channel low high : Nat) :
    (serveSetChannelLimits channel low high r s).1.scales = s.scales := by
  unfold serveSetChannelLimits; split <;> simp [apply_ite Prod.fst]
@[simp] theorem scales_serveClearFaults (channel scope : Nat) :
    (serveClearFaults channel scope r s).1.scales = s.scales := by
  unfold serveClearFaults; split <;> simp
@[simp] theorem scales_serveReadChannels (deck : Nat) : (serveReadChannels deck r s).1.scales = s.scales := by
  simp only [serveReadChannels]; (repeat' split) <;> simp
@[simp] theorem State.scales_converterEdge (c : Channel) (e : Edge) : (s.converterEdge c e).scales = s.scales := by
  unfold State.converterEdge; split <;> simp

/-! ### Conditioners, lanes and lamps -/

@[simp] theorem State.scales_conditionerEdge (i : Input) : (s.conditionerEdge i).scales = s.scales := by
  simp [State.conditionerEdge]
@[simp] theorem scales_serveSetConditioner (input polarity debounce : Nat) :
    (serveSetConditioner input polarity debounce r s).1.scales = s.scales := by
  unfold serveSetConditioner; split <;> simp [apply_ite Prod.fst]
@[simp] theorem scales_serveReadInputs : (serveReadInputs  r s).1.scales = s.scales := rfl
@[simp] theorem State.scales_stopLoopEdge (l : Lane) (e : Edge) : (s.stopLoopEdge l e).scales = s.scales := by
  unfold State.stopLoopEdge; split <;> simp
@[simp] theorem State.scales_stuckExpiry (l : Lane) : (s.stuckExpiry l).scales = s.scales := by
  simp [State.stuckExpiry]
@[simp] theorem State.scales_filingOrder (l : Lane) (number : Nat) (kind : FilingKind) (priority : Nat) :
    (s.filingOrder l number kind priority).scales = s.scales := by
  simp only [State.filingOrder]; split <;> simp
@[simp] theorem State.scales_absenceExpiry (l : Lane) : (s.absenceExpiry l).scales = s.scales := by
  unfold State.absenceExpiry; split <;> simp
@[simp] theorem State.scales_cancelOrder (l : Lane) (number : Nat) : (s.cancelOrder l number).scales = s.scales := by
  simp only [State.cancelOrder]; (repeat' split) <;> simp
@[simp] theorem State.scales_offerAtLane (l : Lane) (d : Deck) (number : Nat) :
    (s.offerAtLane l d number).scales = s.scales := by
  simp [State.offerAtLane]
@[simp] theorem State.scales_grantWithdrawn (l : Lane) (d : Deck) (number : Nat) (cause : WithdrawCause) :
    (s.grantWithdrawn l d number cause).scales = s.scales := by
  simp [State.grantWithdrawn]
@[simp] theorem State.scales_entryPassageAtLane (l : Lane) (d : Deck) :
    (s.entryPassageAtLane l d).scales = s.scales := by
  simp [State.entryPassageAtLane]
@[simp] theorem State.scales_modLamp (l : Lane) (k : Lamp) (f : LampWork → LampWork) :
    (s.modLamp l k f).scales = s.scales := rfl
@[simp] theorem scales_serveSetLaneTimers (lane absence stuck : Nat) :
    (serveSetLaneTimers lane absence stuck r s).1.scales = s.scales := by
  unfold serveSetLaneTimers; split <;> simp
@[simp] theorem State.scales_realign (l : Lane) (r : LaneFiling) (f : Feed) : (s.realign l r f).scales = s.scales := rfl
@[simp] theorem scales_serveSetLaneFeed (lane feed : Nat) : (serveSetLaneFeed lane feed r s).1.scales = s.scales := by
  simp only [serveSetLaneFeed]; (repeat' split) <;> simp
@[simp] theorem scales_serveSetLaneMode (lane mode : Nat) : (serveSetLaneMode lane mode r s).1.scales = s.scales := by
  simp only [serveSetLaneMode]; (repeat' split) <;> simp
@[simp] theorem scales_serveSetLamp (lane lamp source blink stretch : Nat) :
    (serveSetLamp lane lamp source blink stretch r s).1.scales = s.scales := by
  unfold serveSetLamp; split <;> simp
@[simp] theorem scales_serveSetSignalHead (lane period : Nat) :
    (serveSetSignalHead lane period r s).1.scales = s.scales := by
  unfold serveSetSignalHead; split <;> simp
@[simp] theorem scales_serveSetLampInvert (flag : Nat) : (serveSetLampInvert flag r s).1.scales = s.scales := by
  unfold serveSetLampInvert; split <;> simp
@[simp] theorem scales_serveReadLane (lane : Nat) : (serveReadLane lane r s).1.scales = s.scales := by
  unfold serveReadLane; split <;> simp

/-! ### The supervisor -/

@[simp] theorem State.scales_sample (x : Lines) : (s.sample x).scales = s.scales := by
  simp [State.sample, Input.all]
@[simp] theorem State.scales_firstLimits (x : Lines) (b : Barrier) : (s.firstLimits x b).scales = s.scales := by
  simp [State.firstLimits]
@[simp] theorem State.scales_changeMode (m : YardMode) (drain : Bool) : (s.changeMode m drain).scales = s.scales := rfl
@[simp] theorem State.scales_judgeDrain : s.judgeDrain.scales = s.scales := by
  simp [State.judgeDrain]
@[simp] theorem scales_serveSetYardMode (mode : Nat) : (serveSetYardMode mode r s).1.scales = s.scales := by
  simp only [serveSetYardMode]; (repeat' split) <;> simp
@[simp] theorem State.scales_modeAtCapture (d : Deck) (m : YardMode) : (s.modeAtCapture d m).scales = s.scales := by
  simp [State.modeAtCapture]
@[simp] theorem State.scales_qualify : s.qualify.scales = s.scales := by
  simp [State.qualify]
@[simp] theorem State.scales_startExpiry : s.startExpiry.scales = s.scales := by
  simp [State.startExpiry]
@[simp] theorem State.scales_enterSupplyLow : s.enterSupplyLow.scales = s.scales := by
  simp [State.enterSupplyLow]
@[simp] theorem State.scales_restoreSupply : s.restoreSupply.scales = s.scales := by
  simp [State.restoreSupply]
@[simp] theorem scales_serveYardReset (q : Sender) : (serveYardReset q r s).1.scales = s.scales := rfl
@[simp] theorem scales_serveSetAlarmMask (sources setting : Nat) :
    (serveSetAlarmMask sources setting r s).1.scales = s.scales := by
  unfold serveSetAlarmMask; split <;> simp
@[simp] theorem scales_serveReadSupervisor : (serveReadSupervisor  r s).1.scales = s.scales := rfl
@[simp] theorem scales_serveListYard : (serveListYard  r s).1.scales = s.scales := rfl
@[simp] theorem scales_serveReadTransaction (number : Nat) : (serveReadTransaction number r s).1.scales = s.scales := by
  unfold serveReadTransaction; split <;> simp
@[simp] theorem scales_serveFindPlate (plate : List Byte) : (serveFindPlate plate r s).1.scales = s.scales := by
  unfold serveFindPlate; split <;> simp

/-! ### A start -/

@[simp] theorem State.scales_startLamps (l : Lane) : (s.startLamps l).scales = s.scales := rfl
@[simp] theorem State.scales_takeBooms : s.takeBooms.scales = s.scales := rfl
@[simp] theorem State.scales_calLost (s old : State) (d : Deck) : (s.calLost old d).scales = s.scales := by
  simp [State.calLost]

/-! ### The station ports -/

@[simp] theorem State.scales_judgeFrame (p : Port) (body : List Byte) : (s.judgeFrame p body).scales = s.scales := by
  simp only [State.judgeFrame]; (repeat' split) <;> simp
@[simp] theorem State.scales_frameComplete (p : Port) : (s.frameComplete p).scales = s.scales := by
  unfold State.frameComplete; split <;> simp
@[simp] theorem State.scales_character (p : Port) (c : Byte) (error : Bool) :
    (s.character p c error).scales = s.scales := by
  simp [State.character]
@[simp] theorem State.scales_frameSent (p : Port) : (s.frameSent p).scales = s.scales := by
  unfold State.frameSent; split <;> simp
@[simp] theorem State.scales_admitNotice (p : Port) (b : Block) : (s.admitNotice p b).scales = s.scales := rfl
@[simp] theorem scales_serveSetPortRate (q : Sender) (port rate : Nat) :
    (serveSetPortRate q port rate r s).1.scales = s.scales := by
  unfold serveSetPortRate; split <;> simp
@[simp] theorem scales_serveSetPortRole (port role : Nat) : (serveSetPortRole port role r s).1.scales = s.scales := by
  unfold serveSetPortRole; split <;> simp [apply_ite Prod.fst]
@[simp] theorem scales_serveBindKiosk (port lane : Nat) : (serveBindKiosk port lane r s).1.scales = s.scales := by
  unfold serveBindKiosk; split <;> simp [apply_ite Prod.fst]
@[simp] theorem scales_serveSetNoticeFloor (q : Sender) (floor : Nat) :
    (serveSetNoticeFloor q floor r s).1.scales = s.scales := rfl
@[simp] theorem scales_serveQuiet (q : Sender) (n : Nat) : (serveQuiet q n r s).1.scales = s.scales := rfl
@[simp] theorem scales_serveReadStatus (q : Sender) : (serveReadStatus q r s).1.scales = s.scales := rfl
@[simp] theorem scales_serveReadPorts : (serveReadPorts  r s).1.scales = s.scales := rfl

/-! ### Records requests that change no record -/

@[simp] theorem scales_serveReadTare (plate : List Byte) : (serveReadTare plate r s).1.scales = s.scales := by
  unfold serveReadTare; split <;> simp
@[simp] theorem scales_serveListTares (start : Nat) : (serveListTares start r s).1.scales = s.scales := rfl
@[simp] theorem scales_serveSetTareValidity (lane days : Nat) :
    (serveSetTareValidity lane days r s).1.scales = s.scales := by
  unfold serveSetTareValidity; split <;> simp
@[simp] theorem scales_serveReadClock : (serveReadClock  r s).1.scales = s.scales := rfl
@[simp] theorem scales_serveCollectNext : (serveCollectNext  r s).1.scales = s.scales := by
  unfold serveCollectNext; split <;> simp
@[simp] theorem scales_serveReadTicket (number : Nat) : (serveReadTicket number r s).1.scales = s.scales := by
  unfold serveReadTicket; split <;> simp
@[simp] theorem scales_serveSetOccupancy (deck threshold : Nat) :
    (serveSetOccupancy deck threshold r s).1.scales = s.scales := by
  unfold serveSetOccupancy; split <;> simp [apply_ite Prod.fst]
@[simp] theorem scales_serveReadDeck (deck : Nat) : (serveReadDeck deck r s).1.scales = s.scales := by
  unfold serveReadDeck; split <;> simp

/-! ### The yard records -/

@[simp] theorem State.scales_modEntry (n : Nat) (f : Entry → Entry) : (s.modEntry n f).scales = s.scales := rfl
@[simp] theorem State.scales_dropEntry (n : Nat) : (s.dropEntry n).scales = s.scales := rfl
@[simp] theorem State.scales_giveRelease (d : Deck) (n : Option Nat) : (s.giveRelease d n).scales = s.scales := rfl
@[simp] theorem State.scales_applyTare (w : TareWrite) : (s.applyTare w).scales = s.scales := by
  unfold State.applyTare; split <;> simp
@[simp] theorem State.scales_issue (t : Ticket) : (s.issue t).scales = s.scales := by
  simp [State.issue]
@[simp] theorem State.scales_attemptClosure (e : Entry) : (s.attemptClosure e).scales = s.scales := by
  simp only [State.attemptClosure]; (repeat' split) <;> simp
@[simp] theorem State.scales_retry : s.retry.scales = s.scales :=
  s.scales_foldl State.attemptClosure (fun s e => s.scales_attemptClosure e) _
@[simp] theorem State.scales_cancelOnDeck (e : Entry) : (s.cancelOnDeck e).scales = s.scales := by
  simp only [State.cancelOnDeck]; split <;> simp
@[simp] theorem State.scales_withdrawalReport (number : Nat) : (s.withdrawalReport number).scales = s.scales := by
  simp only [State.withdrawalReport]; (repeat' split) <;> simp
@[simp] theorem State.scales_entryPassageReport (d : Deck) (number : Nat) :
    (s.entryPassageReport d number).scales = s.scales := by
  simp only [State.entryPassageReport]; split <;> simp
@[simp] theorem State.scales_tareCompletion (e : Entry) (c : CaptureResult) : (s.tareCompletion e c).scales = s.scales := by
  simp only [State.tareCompletion]; (repeat' split) <;> simp
@[simp] theorem State.scales_afterWeighing (e : Entry) (c : CaptureResult) (p : Purpose) :
    (s.afterWeighing e c p).scales = s.scales := by
  simp only [State.afterWeighing]; split <;> simp
@[simp] theorem State.scales_captureCompletion (c : CaptureResult) : (s.captureCompletion c).scales = s.scales := by
  simp only [State.captureCompletion]; (repeat' split) <;> simp
@[simp] theorem State.scales_captureFailure (number : Nat) (reason : FailReason) :
    (s.captureFailure number reason).scales = s.scales := rfl
@[simp] theorem State.scales_exitPassageReport (number : Nat) : (s.exitPassageReport number).scales = s.scales := by
  unfold State.exitPassageReport; split <;> simp

theorem scales_onEntry (number : Nat) (f : Entry → State → State × Reply) (hf : ∀ e, (f e s).1.scales = s.scales) :
    (onEntry number f r s).1.scales = s.scales := by
  simp only [onEntry]; (repeat' split) <;> simp [hf]
@[simp] theorem scales_serveIdentify (q : Sender) (lane : Nat) (plate : List Byte) (tag : Option Nat)
    (mode account material intent priority : Nat) :
    (serveIdentify q lane plate tag mode account material intent priority r s).1.scales = s.scales := by
  simp only [serveIdentify, State.admission, State.recallEntry]; (repeat' split) <;> simp
@[simp] theorem scales_serveHold (q : Sender) (number reason : Nat) :
    (serveHold q number reason r s).1.scales = s.scales :=
  scales_onEntry s r number _ fun _ => by split <;> simp
@[simp] theorem scales_serveReleaseHold (number : Nat) : (serveReleaseHold number r s).1.scales = s.scales :=
  scales_onEntry s r number _ fun _ => by split <;> simp
@[simp] theorem scales_serveAmend (number : Nat) (account : Option Nat) (line : Option (Nat × Nat)) :
    (serveAmend number account line r s).1.scales = s.scales :=
  scales_onEntry s r number _ fun _ => by dsimp only; (repeat' split) <;> simp
@[simp] theorem scales_serveCancel (number : Nat) : (serveCancel number r s).1.scales = s.scales :=
  scales_onEntry s r number _ fun _ => by dsimp only; (repeat' split) <;> simp
@[simp] theorem scales_serveQuarantine (number : Nat) : (serveQuarantine number r s).1.scales = s.scales :=
  scales_onEntry s r number _ fun _ => by (repeat' split) <;> simp
@[simp] theorem scales_serveClose (number : Nat) : (serveClose number r s).1.scales = s.scales :=
  scales_onEntry s r number _ fun _ => by (repeat' split) <;> simp
@[simp] theorem scales_serveForceExit (number : Nat) : (serveForceExit number r s).1.scales = s.scales :=
  scales_onEntry s r number _ fun _ => by dsimp only; (repeat' split) <;> simp
@[simp] theorem scales_serveStoreTare (plate : List Byte) (tag : Option Nat) (weight : Int) (cls validity account : Nat) :
    (serveStoreTare plate tag weight cls validity account r s).1.scales = s.scales := by
  simp only [serveStoreTare]; (repeat' split) <;> simp
@[simp] theorem scales_serveDeleteTare (plate : List Byte) : (serveDeleteTare plate r s).1.scales = s.scales := by
  unfold serveDeleteTare; split <;> simp
@[simp] theorem scales_serveSetClock (year month day hour minute second : Nat) :
    (serveSetClock year month day hour minute second r s).1.scales = s.scales := by
  simp only [serveSetClock]; split <;> simp
@[simp] theorem scales_serveSetTicketBase (n : Nat) : (serveSetTicketBase n r s).1.scales = s.scales := by
  unfold serveSetTicketBase; (repeat' split) <;> simp
@[simp] theorem scales_serveVoidTicket (number reason : Nat) : (serveVoidTicket number reason r s).1.scales = s.scales := by
  unfold serveVoidTicket; (repeat' split) <;> simp
@[simp] theorem scales_serveConfirmCollected (n : Nat) : (serveConfirmCollected n r s).1.scales = s.scales := by
  simp only [serveConfirmCollected]; (repeat' split) <;> simp

end

end Sys2Proof.Machine
end

section
/-! SUPPORT. The laws of the engines and of the zeros under the operations of the engines, of zero setting and of calibration
(R80, R87, R103). -/

namespace Sys2Proof.Machine

/-! ### The law of one engine -/

/-- An engine in the state that its capture and its occupancy reading give it keeps the law, whatever else it holds. -/
theorem Engine.Law.of_active {g : Engine} (h : g.state = g.activeState) : g.Law :=
  ⟨fun _ => h, fun hoff => absurd (h.symm.trans hoff) g.activeState_ne_off⟩

theorem Engine.Law.of_core {g g' : Engine} (h : g.Law) (hcore : g'.core = g.core) : g'.Law := by
  have hlaw : ∀ x : Engine, x.core.Law ↔ x.Law := fun x => ⟨fun h => ⟨h.active, h.off⟩, fun h => ⟨h.active, h.off⟩⟩
  rwa [← hlaw, hcore, hlaw]

section
variable {g : Engine}

/-- An engine that holds a capture is not OFF (R80, R87). -/
theorem Engine.Law.on_of_capture (h : g.Law) {k : Capture} (hk : g.capture = some k) : g.state ≠ .off := by
  intro hoff
  obtain ⟨-, -, -, -, hcapture, -⟩ := h.off hoff
  rw [hk] at hcapture
  cases hcapture

/-- An engine that holds a collection is not OFF (R80). -/
theorem Engine.Law.on_of_collection (h : g.Law) {k : Collection} (hk : g.collection = some k) : g.state ≠ .off := by
  intro hoff
  obtain ⟨-, -, -, -, -, hcollection⟩ := h.off hoff
  rw [hk] at hcollection
  cases hcollection

theorem Engine.Law.dropCollection (h : g.Law) : ({ g with collection := none } : Engine).Law where
  active := h.active
  off hoff := by
    obtain ⟨hfilter, hstab, hoccupancy, hlatest, hcapture, -⟩ := h.off hoff
    exact ⟨hfilter, hstab, hoccupancy, hlatest, hcapture, rfl⟩

theorem Engine.Law.putCollection (h : g.Law) (hs : g.state ≠ .off) (k : Collection) :
    ({ g with collection := some k } : Engine).Law := .of_active (h.active hs)

/-- A capture in flight may change, and stays in flight (R87). -/
theorem Engine.Law.putCapture (h : g.Law) {k : Capture} (hk : g.capture = some k) (k' : Capture) :
    ({ g with capture := some k' } : Engine).Law := by
  refine .of_active ((h.active (h.on_of_capture hk)).trans ?_)
  simp [Engine.activeState, hk]

theorem Engine.Law.emptyStab (h : g.Law) : ({ g with stab := [] } : Engine).Law where
  active := h.active
  off hoff := by
    obtain ⟨hfilter, -, hrest⟩ := h.off hoff
    exact ⟨hfilter, rfl, hrest⟩

/-- A capture's timers and pause do not bear on the law. -/
theorem Engine.Law.mapCapture (h : g.Law) (f : Capture → Capture) :
    ({ g with capture := g.capture.map f } : Engine).Law where
  active hs := (h.active hs).trans (by simp [Engine.activeState])
  off hoff := by
    obtain ⟨hfilter, hstab, hoccupancy, hlatest, hcapture, hcollection⟩ := h.off hoff
    exact ⟨hfilter, hstab, hoccupancy, hlatest, by simp [hcapture], hcollection⟩

theorem Engine.Law.unposition (h : g.Law) : g.unposition.Law := by
  have hpaused := h.mapCapture fun c => { c with paused := true, leave := some 0 }
  cases hc : g.capture with
  | none => exact hpaused.of_core (by simp [Engine.core, Engine.unposition, hc])
  | some k => exact hpaused.emptyStab.of_core (by simp [Engine.core, Engine.unposition, hc])

theorem Engine.Law.reposition (h : g.Law) : g.reposition.Law :=
  (h.mapCapture fun c => { c with paused := false, leave := none }).of_core rfl

/-- The histories follow a change of Zd; empty ones stay empty (R78). -/
theorem Engine.Law.shift (h : g.Law) (delta : Int) :
    ({ g with filter := g.filter.map (· - delta), stab := g.stab.map fun x => { x with gf := x.gf - delta } } : Engine).Law
    where
  active := h.active
  off hoff := by
    obtain ⟨hfilter, hstab, hrest⟩ := h.off hoff
    exact ⟨by simp [hfilter], by simp [hstab], hrest⟩

/-- An engine that a metrological change has touched (R80, R186). -/
theorem Engine.Touched.law {off : Prop} {g' : Engine} (h : Engine.Touched off g g') : g'.Law := by
  obtain ⟨hfilter, hstab, hoccupancy, hlatest, hcollection, hends, hstays⟩ := h
  by_cases hoff : off
  · obtain ⟨hstate, hcapture⟩ := hends hoff
    exact ⟨fun hs => absurd hstate hs, fun _ => ⟨hfilter, hstab, hoccupancy, hlatest, hcapture, hcollection⟩⟩
  · obtain ⟨hcapture, hstate⟩ := hstays hoff
    refine .of_active (hstate.trans ?_)
    rw [Engine.activeState, hoccupancy, hcapture]

end

/-! ### A capture's or an occupancy reading's change of the engine state -/

section
variable {s : State} {d : Deck}

theorem State.refreshActive_same (window : Option Nat) (h : (s.eng d).state = .off ∨ (s.eng d).activeState = (s.eng d).state) :
    s.refreshActive d window = s := if_pos h

theorem State.refreshActive_new (window : Option Nat) (hs : (s.eng d).state ≠ .off)
    (hnew : (s.eng d).activeState ≠ (s.eng d).state) : s.refreshActive d window =
      ((s.modEng d fun g => { g with state := (s.eng d).activeState }).post (.engine d)
        (.engineState d (s.eng d).state (s.eng d).activeState window)).flag .decks := if_neg (not_or.mpr ⟨hs, hnew⟩)

theorem State.eng_refreshActive (window : Option Nat) (hs : (s.eng d).state ≠ .off) :
    (s.refreshActive d window).eng d = { s.eng d with state := (s.eng d).activeState } := by
  by_cases hnew : (s.eng d).activeState = (s.eng d).state
  · rw [State.refreshActive_same window (.inr hnew), hnew]
  · rw [State.refreshActive_new window hs hnew]
    simp

/-- An engine that is on keeps the law once its state is fixed afresh. -/
theorem State.law_refreshActive (window : Option Nat) (hs : (s.eng d).state ≠ .off) :
    ((s.refreshActive d window).eng d).Law := by
  rw [State.eng_refreshActive window hs]
  exact .of_active rfl

end

/-! ### The taking of a window record -/

/-- What the stages make of a window record: the reading, the histories and the occupancy reading (R69 to R81). -/
def State.staged (s : State) (w : WindowRecord) : Reading × List Int × List StabEntry × Occupancy :=
  if w.status = .valid then s.compute w.deck w else (invalidReading w, [], [], .unknown)

/-- The DECK_RANGE of a reading whose range condition comes to OVERLOAD or UNDERLOAD (R76). -/
def State.postRange (s : State) (d : Deck) (before now : Option RangeCond) (n : Nat) : State :=
  match now with
  | some .overload => if before = some RangeCond.overload then s else s.post (.engine d) (.deckRange d .overload n)
  | some .underload => if before = some RangeCond.underload then s else s.post (.engine d) (.deckRange d .underload n)
  | some .inRange => s
  | none => s

/-- The taking of a window record, up to the reading that becomes the latest (R69, R76, R82). -/
def State.judgedReading (s : State) (w : WindowRecord) : State :=
  let c := s.staged w
  let before := (s.eng w.deck).latest.bind Reading.range
  ((((s.modEng w.deck fun g => { g with filter := c.2.1, stab := c.2.2.1, occupancy := c.2.2.2 }).flagIf
    ((s.eng w.deck).occupancy != c.2.2.2 || before != c.1.range) .decks).postRange w.deck before c.1.range
      w.number).refreshActive w.deck (some w.number))

theorem State.takeWindow_eq (s : State) (w : WindowRecord) :
    s.takeWindow w =
      let r := { (s.staged w).1 with state := ((s.judgedReading w).eng w.deck).state }
      ((s.judgedReading w).modEng w.deck fun g => { g with latest := some r }, r) := rfl

@[simp] theorem State.eng_flagIf (s : State) (b : Bool) (f : Flag) (d : Deck) : (s.flagIf b f).eng d = s.eng d := by
  cases b <;> rfl

@[simp] theorem State.eng_postRange (s : State) (d : Deck) (before now : Option RangeCond) (n : Nat) (x : Deck) :
    (s.postRange d before now n).eng x = s.eng x := by
  unfold State.postRange
  repeat' split
  all_goals rfl

/-- The histories and the occupancy reading that an engine takes from a window record (R69). -/
def Engine.staged (g : Engine) (c : Reading × List Int × List StabEntry × Occupancy) : Engine :=
  { g with filter := c.2.1, stab := c.2.2.1, occupancy := c.2.2.2 }

theorem State.eng_judgedReading {s : State} {w : WindowRecord} (hs : (s.eng w.deck).state ≠ .off) :
    (s.judgedReading w).eng w.deck =
      { (s.eng w.deck).staged (s.staged w) with state := ((s.eng w.deck).staged (s.staged w)).activeState } := by
  unfold State.judgedReading
  rw [State.eng_refreshActive] <;> simp only [State.eng_postRange, State.eng_flagIf, State.eng_modEng_self]
  · rfl
  · exact hs

namespace State.EngineMoves
variable {d : Deck} (s : State)

theorem refreshActive (window : Option Nat) : EngineMoves d s (s.refreshActive d window) :=
  .ite (refl d s) (((modEng ..).trans (post ..)).trans (flag ..))

theorem failCapture (reason : FailReason) (window : Option Nat) : EngineMoves d s (s.failCapture d reason window) :=
  (dropCapture ..).trans (refreshActive ..)

theorem completeCapture (k : Capture) (weight : Int) (e : Nat) (cls : WeighClass) (window : Nat) :
    EngineMoves d s (s.completeCapture d k weight e cls window) :=
  ((((modEng ..).trans (raise ..)).trans (post ..)).trans (flag ..)).trans (refreshActive ..)

theorem testStability (k : Capture) (r : Reading) : EngineMoves d s (s.testStability d k r) := by
  unfold State.testStability
  split
  · refine .ite (refl d s) ?_
    split
    · exact failCapture ..
    · exact .ite (completeCapture ..) (refl d s)
    · exact refl d s
    · exact refl d s
  · exact refl d s

theorem offerCapture (r : Reading) (marked : Bool) : EngineMoves d s (s.offerCapture d r marked) := by
  have hmod : ∀ f, EngineMoves d s (s.modCapture d f) := fun f => modEng ..
  unfold State.offerCapture
  split
  · exact refl d s
  · exact .ite (.ite ((hmod _).trans (failCapture ..)) (hmod _))
      (.ite ((hmod _).trans (failCapture ..)) (.ite ((hmod _).trans (modEng ..))
        (.ite (hmod _) ((hmod _).trans (testStability ..)))))

theorem postRange (before now : Option RangeCond) (n : Nat) : EngineMoves d s (s.postRange d before now n) := by
  unfold State.postRange
  split
  · exact .ite (refl d s) (post ..)
  · exact .ite (refl d s) (post ..)
  · exact refl d s
  · exact refl d s

/-- A window record moves its deck's engine, up to the reading that becomes the latest. -/
theorem judgedReading (w : WindowRecord) : EngineMoves w.deck s (s.judgedReading w) := by
  have hflag : ∀ (t : State) b, EngineMoves w.deck t (t.flagIf b .decks) := fun t b => .ite (flag ..) (refl _ t)
  exact (((modEng ..).trans (hflag ..)).trans (postRange ..)).trans (refreshActive ..)

theorem takeWindow (w : WindowRecord) : EngineMoves w.deck s (s.takeWindow w).1 := by
  rw [State.takeWindow_eq]
  exact (judgedReading s w).trans (modEng ..)

end State.EngineMoves
end Sys2Proof.Machine
end

section
/-! SUPPORT. Every operation of the engines, of zero setting and of calibration keeps the laws of the engines and of the zeros
(R80, R87, R103). -/

namespace Sys2Proof.Machine

/-- `t` holds the laws of the engines and of the zeros wherever `s` does. -/
structure State.KeepsScales (s t : State) : Prop where
  engine : ∀ d, (s.eng d).Law → (t.eng d).Law
  zero : ∀ d, (s.deckCfg d).ZeroLaw → (t.deckCfg d).ZeroLaw

namespace State.KeepsScales

theorem refl (s : State) : s.KeepsScales s := ⟨fun _ => id, fun _ => id⟩

theorem trans {s t u : State} (h : s.KeepsScales t) (k : t.KeepsScales u) : s.KeepsScales u :=
  ⟨fun d => k.engine d ∘ h.engine d, fun d => k.zero d ∘ h.zero d⟩

theorem ite {s t u : State} {c : Prop} [Decidable c] (ht : c → s.KeepsScales t) (hu : ¬ c → s.KeepsScales u) :
    s.KeepsScales (if c then t else u) := by
  split
  · exact ht ‹_›
  · exact hu ‹_›

theorem of_scales {s t : State} (h : t.scales = s.scales) : s.KeepsScales t := by
  have hd : ∀ d, t.scales d = s.scales d := fun d => congrFun h d
  refine ⟨fun d hlaw => hlaw.of_core (congrArg Prod.fst (hd d)), fun d hzero => ?_⟩
  have hz : ((t.deckCfg d).zd, (t.deckCfg d).zlim) = ((s.deckCfg d).zd, (s.deckCfg d).zlim) := congrArg Prod.snd (hd d)
  obtain ⟨hzd, hlim⟩ := Prod.mk.inj hz
  rwa [DeckCfg.ZeroLaw, hzd, hlim]

theorem of_moves {d : Deck} {s t : State} (h : EngineMoves d s t) (hd : (s.eng d).Law → (t.eng d).Law) :
    s.KeepsScales t where
  engine x := by
    by_cases hx : x = d
    · exact hx ▸ hd
    · rw [h.others x hx]
      exact id
  zero x := by
    have hcfg : t.deckCfg x = s.deckCfg x := by rw [h.frame]; rfl
    rw [hcfg]
    exact id

section
variable (s : State) (d : Deck)

theorem modEng (f : Engine → Engine) (hf : (s.eng d).Law → (f (s.eng d)).Law) : s.KeepsScales (s.modEng d f) :=
  of_moves (.modEng s f) (by rwa [State.eng_modEng_self])

theorem modDeckCfg (f : DeckCfg → DeckCfg) (hf : (s.deckCfg d).ZeroLaw → (f (s.deckCfg d)).ZeroLaw) :
    s.KeepsScales (s.modDeckCfg d f) where
  engine x := by rw [State.eng_modDeckCfg]; exact id
  zero x := by
    by_cases hx : x = d
    · subst hx
      rwa [State.deckCfg_modDeckCfg_self]
    · rw [s.deckCfg_modDeckCfg_ne d f hx]
      exact id

theorem foldl {α : Type} {f : State → α → State} (hf : ∀ s a, KeepsScales s (f s a)) (xs : List α) (s : State) :
    s.KeepsScales (xs.foldl f s) := by
  induction xs generalizing s with
  | nil => exact refl s
  | cons a xs ih => exact (hf s a).trans (ih _)

/-! ### Captures and collections -/

theorem failCapture (reason : FailReason) (window : Option Nat) :
    s.KeepsScales (s.failCapture d reason window) := by
  refine of_moves (.failCapture s reason window) fun hlaw => ?_
  by_cases hs : (s.eng d).state = .off
  · obtain ⟨-, -, -, -, hcapture, -⟩ := hlaw.off hs
    have hdrop : s.dropCapture d reason = s := by simp only [State.dropCapture, hcapture]
    rwa [State.failCapture, hdrop, State.refreshActive_same window (.inl hs)]
  · exact State.law_refreshActive window (by rwa [State.eng_dropCapture])

theorem failCollection (reason : CalFailReason) : s.KeepsScales (s.failCollection d reason) :=
  of_moves (.failCollection s reason) fun hlaw => by rw [State.eng_failCollection]; exact hlaw.dropCollection

theorem startCapture (origin : Option Port) (hs : (s.eng d).state ≠ .off) : s.KeepsScales (s.startCapture d origin) := by
  unfold State.startCapture
  split
  · exact refl s
  · exact of_moves ((EngineMoves.modEng ..).trans (.refreshActive ..)) fun _ =>
      State.law_refreshActive none (by rwa [State.eng_modEng_self])

/-- A capture in flight is rewritten in its place. -/
theorem putCapture {k : Capture} (hk : (s.eng d).capture = some k) (k' : Capture) :
    s.KeepsScales (s.modEng d fun g => { g with capture := some k' }) :=
  modEng s d _ fun hlaw => hlaw.putCapture hk k'

theorem modCapture (f : Capture → Capture) : s.KeepsScales (s.modCapture d f) :=
  modEng s d _ fun hlaw => hlaw.mapCapture f

theorem recordsAbort (number : Nat) : s.KeepsScales (s.recordsAbort d number) :=
  ite (fun _ => failCapture ..) fun _ => refl s

theorem leaveDeckExpiry : s.KeepsScales (s.leaveDeckExpiry d) := ite (fun _ => failCapture ..) fun _ => refl s

theorem attemptExpiry : s.KeepsScales (s.attemptExpiry d) := by
  unfold State.attemptExpiry
  split
  · exact refl s
  next k hk =>
  have hput := putCapture s d hk
  refine ite (fun _ => refl s) fun _ => ?_
  dsimp only
  split
  · exact ite (fun _ => hput _) fun _ =>
      ite (fun _ => (hput _).trans (of_scales rfl)) fun _ => (hput _).trans (failCapture ..)
  · exact ite (fun _ => hput _) fun _ => (hput _).trans (failCapture ..)

theorem positioningEdge (i : Input) (e : Edge) : s.KeepsScales (s.positioningEdge d i e) := by
  unfold State.positioningEdge
  refine ite (fun _ => refl s) fun _ => ?_
  split
  · exact ite (fun _ => modEng s d _ Engine.Law.unposition) fun _ => refl s
  · exact ite (fun _ => modEng s d _ Engine.Law.reposition) fun _ => refl s

theorem completeCapture (k : Capture) (weight : Int) (e : Nat) (cls : WeighClass) (window : Nat)
    (hs : (s.eng d).state ≠ .off) : s.KeepsScales (s.completeCapture d k weight e cls window) :=
  of_moves (.completeCapture s k weight e cls window) fun _ =>
    State.law_refreshActive (some window) (by simpa using hs)

theorem testStability (k : Capture) (r : Reading) (hs : (s.eng d).state ≠ .off) :
    s.KeepsScales (s.testStability d k r) := by
  unfold State.testStability
  split
  · refine ite (fun _ => refl s) fun _ => ?_
    split
    · exact failCapture ..
    · exact ite (fun _ => completeCapture s d _ _ _ _ _ hs) fun _ => refl s
    · exact refl s
    · exact refl s
  · exact refl s

theorem offerCapture (r : Reading) (marked : Bool) : s.KeepsScales (s.offerCapture d r marked) := by
  refine of_moves (.offerCapture s r marked) fun hlaw => engine ?_ d hlaw
  have hmod := modCapture s d
  unfold State.offerCapture
  split
  · exact refl s
  next k hk =>
  have hs := hlaw.on_of_capture hk
  refine ite (fun _ => ite (fun _ => (hmod _).trans (failCapture ..)) fun _ => hmod _) fun _ => ?_
  refine ite (fun _ => (hmod _).trans (failCapture ..)) fun _ => ?_
  refine ite (fun _ => (hmod _).trans (modEng _ d _ Engine.Law.emptyStab)) fun _ => ?_
  exact ite (fun _ => hmod _) fun _ => (hmod _).trans (testStability _ d _ r (by simpa [State.modCapture] using hs))

/-- An engine that is on keeps the law through a window record (R69, R80). -/
theorem takeWindow (w : WindowRecord) (hs : (s.eng w.deck).state ≠ .off) : s.KeepsScales (s.takeWindow w).1 := by
  refine of_moves (.takeWindow s w) fun _ => ?_
  rw [State.takeWindow_eq, State.eng_modEng_self, State.eng_judgedReading hs]
  exact .of_active rfl

end
end State.KeepsScales
end Sys2Proof.Machine
end

section
/-! SUPPORT. Every command keeps the laws of the engines and of the zeros (R80, R87, R103). -/

namespace Sys2Proof.Machine

/-- A clamped value lies within a symmetric limit (R103). -/
theorem abs_clampInt_le {n : Int} (hn : 0 ≤ n) (x : Int) : |clampInt (-n) n x| ≤ n := by
  rw [abs_le]
  unfold clampInt
  split
  · omega
  · split <;> omega

theorem DeckCfg.zlim_nonneg (c : DeckCfg) : 0 ≤ c.zlim := by unfold DeckCfg.zlim; omega

namespace State.KeepsScales

section
variable (s : State) (d : Deck)

/-! ### Metrological changes -/

/-- A metrological change of decks without repetitions keeps what the state before it keeps (R186). -/
theorem metroChange (old : State) {ds : List Deck} (hds : ds.Nodup) (window : Option Nat) :
    s.KeepsScales (State.metroChange old s ds window) := by
  have htouches := State.touchesDecks_metroChange old s ds window
  refine ⟨fun x hlaw => ?_, fun x hzero => ?_⟩
  · by_cases hx : x ∈ ds
    · exact (htouches.touched hds x hx hlaw).law
    · rw [htouches.others x hx]
      exact hlaw
  · rw [State.deckCfg, State.backup_metroChange]
    exact hzero

theorem setChange (old : State) (r : CalRequest) {ds : List Deck} (hds : ds.Nodup) (ch : Option Channel) :
    s.KeepsScales (State.setChange old s r ds ch) :=
  (metroChange s old hds none).trans (of_scales rfl)

theorem storeMetrology (m : Metrology) : s.KeepsScales (s.storeMetrology d m) := by
  have hshort : s.KeepsScales (if (s.deckCfg d).metrology.window = m.window then s else s.shortClose d) :=
    of_scales (by simp)
  have hstore : ∀ t : State, t.KeepsScales (t.modDeckCfg d fun c => c.withMetrology m) := fun t =>
    modDeckCfg t d _ fun _ => abs_clampInt_le (n := (m.max2 : Int) * 20) (by omega) _
  have hlatch : ∀ (t : State) (c : Prop) [Decidable c] (b : Bool), t.KeepsScales (if c then t else t.latchZeroLimit d b none) :=
    fun t c _ b => of_scales (by simp)
  have hopen : ∀ (t : State) (c : Prop) [Decidable c], t.KeepsScales (if c then t else t.maybeOpen d) :=
    fun t c _ => of_scales (by simp)
  exact ((((hshort.trans (hstore _)).trans (hlatch ..)).trans (hopen ..))).trans (setChange _ s _ (List.nodup_singleton d) _)

theorem writePair (r : CalRequest) (ch : Channel) (f : ChannelCfg → ChannelCfg) :
    s.KeepsScales (s.writePair r ch f).1 := by
  have hds : (s.chanCfg ch).map.toList.Nodup := by cases (s.chanCfg ch).map <;> simp
  have hwrite : s.KeepsScales (s.modChanCfg ch f) := of_scales rfl
  unfold State.writePair
  split
  · exact refl s
  · exact hwrite.trans (setChange _ s r hds _)

theorem mapChannel (ch : Channel) (m : Option Deck) (p : Edge) : s.KeepsScales (s.mapChannel ch m p) := by
  have hds : (affected (s.chanCfg ch).map m).Nodup := List.Nodup.filter _ (by decide)
  have hshort : ∀ (ds : List Deck) (t : State), (ds.foldl State.shortClose t).scales = t.scales := fun ds t =>
    t.scales_foldl State.shortClose State.scales_shortClose ds
  have hopen : ∀ (ds : List Deck) (t : State), (ds.foldl State.maybeOpen t).scales = t.scales := fun ds t =>
    t.scales_foldl State.maybeOpen State.scales_maybeOpen ds
  refine trans (of_scales ?_) (setChange _ s .setChannelMap hds _)
  simp only [hopen, State.scales_modChan, State.scales_modChanCfg, hshort]

/-! ### Zd -/

theorem changeZd (delta : Int) (h : |(s.deckCfg d).zd + delta| ≤ (s.deckCfg d).zlim) :
    s.KeepsScales (s.changeZd d delta) :=
  (modDeckCfg s d _ fun _ => by simpa only [DeckCfg.ZeroLaw, DeckCfg.zlim] using h).trans
    (modEng _ d _ fun hlaw => hlaw.shift delta)

theorem trackZero (r : Reading) : s.KeepsScales (s.trackZero d r) := by
  unfold State.trackZero
  split
  · refine ite (fun _ => refl s) fun _ => ?_
    have hlimit := abs_clampInt_le (s.deckCfg d).zlim_nonneg
    have hmove : ∀ (c : Prop) [Decidable c] (x : Int),
        s.KeepsScales (if c then s else s.changeZd d (clampInt (-(s.deckCfg d).zlim) (s.deckCfg d).zlim x - (s.deckCfg d).zd)) :=
      fun c _ x => ite (fun _ => refl s) fun _ => changeZd s d _ (by simpa using hlimit x)
    dsimp only
    exact ite (fun _ => hmove ..) fun _ => (hmove ..).trans (of_scales (State.scales_latchZeroLimit ..))
  · exact refl s

/-! ### Collections -/

theorem dropCollection : s.KeepsScales (s.modEng d fun g => { g with collection := none }) :=
  modEng s d _ Engine.Law.dropCollection

theorem putCollection (k : Collection) (hs : (s.eng d).Law → (s.eng d).state ≠ .off) :
    s.KeepsScales (s.putCollection d k) := modEng s d _ fun hlaw => hlaw.putCollection (hs hlaw) k

theorem zeroCompletion (k : Collection) (window : Nat) : s.KeepsScales (s.zeroCompletion d k window) := by
  have hzeros : ∀ (zs : List (Channel × Nat)),
      (zs.foldl (fun t z => t.modChanCfg z.1 fun c => { c with zero := z.2 }) s).scales = s.scales :=
    s.scales_foldl _ fun _ _ => rfl
  have hzd : ∀ t : State, t.KeepsScales (t.modDeckCfg d fun c => { c with zd := 0 }) := fun t =>
    modDeckCfg t d _ fun _ => by simpa [DeckCfg.ZeroLaw] using DeckCfg.zlim_nonneg _
  have hend : ∀ t : State, t.KeepsScales (t.modEng d fun g => { g with collection := none, zeroLimit := false }) := fun t =>
    modEng t d _ fun hlaw => hlaw.dropCollection.of_core rfl
  exact ((((of_scales (hzeros _)).trans (hzd _)).trans (hend _)).trans
    (metroChange _ s (List.nodup_singleton d) _)).trans (of_scales rfl)

theorem spanCompletion (k : Collection) (load : Int) (window : Nat) :
    s.KeepsScales (s.spanCompletion d k load window) := by
  have hfactors : ∀ (ks : List (Channel × Nat × Bool)),
      (ks.foldl (fun t x => t.modChanCfg x.1 fun c => { c with factor := x.2.1 }) s).scales = s.scales :=
    s.scales_foldl _ fun _ _ => rfl
  exact ite (fun _ => failCollection ..) fun _ => (((of_scales (hfactors _)).trans (dropCollection _ d)).trans
    (metroChange _ s (List.nodup_singleton d) _)).trans (of_scales rfl)

theorem offerCollection (w : WindowRecord) (r : Reading) : s.KeepsScales (s.offerCollection d w r) := by
  unfold State.offerCollection
  split
  · exact refl s
  next k hk =>
  have hput : ∀ k', s.KeepsScales (s.putCollection d k') := fun k' => putCollection s d k' fun hlaw => hlaw.on_of_collection hk
  refine ite (fun _ => refl s) fun _ => ?_
  refine ite (fun _ => ite (fun _ => (hput _).trans (failCollection ..)) fun _ => hput _) fun _ => ?_
  refine ite (fun _ => hput _) fun _ => ite (fun _ => hput _) fun _ => ?_
  split
  · exact (hput _).trans (zeroCompletion ..)
  · exact (hput _).trans (spanCompletion ..)

theorem engineWindow (w : WindowRecord) : s.KeepsScales (s.engineWindow w) :=
  ite (fun _ => refl s) fun hs =>
    (((takeWindow s w hs).trans (offerCapture ..)).trans (trackZero ..)).trans (offerCollection ..)

/-- A collection starts only where the engine is not OFF (R191). -/
theorem startCollection (k : CollectionKind) (origin : Port) : s.KeepsScales (s.startCollection d k origin).1 := by
  unfold State.startCollection
  split
  · exact refl s
  · next hok =>
    refine putCollection s d _ fun _ hoff => ?_
    simp only [State.collectionRefusal, hoff, true_or, if_true] at hok
    repeat' split at hok
    all_goals cases hok

theorem takeCalSwitch : s.KeepsScales s.takeCalSwitch := by
  have ht : ∀ v, s.KeepsScales (((s.modSup v).post .supervisor (.calSwitch (!s.sup.calSwitch) s.ms)).flag .decks) :=
    fun _ => of_scales rfl
  exact ite (fun _ => refl s) fun _ => ite (fun _ => ht _) fun _ =>
    ((ht _).trans (failCollection ..)).trans (failCollection ..)

/-! ### Readers, and the return to service -/

/-- An engine's own state is fixed afresh (R80). -/
theorem refreshEngine (window : Option Nat) : s.KeepsScales (s.refreshEngine d window) := by
  refine of_moves (.refreshEngine s window) fun hlaw => ?_
  by_cases hoff : s.EngineOff d
  · by_cases hs : (s.eng d).state = .off
    · rwa [State.refreshEngine_same window ((State.engineStateNow_off hoff).trans hs.symm)]
    · rw [State.eng_refreshEngine_off window hoff hs]
      exact ⟨fun h => absurd rfl h, fun _ => ⟨rfl, rfl, rfl, rfl, rfl, rfl⟩⟩
  · rw [State.eng_refreshEngine_on window hoff]
    exact .of_active rfl

theorem modeTaken (r : ModeReader) (m : YardMode) : s.KeepsScales (s.modeTaken r m) := by
  have hset : s.KeepsScales (s.setModeAt r m) := of_scales rfl
  have hcapture : ∀ t : State, (Deck.all.foldl (fun u d => u.modeAtCapture d m) t).scales = t.scales := fun t =>
    t.scales_foldl _ (fun u d => u.scales_modeAtCapture d m) _
  cases r with
  | captureUnit => exact hset.trans (of_scales (hcapture _))
  | engine d => exact hset.trans (refreshEngine ..)
  | lane l => exact hset.trans (of_scales (State.scales_judgeLamps ..))
  | records | arbiter | entryBarrier => exact hset

theorem supplyTaken (r : SupplyReader) (st : SupplyState) : s.KeepsScales (s.supplyTaken r st) := by
  have hset : s.KeepsScales (s.setSupplyAt r st) := of_scales rfl
  cases r with
  | engine d => exact ite (fun _ => (hset.trans (failCapture ..)).trans (failCollection ..)) fun _ => hset
  | arbiter d => exact ite (fun _ => hset.trans (of_scales (State.scales_withdrawGrant ..))) fun _ => hset
  | barrier b => exact hset.trans (of_scales (State.scales_judgeKeepalive ..))

theorem returnToService : s.KeepsScales (s.returnToService d) := by
  have hholds : ∀ f, (((s.changeArb d f).endCommandHold (Deck.entry d)).endCommandHold (Deck.exit d)).scales = s.scales :=
    fun _ => by simp
  exact ((of_scales (hholds _)).trans (failCollection ..)).trans (of_scales (State.scales_deckEmpty ..))

end

/-! ### Requests -/

section
variable (s : State) (r : Role) (deck : Nat)

theorem ite_fst {s : State} {x y : State × Reply} {c : Prop} [Decidable c] (hx : c → s.KeepsScales x.1)
    (hy : ¬ c → s.KeepsScales y.1) : s.KeepsScales (if c then x else y).1 := by
  rw [apply_ite Prod.fst]
  exact ite hx hy

theorem serveSetMetrology (mode max1 max2 e1 e2 window f sc : Nat) :
    s.KeepsScales (serveSetMetrology deck mode max1 max2 e1 e2 window f sc r s).1 := by
  unfold Machine.serveSetMetrology
  split
  · exact ite_fst (fun _ => refl s) fun _ => ite_fst (fun _ => refl s) fun _ => ite_fst (fun _ => refl s) fun _ =>
      storeMetrology ..
  · exact refl s

theorem serveSetChannelFactor (channel k : Nat) : s.KeepsScales (serveSetChannelFactor channel k r s).1 := by
  unfold Machine.serveSetChannelFactor
  split
  · exact refl s
  · exact ite_fst (fun _ => refl s) fun _ => ite_fst (fun _ => refl s) fun _ => writePair ..

theorem serveSetChannelZero (channel z : Nat) : s.KeepsScales (serveSetChannelZero channel z r s).1 := by
  unfold Machine.serveSetChannelZero
  split
  · exact refl s
  · exact ite_fst (fun _ => refl s) fun _ => ite_fst (fun _ => refl s) fun _ => writePair ..

theorem serveSetChannelMap (channel map polarity : Nat) : s.KeepsScales (serveSetChannelMap channel map polarity r s).1 := by
  unfold Machine.serveSetChannelMap
  split
  · exact ite_fst (fun _ => refl s) fun _ => ite_fst (fun _ => refl s) fun _ => ite_fst (fun _ => refl s) fun _ =>
      mapChannel ..
  · exact refl s

theorem serveCalZeroDeck (q : Sender) : s.KeepsScales (serveCalZeroDeck q deck r s).1 := by
  have hlatch : ∀ (t : State) d, t.KeepsScales (t.modEng d fun g => { g with zeroLimit := false }) := fun t d =>
    of_scales (t.scales_modEng d _ fun _ => rfl)
  unfold Machine.serveCalZeroDeck
  split
  · exact refl s
  · exact ite (fun _ => (startCollection ..).trans (hlatch ..)) fun _ => startCollection ..

theorem serveCalSpanDeck (q : Sender) (load : Int) : s.KeepsScales (serveCalSpanDeck q deck load r s).1 := by
  unfold Machine.serveCalSpanDeck
  split
  · exact refl s
  · exact ite_fst (fun _ => refl s) fun _ => startCollection ..

theorem serveAbortCalibration : s.KeepsScales (serveAbortCalibration deck r s).1 := by
  unfold Machine.serveAbortCalibration
  split
  · exact refl s
  · exact ite_fst (fun _ => refl s) fun _ => failCollection ..

theorem serveCapture (q : Sender) : s.KeepsScales (serveCapture q deck r s).1 := by
  unfold Machine.serveCapture
  split
  · exact refl s
  · refine ite_fst (fun _ => refl s) fun _ => ite_fst (fun _ => refl s) fun hready => ?_
    exact ite_fst (fun _ => refl s) fun _ => startCapture s _ _ fun hoff => hready (.inr (.inr (.inl hoff)))

theorem serveAbortCapture : s.KeepsScales (serveAbortCapture deck r s).1 := by
  unfold Machine.serveAbortCapture
  split
  · exact refl s
  · exact ite_fst (fun _ => refl s) fun _ => failCapture ..

theorem serveZeroDeck : s.KeepsScales (serveZeroDeck deck r s).1 := by
  have hlatch : ∀ (t : State) d, t.KeepsScales ((t.modEng d fun g => { g with zeroLimit := false }).flag .decks) :=
    fun t d => of_scales (t.scales_modEng d _ fun _ => rfl)
  unfold Machine.serveZeroDeck
  split
  · exact refl s
  refine ite_fst (fun _ => refl s) fun _ => ite_fst (fun _ => refl s) fun _ => ?_
  split
  · exact ite_fst (fun _ => refl s) fun hlimit => (changeZd s _ _ (not_lt.mp hlimit)).trans (hlatch ..)
  · exact refl s

theorem serveSetDeckService (setting : Nat) : s.KeepsScales (serveSetDeckService deck setting r s).1 := by
  have hout : ∀ d, s.KeepsScales (s.changeArb d fun a => { a with state := .outOfService }) := fun _ =>
    of_scales (State.scales_changeArb ..)
  unfold Machine.serveSetDeckService
  split
  · split
    · exact ite_fst (fun _ => refl s) fun _ => hout _
    · exact hout _
    · exact hout _
    · exact refl s
    · exact refl s
    · exact refl s
  · exact ite_fst (fun _ => returnToService ..) fun _ => refl s
  · exact refl s

end

end State.KeepsScales

end Sys2Proof.Machine
end

section
/-! SUPPORT. Every command keeps the laws of the engines and of the zeros: the dispatch (R80, R87, R103). -/

namespace Sys2Proof.Machine

namespace State.KeepsScales

/-! ### Ticks and starts -/

theorem tick (s : State) (m : TickMark) (x : Lines) : s.KeepsScales (s.tick m x) := by
  have hcounted : s.KeepsScales (s.counted m x) :=
    ⟨fun d hlaw => by rw [State.eng_counted]; exact hlaw.mapCapture Capture.tick, fun _ => id⟩
  have hopen : s.KeepsScales (s.counted m x).openBoth := hcounted.trans (of_scales (by simp [State.openBoth]))
  rw [State.tick_eq]
  exact ite (fun _ => hopen.trans (of_scales (State.scales_foldl _ _ (fun t b => t.scales_firstLimits x b) _))) fun _ =>
    hopen

theorem watchExpiry (s : State) (x : Lines) : s.KeepsScales (s.watchExpiry x) :=
  ite (fun _ => refl s) fun _ => (tick ..).trans (of_scales rfl)

theorem restart (s : State) (x : Start) (cause : ResetCause) : s.KeepsScales (s.restart x cause) where
  engine d _ := by
    obtain ⟨mark, hmark⟩ := s.eng_restart x cause d
    rw [hmark]
    constructor <;> split <;> simp [Engine.activeState]
  zero d hzero := by
    cases hok : s.backupOk x with
    | true => rw [State.deckCfg, State.restart_kept hok]; exact hzero
    | false => rw [State.deckCfg, State.restart_lost hok]; cases d <;> decide

/-! ### The taking of commands -/

theorem of_next {s u t : State} (h : (.next u : Outcome) = .next t) (hu : s.KeepsScales u) : s.KeepsScales t :=
  Host.Outcome.next.inj h ▸ hu

theorem event {c : Instr} {f : State → State} {s t : State} (hc : exec c s = Machine.event c f s)
    (hf : ∀ s : State, s.KeepsScales (f s)) (h : exec c s = .next t) : s.KeepsScales t := by
  refine of_next (hc.symm.trans h) (ite (fun _ => ?_) fun _ => refl s)
  have htaken : s.KeepsScales (s.consume c) := of_scales rfl
  exact (htaken.trans (hf _)).trans (of_scales (State.scales_settle ..))

theorem request {c : Instr} {q : Sender} {f : Serve} {s t : State} (hc : exec c s = Machine.request c q f s)
    (hf : ∀ (r : Role) (s : State), s.KeepsScales (f r s).1) (h : exec c s = .next t) : s.KeepsScales t := by
  have hserved : ∀ (u : State) (r : Role), u.scales = s.scales → s.KeepsScales (u.serveHand q c.requestCode f r) :=
    fun u r hu => ((of_scales hu).trans (hf r u)).trans (of_scales (State.scales_reply ..))
  refine of_next (hc.symm.trans h) (ite (fun _ => trans ?_ (of_scales (State.scales_settle ..))) fun _ => refl s)
  unfold State.takeRequest
  exact ite (fun _ => hserved _ _ rfl) fun _ => ite (fun _ => of_scales rfl) fun _ => ite (fun _ => of_scales rfl) fun _ =>
    hserved _ _ rfl

/-- An event that is not of the engines, of zero setting or of calibration. -/
theorem event_framed {c : Instr} {f : State → State} {s t : State} (hc : exec c s = Machine.event c f s)
    (hf : ∀ s : State, (f s).scales = s.scales) (h : exec c s = .next t) : s.KeepsScales t :=
  event hc (fun s => of_scales (hf s)) h

/-- A request that is not of the engines, of zero setting or of calibration. -/
theorem request_framed {c : Instr} {q : Sender} {f : Serve} {s t : State} (hc : exec c s = Machine.request c q f s)
    (hf : ∀ (r : Role) (s : State), (f r s).1.scales = s.scales) (h : exec c s = .next t) : s.KeepsScales t :=
  request hc (fun r s => of_scales (hf r s)) h

theorem exec_request (c : Instr) (hc : c.spelling.isSome = true) (s t : State) (h : exec c s = .next t) :
    s.KeepsScales t := by
  cases c with
  | setDeckService => exact request (exec_setDeckService ..) (fun r s => serveSetDeckService s r ..) h
  | setMetrology => exact request (exec_setMetrology ..) (fun r s => serveSetMetrology s r ..) h
  | setChannelFactor => exact request (exec_setChannelFactor ..) (fun r s => serveSetChannelFactor s r ..) h
  | setChannelZero => exact request (exec_setChannelZero ..) (fun r s => serveSetChannelZero s r ..) h
  | calZeroDeck => exact request (exec_calZeroDeck ..) (fun r s => serveCalZeroDeck s r ..) h
  | calSpanDeck => exact request (exec_calSpanDeck ..) (fun r s => serveCalSpanDeck s r ..) h
  | abortCalibration => exact request (exec_abortCalibration ..) (fun r s => serveAbortCalibration s r ..) h
  | capture => exact request (exec_capture ..) (fun r s => serveCapture s r ..) h
  | abortCapture => exact request (exec_abortCapture ..) (fun r s => serveAbortCapture s r ..) h
  | zeroDeck => exact request (exec_zeroDeck ..) (fun r s => serveZeroDeck s r ..) h
  | setChannelMap => exact request (exec_setChannelMap ..) (fun r s => serveSetChannelMap s r ..) h
  | identify => exact request_framed (exec_identify ..) (by simp) h
  | hold => exact request_framed (exec_hold ..) (by simp) h
  | releaseHold => exact request_framed (exec_releaseHold ..) (by simp) h
  | amend => exact request_framed (exec_amend ..) (by simp) h
  | cancelTransaction => exact request_framed (exec_cancelTransaction ..) (by simp) h
  | quarantine => exact request_framed (exec_quarantine ..) (by simp) h
  | close => exact request_framed (exec_close ..) (by simp) h
  | forceExit => exact request_framed (exec_forceExit ..) (by simp) h
  | storeTare => exact request_framed (exec_storeTare ..) (by simp) h
  | deleteTare => exact request_framed (exec_deleteTare ..) (by simp) h
  | setClock => exact request_framed (exec_setClock ..) (by simp) h
  | setTicketBase => exact request_framed (exec_setTicketBase ..) (by simp) h
  | voidTicket => exact request_framed (exec_voidTicket ..) (by simp) h
  | confirmCollected => exact request_framed (exec_confirmCollected ..) (by simp) h
  | setProceedTime => exact request_framed (exec_setProceedTime ..) (by simp) h
  | clearTailgate => exact request_framed (exec_clearTailgate ..) (by simp) h
  | readDeckState => exact request_framed (exec_readDeckState ..) (by simp) h
  | setBarrier => exact request_framed (exec_setBarrier ..) (by simp) h
  | barrierReset => exact request_framed (exec_barrierReset ..) (by simp) h
  | barrierCommand => exact request_framed (exec_barrierCommand ..) (by simp) h
  | readBarriers => exact request_framed (exec_readBarriers ..) (by simp) h
  | readCalibration => exact request_framed (exec_readCalibration ..) (by simp) h
  | setCaptureOptions => exact request_framed (exec_setCaptureOptions ..) (by simp) h
  | readCapture => exact request_framed (exec_readCapture ..) (by simp) h
  | setChannelLimits => exact request_framed (exec_setChannelLimits ..) (by simp) h
  | clearFaults => exact request_framed (exec_clearFaults ..) (by simp) h
  | readChannels => exact request_framed (exec_readChannels ..) (by simp) h
  | setConditioner => exact request_framed (exec_setConditioner ..) (by simp) h
  | readInputs => exact request_framed (exec_readInputs ..) (by simp) h
  | setLaneTimers => exact request_framed (exec_setLaneTimers ..) (by simp) h
  | setLaneFeed => exact request_framed (exec_setLaneFeed ..) (by simp) h
  | setLaneMode => exact request_framed (exec_setLaneMode ..) (by simp) h
  | setLamp => exact request_framed (exec_setLamp ..) (by simp) h
  | setSignalHead => exact request_framed (exec_setSignalHead ..) (by simp) h
  | setLampInvert => exact request_framed (exec_setLampInvert ..) (by simp) h
  | readLane => exact request_framed (exec_readLane ..) (by simp) h
  | setPortRate => exact request_framed (exec_setPortRate ..) (by simp) h
  | setPortRole => exact request_framed (exec_setPortRole ..) (by simp) h
  | bindKiosk => exact request_framed (exec_bindKiosk ..) (by simp) h
  | setNoticeFloor => exact request_framed (exec_setNoticeFloor ..) (by simp) h
  | quiet => exact request_framed (exec_quiet ..) (by simp) h
  | readStatus => exact request_framed (exec_readStatus ..) (by simp) h
  | readPorts => exact request_framed (exec_readPorts ..) (by simp) h
  | setYardMode => exact request_framed (exec_setYardMode ..) (by simp) h
  | yardReset => exact request_framed (exec_yardReset ..) (by simp) h
  | setAlarmMask => exact request_framed (exec_setAlarmMask ..) (by simp) h
  | readSupervisor => exact request_framed (exec_readSupervisor ..) (by simp) h
  | readTare => exact request_framed (exec_readTare ..) (by simp) h
  | listTares => exact request_framed (exec_listTares ..) (by simp) h
  | setTareValidity => exact request_framed (exec_setTareValidity ..) (by simp) h
  | readClock => exact request_framed (exec_readClock ..) (by simp) h
  | collectNext => exact request_framed (exec_collectNext ..) (by simp) h
  | readTicket => exact request_framed (exec_readTicket ..) (by simp) h
  | setOccupancy => exact request_framed (exec_setOccupancy ..) (by simp) h
  | readDeck => exact request_framed (exec_readDeck ..) (by simp) h
  | listYard => exact request_framed (exec_listYard ..) (by simp) h
  | readTransaction => exact request_framed (exec_readTransaction ..) (by simp) h
  | findPlate => exact request_framed (exec_findPlate ..) (by simp) h
  | _ => cases hc

theorem exec_event (c : Instr) (hc : c.spelling.isSome = false) (s t : State) (h : exec c s = .next t) :
    s.KeepsScales t := by
  cases c with
  | captureStart d =>
    refine event (exec_captureStart ..) (fun s => ite (fun hstart => startCapture s d none fun hoff => ?_) fun _ => refl s) h
    simp [State.mayStart, hoff] at hstart
  | yardClockSecond => exact of_next h (of_scales rfl)
  | yardTick x =>
    refine of_next h (ite (fun _ => ?_) fun _ => of_scales rfl)
    have htaken : s.KeepsScales (s.consume (.yardTick x)) := of_scales rfl
    exact (htaken.trans (tick ..)).trans (of_scales (State.scales_settle ..))
  | mainDomainStop => exact of_next h (of_scales rfl)
  | mainReset => exact of_next h (restart ..)
  | yardResetEffect => exact of_next h (ite (fun _ => restart ..) fun _ => refl s)
  | watchExpiry => exact event (exec_watchExpiry ..) (fun s => watchExpiry s ..) h
  | calSwitch => exact event (exec_calSwitch ..) (fun s => takeCalSwitch s ..) h
  | recordsAbort => exact event (exec_recordsAbort ..) (fun s => recordsAbort s ..) h
  | captureExternalEnd => exact event (exec_captureExternalEnd ..) (fun s => failCapture s ..) h
  | attemptTimerExpiry => exact event (exec_attemptTimerExpiry ..) (fun s => attemptExpiry s ..) h
  | leaveDeckTimerExpiry => exact event (exec_leaveDeckTimerExpiry ..) (fun s => leaveDeckExpiry s ..) h
  | positioningEdge => exact event (exec_positioningEdge ..) (fun s => positioningEdge s ..) h
  | yardModeTaken => exact event (exec_yardModeTaken ..) (fun s => modeTaken s ..) h
  | supplyStateTaken => exact event (exec_supplyStateTaken ..) (fun s => supplyTaken s ..) h
  | engineWindow => exact event (exec_engineWindow ..) (fun s => engineWindow s ..) h
  | withdrawalReport => exact event_framed (exec_withdrawalReport ..) (by simp) h
  | entryPassageReport => exact event_framed (exec_entryPassageReport ..) (by simp) h
  | recordsCaptureCompletion => exact event_framed (exec_recordsCaptureCompletion ..) (by simp) h
  | recordsCaptureFailure => exact event_framed (exec_recordsCaptureFailure ..) (by simp) h
  | exitPassageReport => exact event_framed (exec_exitPassageReport ..) (by simp) h
  | filing => exact event_framed (exec_filing ..) (by simp) h
  | entryLoopEdgeAtArbiter d e => cases e <;> exact event_framed (exec_entryLoopEdgeAtArbiter ..) (by simp) h
  | choice => exact event_framed (exec_choice ..) (by simp) h
  | withdrawal => exact event_framed (exec_withdrawal ..) (by simp) h
  | acceptance => exact event_framed (exec_acceptance ..) (by simp) h
  | decline => exact event_framed (exec_decline ..) (by simp) h
  | proceedTimeout => exact event_framed (exec_proceedTimeout ..) (by simp) h
  | exitLoopEdgeAtArbiter d e => cases e <;> exact event_framed (exec_exitLoopEdgeAtArbiter ..) (by simp) h
  | exitReleaseAtArbiter => exact event_framed (exec_exitReleaseAtArbiter ..) (by simp) h
  | captureCompletionAtArbiter => exact event_framed (exec_captureCompletionAtArbiter ..) (by simp) h
  | captureFailureAtArbiter => exact event_framed (exec_captureFailureAtArbiter ..) (by simp) h
  | forceExitNoticeAtArbiter => exact event_framed (exec_forceExitNoticeAtArbiter ..) (by simp) h
  | deckEmpty => exact event_framed (exec_deckEmpty ..) (by simp) h
  | barrierStateTaken => exact event_framed (exec_barrierStateTaken ..) (by simp) h
  | permissiveRise => exact event_framed (exec_permissiveRise ..) (by simp) h
  | permissiveFall => exact event_framed (exec_permissiveFall ..) (by simp) h
  | barrierLoopEdge => exact event_framed (exec_barrierLoopEdge ..) (by simp) h
  | closeDelayExpiry => exact event_framed (exec_closeDelayExpiry ..) (by simp) h
  | motionTimeout => exact event_framed (exec_motionTimeout ..) (by simp) h
  | limitEvent => exact event_framed (exec_limitEvent ..) (by simp) h
  | keepaliveToggle => exact event_framed (exec_keepaliveToggle ..) (by simp) h
  | windowClose => exact event_framed (exec_windowClose ..) (by simp) h
  | converterEdge => exact event_framed (exec_converterEdge ..) (by simp) h
  | conditionerEdge => exact event_framed (exec_conditionerEdge ..) (by simp) h
  | stopLoopEdge => exact event_framed (exec_stopLoopEdge ..) (by simp) h
  | stuckTimerExpiry => exact event_framed (exec_stuckTimerExpiry ..) (by simp) h
  | filingOrder => exact event_framed (exec_filingOrder ..) (by simp) h
  | absenceTimerExpiry => exact event_framed (exec_absenceTimerExpiry ..) (by simp) h
  | cancelOrder => exact event_framed (exec_cancelOrder ..) (by simp) h
  | offerAtLane => exact event_framed (exec_offerAtLane ..) (by simp) h
  | grantWithdrawnAtLane => exact event_framed (exec_grantWithdrawnAtLane ..) (by simp) h
  | entryPassageAtLane => exact event_framed (exec_entryPassageAtLane ..) (by simp) h
  | stretchTimerExpiry => exact event_framed (exec_stretchTimerExpiry ..) (by simp) h
  | frameComplete => exact event_framed (exec_frameComplete ..) (by simp) h
  | characterReceived => exact event_framed (exec_characterReceived ..) (by simp) h
  | gapTimerExpiry => exact event_framed (exec_gapTimerExpiry ..) (by simp) h
  | frameSent => exact event_framed (exec_frameSent ..) (by simp) h
  | noticeAdmission => exact event_framed (exec_noticeAdmission ..) (by simp) h
  | quietTimerExpiry => exact event_framed (exec_quietTimerExpiry ..) (by simp) h
  | drain => exact event_framed (exec_drain ..) (by simp) h
  | qualification => exact event_framed (exec_qualification ..) (by simp) h
  | startTimerExpiry => exact event_framed (exec_startTimerExpiry ..) (by simp) h
  | supplyLow => exact event_framed (exec_supplyLow ..) (by simp) h
  | supplyRestored => exact event_framed (exec_supplyRestored ..) (by simp) h
  | _ => cases hc

/-- Every step keeps the laws of the engines and of the zeros. -/
theorem step (s t : State) (h : Machine.step s = .next t) : s.KeepsScales t := by
  unfold Machine.step at h
  split at h
  · exact of_next h (refl s)
  · next c rest _ =>
    have htaken : s.KeepsScales { s with pending := rest } := of_scales rfl
    cases hc : c.spelling.isSome with
    | true => exact htaken.trans (exec_request c hc _ t h)
    | false => exact htaken.trans (exec_event c hc _ t h)

end State.KeepsScales

end Sys2Proof.Machine

open Sys2Proof.Machine

/-- Settles O12, by what a step keeps of the engines and of the zeros (`State.KeepsScales.step`). -/
theorem engineAndZeroLawsKept : Obligations.EngineAndZeroLawsKept :=
  ⟨fun s t d hlaw h => (State.KeepsScales.step s t h).engine d hlaw,
    fun s t d hzero h => (State.KeepsScales.step s t h).zero d hzero⟩
end

section
/-! SUPPORT. What the taking of a window record makes of the engine, the change latches and the notices (R69, R76, R80, R82). -/

namespace Sys2Proof.Machine

theorem Latch.set_set (x : Latch) (f : Flag) : (x.set f).set f = x.set f := by cases f <;> rfl

theorem Occupancy.engineState_eq (g : Engine) :
    g.activeState = if g.capture.isSome then .capturing else g.occupancy.engineState := by
  unfold Engine.activeState
  cases g.occupancy <;> rfl

section
variable {s : State} {d : Deck}

theorem State.modEng_congr {f g : Engine → Engine} (h : f (s.eng d) = g (s.eng d)) : s.modEng d f = s.modEng d g := by
  cases d
  all_goals
    simp only [State.eng, PerDeck.get] at h
    simp only [State.modEng, PerDeck.mod, h]

theorem State.modEng_same {f : Engine → Engine} (h : f (s.eng d) = s.eng d) : s.modEng d f = s :=
  (State.modEng_congr (g := id) h).trans (by cases d <;> rfl)

/-! ### The engine state -/

section
variable (window : Option Nat) (hs : (s.eng d).state ≠ .off)
include hs

theorem State.inner_refreshActive : (s.refreshActive d window).inner =
    (s.modEng d fun g => { g with state := (s.eng d).activeState }).inner := by
  by_cases hnew : (s.eng d).activeState = (s.eng d).state
  · rw [State.refreshActive_same window (.inr hnew), State.modEng_same (by rw [hnew])]
  · rw [State.refreshActive_new window hs hnew, State.inner_flag, State.inner_post]

theorem State.latch_refreshActive (p : Port) : ((s.refreshActive d window).port p).latch =
    if (s.eng d).activeState = (s.eng d).state then (s.port p).latch else (s.port p).latch.set .decks := by
  split
  · next hnew => rw [State.refreshActive_same window (.inr hnew)]
  · next hnew =>
    rw [State.refreshActive_new window hs hnew]
    simp

theorem State.incoming_refreshActive (p : Port) : ((s.refreshActive d window).port p).incoming =
    (s.port p).incoming ++ s.stateNotices d (s.eng d).activeState window := by
  by_cases hnew : (s.eng d).activeState = (s.eng d).state
  · rw [State.refreshActive_same window (.inr hnew), State.stateNotices_same window hnew.symm, List.append_nil]
  · rw [State.refreshActive_new window hs hnew, State.stateNotices_of_ne window (Ne.symm hnew)]
    simp

end

/-! ### The range condition -/

/-- The notices of a reading whose range condition comes to OVERLOAD or UNDERLOAD (R76). -/
def State.rangeNotices (s : State) (d : Deck) (before now : Option RangeCond) (n : Nat) : List Notice :=
  match now with
  | none => []
  | some .inRange => []
  | some cond => if before = some cond then [] else
      [{ block := .engine d, body := .deckRange d cond n, at_ := s.ms, origin := none }]

theorem State.postRange_eq (before now : Option RangeCond) (n : Nat) (p : Port) :
    (s.postRange d before now n).port p =
      { s.port p with incoming := (s.port p).incoming ++ s.rangeNotices d before now n } := by
  rcases now with _ | _ | _ | _
  all_goals simp only [State.postRange, State.rangeNotices]
  · simp
  · simp
  · by_cases h : before = some .overload <;> simp [h]
  · by_cases h : before = some .underload <;> simp [h]

theorem State.inner_postRange (before now : Option RangeCond) (n : Nat) :
    (s.postRange d before now n).inner = s.inner := by
  unfold State.postRange
  repeat' split
  all_goals rfl

theorem State.ms_postRange (before now : Option RangeCond) (n : Nat) : (s.postRange d before now n).ms = s.ms := by
  unfold State.postRange
  repeat' split
  all_goals rfl

end

/-! ### The window record -/

section
variable {s : State} {w : WindowRecord} (hs : (s.eng w.deck).state ≠ .off)

/-- The engine state that a window record brings an engine to that is not OFF (R80). -/
def State.stagedState (s : State) (w : WindowRecord) : EngineState :=
  if (s.eng w.deck).capture.isSome then .capturing else (s.staged w).2.2.2.engineState

theorem State.activeState_staged (s : State) (w : WindowRecord) :
    ((s.eng w.deck).staged (s.staged w)).activeState = s.stagedState w := Occupancy.engineState_eq _

/-- The state in which an engine that takes a window record has its state fixed afresh: the histories and the occupancy
reading taken, DECK_RANGE posted. -/
def State.ranged (s : State) (w : WindowRecord) : State :=
  let c := s.staged w
  let before := (s.eng w.deck).latest.bind Reading.range
  ((s.modEng w.deck fun g => g.staged c).flagIf
    ((s.eng w.deck).occupancy != c.2.2.2 || before != c.1.range) .decks).postRange w.deck before c.1.range w.number

theorem State.eng_ranged (s : State) (w : WindowRecord) :
    (s.ranged w).eng w.deck = (s.eng w.deck).staged (s.staged w) := by
  simp only [State.ranged, State.eng_postRange, State.eng_flagIf, State.eng_modEng_self]

theorem State.inner_ranged (s : State) (w : WindowRecord) :
    (s.ranged w).inner = (s.modEng w.deck fun g => g.staged (s.staged w)).inner := by
  simp only [State.ranged, State.inner_postRange, State.inner_flagIf]

theorem State.incoming_ranged (s : State) (w : WindowRecord) (p : Port) :
    ((s.ranged w).port p).incoming = (s.port p).incoming ++
      s.rangeNotices w.deck ((s.eng w.deck).latest.bind Reading.range) (s.staged w).1.range w.number := by
  simp only [State.ranged, State.postRange_eq, State.incoming_flagIf, State.port_modEng, State.rangeNotices,
    State.ms_flagIf, State.ms_modEng]

theorem State.latch_ranged (s : State) (w : WindowRecord) (p : Port) :
    ((s.ranged w).port p).latch =
      if (s.staged w).1.range ≠ (s.eng w.deck).latest.bind Reading.range ∨ (s.staged w).2.2.2 ≠ (s.eng w.deck).occupancy then
        (s.port p).latch.set .decks
      else (s.port p).latch := by
  simp only [State.ranged, State.postRange_eq, State.flagIf, apply_ite (State.port · p), State.port_flag_self,
    State.port_modEng, Bool.or_eq_true, bne_iff_ne, apply_ite PortWork.latch]
  exact if_congr (by tauto) rfl rfl

include hs

theorem State.state_ranged : ((s.ranged w).eng w.deck).state ≠ .off := by rwa [State.eng_ranged]

/-- The taking of a window record by an engine that is not OFF, with the reading it completes (R69, R79). -/
theorem State.takeWindow_on :
    s.takeWindow w =
      (((s.ranged w).refreshActive w.deck (some w.number)).modEng w.deck fun g =>
        { g with latest := some { (s.staged w).1 with state := s.stagedState w } },
        { (s.staged w).1 with state := s.stagedState w }) := by
  rw [State.takeWindow_eq]
  simp only [State.eng_judgedReading hs, State.activeState_staged]
  rfl

theorem State.eng_takeWindow : (s.takeWindow w).1.eng w.deck =
    { (s.eng w.deck).staged (s.staged w) with
      state := s.stagedState w, latest := some { (s.staged w).1 with state := s.stagedState w } } := by
  rw [State.takeWindow_on hs, State.eng_modEng_self, State.eng_refreshActive _ (State.state_ranged hs), State.eng_ranged,
    State.activeState_staged]

theorem State.inner_takeWindow :
    (s.takeWindow w).1.inner = (s.modEng w.deck fun _ => (s.takeWindow w).1.eng w.deck).inner := by
  rw [State.eng_takeWindow hs, State.takeWindow_on hs]
  simp only [State.inner_modEng, State.inner_refreshActive _ (State.state_ranged hs), State.inner_ranged, State.eng_ranged,
    State.activeState_staged, State.modEng_modEng]
  exact State.modEng_congr rfl

theorem State.latch_takeWindow (p : Port) : ((s.takeWindow w).1.port p).latch =
    if (s.staged w).1.range ≠ (s.eng w.deck).latest.bind Reading.range ∨ (s.staged w).2.2.2 ≠ (s.eng w.deck).occupancy ∨
        s.stagedState w ≠ (s.eng w.deck).state then (s.port p).latch.set .decks
    else (s.port p).latch := by
  have hstate : ((s.eng w.deck).staged (s.staged w)).state = (s.eng w.deck).state := rfl
  rw [State.takeWindow_on hs, State.port_modEng, State.latch_refreshActive _ (State.state_ranged hs), State.eng_ranged,
    State.activeState_staged, hstate, State.latch_ranged]
  by_cases hnew : s.stagedState w = (s.eng w.deck).state
  · simp only [hnew, if_true, ne_eq, not_true_eq_false, or_false]
  · rw [if_neg hnew, apply_ite (Latch.set · .decks), Latch.set_set, ite_self, if_pos (.inr (.inr hnew))]

theorem State.incoming_takeWindow (p : Port) : ((s.takeWindow w).1.port p).incoming =
    (s.port p).incoming ++
      (s.rangeNotices w.deck ((s.eng w.deck).latest.bind Reading.range) (s.staged w).1.range w.number ++
        s.stateNotices w.deck (s.stagedState w) (some w.number)) := by
  have hms : (s.ranged w).ms = s.ms := by simp only [State.ranged, State.ms_postRange, State.ms_flagIf, State.ms_modEng]
  have hnotices : (s.ranged w).stateNotices w.deck (s.stagedState w) (some w.number) =
      s.stateNotices w.deck (s.stagedState w) (some w.number) := by
    rw [State.stateNotices, State.eng_ranged, hms]
    rfl
  rw [State.takeWindow_on hs, State.port_modEng,
    State.incoming_refreshActive _ (State.state_ranged hs), State.eng_ranged, State.activeState_staged, hnotices,
    State.incoming_ranged, List.append_assoc]

end

end Sys2Proof.Machine

open Sys2Proof Sys2Proof.Machine

/-- Settles O32: the event by what the engine makes of it (`State.engineWindow`), and the taking of the record item by
item. -/
theorem engineTakesAWindow : Obligations.EngineTakesAWindow := by
  refine ⟨fun s w hrun => ⟨fun hoff => ?_, fun hon => ?_⟩, fun s w hs => ?_⟩
  · exact (exec_engineWindow ..).trans (event_after s _ _ _ hrun (if_pos hoff))
  · exact (exec_engineWindow ..).trans (event_after s _ _ _ hrun (if_neg hon))
  · intro d x st t
    refine ⟨congrArg Prod.snd (State.takeWindow_on hs), State.eng_takeWindow hs, State.inner_takeWindow hs,
      fun p => State.latch_takeWindow hs p, fun p => (State.incoming_takeWindow hs p).trans ?_⟩
    have hnotices : s.stateNotices d st (some w.number) = if st = (s.eng d).state then [] else
        [{ block := .engine d, body := .engineState d (s.eng d).state st (some w.number), at_ := s.ms, origin := none }] :=
      if_congr eq_comm rfl rfl
    exact congrArg (fun ns => (s.port p).incoming ++ (_ ++ ns)) hnotices
end

section
/-! SUPPORT. The stages from counts to weight, and their rounding (R70 to R77, R79, R81). -/

namespace Sys2Proof.Machine

/-! ### Rounding (Conventions) -/

theorem roundDiv_of_nonneg {n : Int} (h : 0 ≤ n) (d : Nat) : roundDiv n d = (2 * n + d) / (2 * d) := if_pos h

theorem roundDiv_neg (n : Int) {d : Nat} (hd : 0 < d) : roundDiv (-n) d = -roundDiv n d := by
  have hzero : ((d : Int)) / (2 * d) = 0 := Int.ediv_eq_zero_of_lt (by omega) (by omega)
  unfold roundDiv
  rcases Int.lt_trichotomy n 0 with h | rfl | h
  · rw [if_pos (by omega), if_neg (by omega), neg_neg]
  · simp [hzero]
  · rw [if_neg (by omega), if_pos (by omega), neg_neg]

/-- A quotient of a value that is not below 0 lies within half a unit of the value, and not below it where it lies half a
unit away. -/
theorem roundDiv_bounds {n : Int} (h : 0 ≤ n) {d : Nat} (hd : 0 < d) :
    0 ≤ roundDiv n d ∧ 2 * (roundDiv n d * d - n) ≤ d ∧ 2 * (n - roundDiv n d * d) < d := by
  rw [roundDiv_of_nonneg h]
  have hpos : (0 : Int) < 2 * d := by omega
  have hlow := Int.ediv_mul_le (2 * n + d) hpos.ne'
  have hhigh := Int.lt_ediv_add_one_mul_self (2 * n + d) hpos
  have hmul : (2 * n + (d : Int)) / (2 * d) * (2 * d) = 2 * ((2 * n + (d : Int)) / (2 * d) * d) := by ring
  rw [hmul] at hlow
  rw [add_mul, hmul] at hhigh
  exact ⟨Int.ediv_nonneg (by omega) (by omega), by omega, by omega⟩

/-- Rounding is to the nearest integer, halves away from zero. -/
theorem roundDiv_nearest (n : Int) {d : Nat} (hd : 0 < d) :
    2 * |roundDiv n d * d - n| ≤ d ∧ (2 * |roundDiv n d * d - n| = d → |n| ≤ |roundDiv n d| * d) := by
  have key : ∀ x : Int, 0 ≤ x →
      2 * |roundDiv x d * d - x| ≤ d ∧ (2 * |roundDiv x d * d - x| = d → |x| ≤ |roundDiv x d| * d) := by
    intro x hx
    obtain ⟨hnonneg, hlow, hhigh⟩ := roundDiv_bounds hx hd
    rw [abs_of_nonneg hx, abs_of_nonneg hnonneg]
    rcases abs_cases (roundDiv x d * d - x) with ⟨habs, _⟩ | ⟨habs, _⟩ <;> rw [habs] <;> exact ⟨by omega, fun _ => by omega⟩
  rcases Int.le_total 0 n with h | h
  · exact key n h
  · have hneg := key (-n) (by omega)
    rwa [roundDiv_neg n hd, neg_mul, ← neg_sub', abs_neg, abs_neg, abs_neg] at hneg

/-! ### The stages -/

/-- The exact sum is the sum of the channels' terms (R70, R71). -/
theorem State.exactSum_eq (s : State) (es : List WindowEntry) :
    s.exactSum es = (es.map fun e => ((e.count : Int) - (s.chanCfg e.channel).zero) * (s.chanCfg e.channel).factor).sum := by
  rw [State.exactSum, List.sum_eq_foldl, List.foldl_map]

/-- A reading of occupancy between the thresholds stays as it was, and is LOADED after UNKNOWN (R81). -/
theorem DeckCfg.occupancy_eq (c : DeckCfg) (before : Occupancy) (gf : Int) :
    c.occupancy before gf =
      if gf < (c.occupancyKg : Int) * 500 then .empty
      else if (c.occupancyKg : Int) * 1000 ≤ gf then .loaded
      else if before = .unknown then .loaded else before := by
  unfold DeckCfg.occupancy
  cases before <;> rfl

theorem filtered_of_lt {f : Nat} {filter : List Int} (h : filter.length < f) : filtered f filter = none := if_pos h
theorem filtered_of_ge {f : Nat} {filter : List Int} (h : ¬ filter.length < f) :
    filtered f filter = some (roundDiv filter.sum f) := if_neg h

end Sys2Proof.Machine

open Sys2Proof Sys2Proof.Machine

/-- Settles O33: the stages by whether the filter history is full, and rounding by the sign of the value. -/
theorem stagesOfAReading : Obligations.StagesOfAReading := by
  refine ⟨fun s d w => ?_, fun n d hd => ?_⟩
  · intro c m g sum raw gz filter base
    have hraw : s.gRaw w.channels = raw := congrArg (roundDiv · 65536) (s.exactSum_eq w.channels)
    unfold State.compute
    dsimp only
    rw [hraw]
    by_cases hfilter : filter.length < m.f
    · rw [filtered_of_lt hfilter, if_pos hfilter]
      rfl
    · rw [filtered_of_ge hfilter, if_neg hfilter]
      dsimp only
      rw [DeckCfg.occupancy_eq]
      rfl
  · obtain ⟨hnear, hhalf⟩ := roundDiv_nearest n hd
    exact ⟨hnear, hhalf, roundDiv_neg n hd⟩
end

section
/-! SUPPORT. The start and the ends of a capture (R88 to R91, R96 to R99, R101). -/

namespace Sys2Proof.Machine

/-! ### Starts -/

theorem State.lowAt_iff (s : State) (r : SupplyReader) : s.lowAt r = true ↔ s.supplyAt r = .supplyLow := by
  simp [State.lowAt]

theorem State.not_lowAt_iff (s : State) (r : SupplyReader) : s.lowAt r = false ↔ s.supplyAt r = .normal := by
  unfold State.lowAt
  cases s.supplyAt r <;> decide

section
variable {s : State} {d : Deck} {cur : Current} (hcur : (s.arb d).current = some cur)

theorem Entry.capturable_iff (e : Entry) : e.capturable = true ↔
    e.departure = none ∧ ∃ ps ∈ e.pass, ps.status = .done → e.closurePending = true := by
  have hstatus : ∀ ps : Pass, (match ps.status with
      | .awaiting => true
      | .failed _ => true
      | .done => e.closurePending) = true ↔ (ps.status = .done → e.closurePending = true) := by
    intro ps
    cases ps.status <;> simp
  simp only [Entry.capturable, Bool.and_eq_true, Option.isNone_iff_eq_none, Option.any_eq_true]
  exact and_congr_right fun _ => exists_congr fun ps => and_congr_right fun _ => hstatus ps

include hcur

theorem State.currentEntry_eq : s.currentEntry d =
    (s.recs.find cur.number).filter fun e => e.state == .onDeck && (e.pass.map Pass.deck) == some d := by
  rw [State.currentEntry, hcur]
  rfl

/-- The conditions of an automatic start (R89). -/
theorem State.mayStart_iff : s.mayStart d = true ↔
    (s.arb d).state = .occupied ∧ (s.arb d).tailgate = false ∧
      (∃ e ∈ (s.recs.find cur.number).filter fun e => e.state == .onDeck && (e.pass.map Pass.deck) == some d,
        e.departure = none ∧ ∃ ps ∈ e.pass, ps.status = .awaiting) ∧
      (s.eng d).ended = false ∧ (s.eng d).positioned = true ∧ (s.eng d).state = .loaded ∧
      s.supplyAt (.engine d) = .normal := by
  simp only [State.mayStart, State.currentEntry_eq hcur, Bool.and_eq_true, beq_iff_eq, Bool.not_eq_true', Option.any_eq_true,
    Option.isNone_iff_eq_none, State.not_lowAt_iff, and_assoc, Option.mem_def]

/-- The capture that a start makes, and its ENGINE_STATE (R82, R91). -/
theorem State.startCapture_eq (origin : Option Port) : s.startCapture d origin =
    let t := s.modEng d fun g =>
      { g with stab := [], capture := some (startRecord (s.deckCfg d) cur origin g.positioned) }
    if (s.eng d).state = .off ∨ (s.eng d).state = .capturing then t
    else ((t.modEng d fun g => { g with state := .capturing }).post (.engine d)
      (.engineState d (s.eng d).state .capturing none)).flag .decks := by
  have heng : ∀ f, (s.modEng d f).eng d = f (s.eng d) := fun f => State.eng_modEng_self ..
  simp only [State.startCapture, hcur]
  split
  · next hold =>
    refine State.refreshActive_same none ?_
    rw [heng]
    exact hold.imp id fun h => h.symm
  · next hold =>
    obtain ⟨hoff, hcapturing⟩ := not_or.mp hold
    rw [State.refreshActive_new none] <;> rw [heng]
    · rfl
    · exact hoff
    · exact Ne.symm hcapturing

end

/-! ### Ends -/

section
variable {s : State} {d : Deck}

/-- A capture in flight fails: its record goes, and the engine state is that of the occupancy reading (R99, R101). -/
theorem State.failCapture_some {k : Capture} (hk : (s.eng d).capture = some k) (hs : (s.eng d).state = .capturing)
    (reason : FailReason) (window : Option Nat) : s.failCapture d reason window = s.captureFailed d k reason window := by
  have heng := s.eng_dropCapture d reason
  have hactive : ((s.dropCapture d reason).eng d).activeState = (s.eng d).occupancy.engineState := by
    rw [Occupancy.engineState_eq, heng]
    rfl
  have hstate : ((s.dropCapture d reason).eng d).state = .capturing := by rw [heng, hs]
  have hoccupancy : ((s.dropCapture d reason).eng d).occupancy = (s.eng d).occupancy := by rw [heng]
  have hnew : (s.eng d).occupancy.engineState ≠ .capturing := by cases (s.eng d).occupancy <;> decide
  rw [State.failCapture, State.refreshActive_new window (by rw [hstate]; decide) (by rwa [hactive, hstate]), hactive, hstate,
    State.modEng_congr (g := fun g => { g with state := g.occupancy.engineState }) (by rw [hoccupancy])]
  simp only [State.dropCapture, hk]
  rfl

/-- With no capture in flight nothing fails (R97, R98). -/
theorem State.failCapture_none (hk : (s.eng d).capture = none)
    (hs : (s.eng d).state = .off ∨ (s.eng d).state = (s.eng d).activeState) (reason : FailReason) (window : Option Nat) :
    s.failCapture d reason window = s := by
  have hdrop : s.dropCapture d reason = s := by simp only [State.dropCapture, hk]
  rw [State.failCapture, hdrop, State.refreshActive_same window (hs.imp id Eq.symm)]

theorem State.recordsAbort_some {k : Capture} (hk : (s.eng d).capture = some k) (hs : (s.eng d).state = .capturing)
    (number : Nat) :
    s.recordsAbort d number = if k.number = number then s.captureFailed d k .aborted none else s := by
  rw [State.recordsAbort, State.failCapture_some hk hs]
  simp [hk]

theorem State.leaveDeckExpiry_some {k : Capture} (hk : (s.eng d).capture = some k) (hs : (s.eng d).state = .capturing) :
    s.leaveDeckExpiry d =
      match k.leave with
      | none => s
      | some n => if 10000 ≤ n then s.captureFailed d k .leftDeck none else s := by
  rw [State.leaveDeckExpiry, State.failCapture_some hk hs]
  cases hl : k.leave with
  | none => exact if_neg (by simp [hk, hl])
  | some n =>
    refine if_congr ?_ rfl rfl
    simp only [hk, Option.any_some, hl]
    exact decide_eq_true_iff

theorem ExternalEnd.reason_eq (c : ExternalEnd) : ExternalEnd.reason c = if c = .tailgate then .tailgate else .aborted := by
  cases c <;> rfl

end

/-! ### Requests -/

section
variable {s : State} {d : Deck} {cur : Current} {deck : Nat} (q : Sender) (role : Role)

theorem serveAbortCapture_named (hd : deckOf deck = some d) : serveAbortCapture deck role s =
    if (s.eng d).capture = none then (s, .only .wrongState) else (s.failCapture d .aborted none, .ok) := by
  simp only [serveAbortCapture, hd, Option.isNone_iff_eq_none]

/-- CAPTURE, by its four tests (R90). -/
theorem serveCapture_named (hd : deckOf deck = some d) : serveCapture q deck role s =
    if (s.eng d).capture.isSome then (s, .only .deckBusy)
    else if (s.arb d).state ≠ .occupied ∨ (s.arb d).tailgate = true ∨ (s.eng d).state = .off
        ∨ s.supplyAt (.engine d) = .supplyLow then (s, .only .deckNotReady)
    else if ∃ e ∈ s.currentEntry d, e.departure = none ∧ ∃ ps ∈ e.pass, ps.status = .done → e.closurePending = true then
      (s.startCapture d (some q.port), .only .started)
    else (s, .only .wrongState) := by
  have hentry : (s.currentEntry d).any Entry.capturable = true ↔
      ∃ e ∈ s.currentEntry d, e.departure = none ∧ ∃ ps ∈ e.pass, ps.status = .done → e.closurePending = true := by
    simp only [Option.any_eq_true, Entry.capturable_iff, Option.mem_def]
  simp only [serveCapture, hd, State.lowAt_iff, Bool.not_eq_true', ← hentry]
  cases (s.currentEntry d).any Entry.capturable <;> rfl

end

end Sys2Proof.Machine

open Sys2Proof Sys2Proof.Machine

/-- Settles O35: the starts by their tests, the ends by what a failed capture leaves, and what has no effect with no capture
in flight. -/
theorem capturesStartAndEnd : Obligations.CapturesStartAndEnd := by
  refine ⟨fun s d cur hcur => ?_, fun s d k hrun hk hs => ?_, fun s d => ?_⟩
  · intro made entry
    refine ⟨fun hrun => ?_, fun q deck role hd => ?_⟩
    · have hstart : ((s.consume (.captureStart d)).arb d).current = some cur := hcur
      refine (exec_captureStart ..).trans (event_after s _ _ _ hrun ?_)
      exact if_congr (State.mayStart_iff hstart) (State.startCapture_eq hstart none) rfl
    · intro c h
      have hserve := serveCapture_named (s := s.handed c q) q role hd
      have hcur' : ((s.handed c q).arb d).current = some cur := by rwa [State.arb_handed]
      have hentry : s.currentEntry d = entry := State.currentEntry_eq hcur
      simp only [State.eng_handed, State.arb_handed, State.supplyAt_handed, State.currentEntry_handed, hentry] at hserve
      refine (exec_capture ..).trans ?_
      split
      · next hbusy => exact request_refused s c q _ role _ h (hserve.trans (if_pos hbusy))
      next hfree =>
      rw [if_neg hfree] at hserve
      split
      · next hready => exact request_refused s c q _ role _ h (hserve.trans (if_pos hready))
      next hready =>
      rw [if_neg hready] at hserve
      split
      · next hpass =>
        refine request_answered s c q _ role _ _ h (hserve.trans ((if_pos hpass).trans ?_))
        rw [State.startCapture_eq hcur', State.eng_handed, State.deckCfg_handed]
        rfl
      · next hpass => exact request_refused s c q _ role _ h (hserve.trans (if_neg hpass))
  · have hkc : ∀ c, ((s.consume c).eng d).capture = some k := fun c => by rwa [State.eng_consume]
    have hsc : ∀ c, ((s.consume c).eng d).state = .capturing := fun c => by rwa [State.eng_consume]
    refine ⟨fun q deck role hd => ?_, fun number => ?_, fun cause => ?_, ?_⟩
    · intro c h
      have hserve := serveAbortCapture_named (s := s.handed c q) role hd
      rw [State.failCapture_some (by rwa [State.eng_handed]) (by rwa [State.eng_handed]), State.eng_handed,
        if_neg (by simp [hk])] at hserve
      exact (exec_abortCapture ..).trans (request_answered s c q _ role _ _ h hserve)
    · intro c
      refine (exec_recordsAbort ..).trans (event_after s c _ _ hrun ?_)
      exact State.recordsAbort_some (hkc c) (hsc c) number
    · intro c
      refine (exec_captureExternalEnd ..).trans (event_after s c _ _ hrun ?_)
      rw [State.failCapture_some (hkc c) (hsc c), ExternalEnd.reason_eq]
    · intro c
      refine (exec_leaveDeckTimerExpiry ..).trans (event_after s c _ _ hrun ?_)
      exact State.leaveDeckExpiry_some (hkc c) (hsc c)
  · refine ⟨fun hrun hk number c hc hs => ?_, fun q deck role => ⟨fun c hc hdeck h => ?_, ?_, ?_⟩⟩
    · have hnone : ∀ reason, (s.consume c).failCapture d reason none = s.consume c := fun reason =>
        State.failCapture_none (s := s.consume c) hk hs reason none
      simp only [List.mem_cons, List.not_mem_nil, or_false] at hc
      rcases hc with rfl | rfl | rfl | rfl | rfl | rfl
      · refine (exec_attemptTimerExpiry ..).trans (event_after s _ _ id hrun ?_)
        simp only [State.attemptExpiry, State.eng_consume, hk, id]
      · refine (exec_leaveDeckTimerExpiry ..).trans (event_after s _ _ id hrun ?_)
        simp only [State.leaveDeckExpiry, hnone, ite_self, id]
      · exact (exec_captureExternalEnd ..).trans (event_after s _ _ id hrun (hnone _))
      · exact (exec_captureExternalEnd ..).trans (event_after s _ _ id hrun (hnone _))
      · exact (exec_captureExternalEnd ..).trans (event_after s _ _ id hrun (hnone _))
      · refine (exec_recordsAbort ..).trans (event_after s _ _ id hrun ?_)
        simp only [State.recordsAbort, hnone, ite_self, id]
    · have hnone := deckOf_of_ge hdeck
      simp only [List.mem_cons, List.not_mem_nil, or_false] at hc
      rcases hc with rfl | rfl | rfl | rfl | rfl | rfl | rfl | rfl | rfl | rfl
      · exact request_refused s _ q _ role _ h (by simp only [serveCapture, hnone])
      · exact request_refused s _ q _ role _ h (by simp only [serveAbortCapture, hnone])
      · exact request_refused s _ q _ role _ h (by simp only [serveReadCapture, hnone])
      · exact request_refused s _ q _ role _ h (by simp only [serveReadDeck, hnone])
      · exact request_refused s _ q _ role _ h (by simp only [serveZeroDeck, hnone])
      · exact request_refused s _ q _ role _ h (by simp only [serveClearTailgate, hnone])
      · exact request_refused s _ q _ role _ h (by simp only [serveReadDeckState, hnone])
      · exact request_refused s _ q _ role _ h (by simp only [serveCalZeroDeck, hnone])
      · exact request_refused s _ q _ role _ h (by simp only [serveAbortCalibration, hnone])
      · exact request_refused s _ q _ role _ h (by simp only [serveReadCalibration, hnone])
    · intro c hd hk h
      have hserve := serveAbortCapture_named (s := s.handed c q) role hd
      rw [State.eng_handed, if_pos hk] at hserve
      exact (exec_abortCapture ..).trans (request_refused s c q _ role _ h hserve)
    · intro c hd hk harb h
      have hserve := serveCapture_named (s := s.handed c q) q role hd
      rw [State.eng_handed, State.arb_handed, if_neg (by simp [hk]), if_pos (.inl harb)] at hserve
      exact (exec_capture ..).trans (request_refused s c q _ role _ h hserve)
end

section
/-! SUPPORT. ZERO_DECK and zero tracking (R78, R104 to R106). -/

namespace Sys2Proof.Machine

theorem clampInt_eq {lo hi : Int} (h : lo ≤ hi) (n : Int) : clampInt lo hi n = max lo (min hi n) := by
  unfold clampInt
  split
  · omega
  · split <;> omega

section
variable (s : State) (d : Deck)

/-- Zd takes a value, and the histories follow by the difference (R78). -/
theorem State.changeZd_to (zd : Int) : s.changeZd d (zd - (s.deckCfg d).zd) =
    (s.modDeckCfg d fun x => { x with zd := zd }).modEng d fun g =>
      { g with filter := g.filter.map fun x => x - (zd - (s.deckCfg d).zd)
               stab := g.stab.map fun x => { x with gf := x.gf - (zd - (s.deckCfg d).zd) } } := by
  have hzd : (s.deckCfg d).zd + (zd - (s.deckCfg d).zd) = zd := by omega
  rw [State.changeZd, State.modDeckCfg_congr (g := fun x => { x with zd := zd })]
  rw [hzd]

/-- The step of zero tracking, by the conditions of R105. -/
theorem State.trackZero_eq {r : Reading} {gf : Int} (hgf : r.gf = some gf) :
    s.trackZero d r =
      let e1 : Int := (s.deckCfg d).metrology.e1
      if r.stable ≠ some true ∨ r.state ≠ .empty ∨ e1 * 500 < |gf| then s
      else
        let step := clampInt (-(e1 * 250)) (e1 * 250) gf
        let zd := clampInt (-(s.deckCfg d).zlim) (s.deckCfg d).zlim ((s.deckCfg d).zd + step)
        let t := if zd = (s.deckCfg d).zd then s else s.changeZd d (zd - (s.deckCfg d).zd)
        if zd = (s.deckCfg d).zd + step then t else t.latchZeroLimit d (0 ≤ zd) (some r.number) := by
  unfold State.trackZero
  rw [hgf]
  rcases hstable : r.stable with _ | _ | _
  · exact (if_pos (.inl (by decide))).symm
  · exact (if_pos (.inl (by decide))).symm
  · exact if_congr (by simp) rfl rfl

end

section
variable {s : State} {deck : Nat} {d : Deck} (role : Role)

/-- ZERO_DECK, by its tests in their order (R104). -/
theorem serveZeroDeck_named (hd : deckOf deck = some d) : serveZeroDeck deck role s =
    if (s.eng d).capture.isSome ∨ (s.eng d).collection.isSome then (s, .only .deckBusy)
    else if (s.eng d).state ≠ .empty then (s, .only .deckNotReady)
    else
      match (s.eng d).latest.bind Reading.gf with
      | none => (s, .only .notStable)
      | some gf =>
        if (s.eng d).latest.bind Reading.stable ≠ some true then (s, .only .notStable)
        else if (s.deckCfg d).zlim < |(s.deckCfg d).zd + gf| then (s, .only .zeroRange)
        else (((s.changeZd d gf).modEng d fun g => { g with zeroLimit := false }).flag .decks, .ok) := by
  simp only [serveZeroDeck, hd]
  refine if_congr Iff.rfl rfl (if_congr Iff.rfl rfl ?_)
  rcases (s.eng d).latest.bind Reading.gf with _ | gf
  · rcases (s.eng d).latest.bind Reading.stable with _ | _ | _ <;> rfl
  · rcases (s.eng d).latest.bind Reading.stable with _ | _ | _ <;> rfl

end

end Sys2Proof.Machine

open Sys2Proof Sys2Proof.Machine

/-- Settles O37: ZERO_DECK test by test, and zero tracking by its clamped step. -/
theorem zeroSettingAndTracking : Obligations.ZeroSettingAndTracking := by
  refine ⟨⟨fun s q deck role hdeck => ?_, fun s q deck d role hd => ?_⟩, fun s d r gf hgf => ?_⟩
  · intro c h
    exact request_refused s c q _ role _ h (by simp only [serveZeroDeck, deckOf_of_ge hdeck])
  · intro c zl h
    have hserve := serveZeroDeck_named (s := s.handed c q) role hd
    simp only [State.eng_handed, State.deckCfg_handed] at hserve
    refine (exec_zeroDeck ..).trans ?_
    split
    · next hbusy => exact request_refused s c q _ role _ h (hserve.trans (if_pos hbusy))
    next hidle =>
    rw [if_neg hidle] at hserve
    split
    · next hstate => exact request_refused s c q _ role _ h (hserve.trans (if_pos hstate))
    next hempty =>
    rw [if_neg hempty] at hserve
    split
    · next hgf =>
      rw [hgf] at hserve
      exact request_refused s c q _ role _ h hserve
    next gf hgf =>
    rw [hgf] at hserve
    split
    · next hstable => exact request_refused s c q _ role _ h (hserve.trans (if_pos hstable))
    next hstable =>
    replace hserve := hserve.trans (if_neg hstable)
    split
    · next hrange => exact request_refused s c q _ role _ h (hserve.trans (if_pos hrange))
    · next hrange => exact request_answered s c q _ role _ _ h (hserve.trans (if_neg hrange))
  · intro c e1 zl step zd
    have hstep : clampInt (-(e1 * 250)) (e1 * 250) gf = step := clampInt_eq (by omega) gf
    have hzd : clampInt (-c.zlim) c.zlim (c.zd + step) = zd := clampInt_eq (by have := c.zlim_nonneg; omega) _
    rw [State.trackZero_eq s d hgf]
    dsimp only
    rw [hstep, hzd, State.changeZd_to]
    rfl
end

section
/-! SUPPORT. The start of a calibration collection, and what it makes of a window (R191 to R193). -/

namespace Sys2Proof.Machine

/-! ### Starts -/

/-- What a collection's start answers, by tests 2 to 5 of R191, where `x` is what an accepted one makes. -/
def State.testCollection (s : State) (d : Deck) (x : State × Reply) : State × Reply :=
  if s.sup.calSwitch = false then (s, .only .calLocked)
  else if (s.arb d).state ≠ .outOfService then (s, .only .wrongState)
  else if (s.eng d).collection ≠ none then (s, .only .deckBusy)
  else if (s.eng d).state = .off ∨ s.supplyAt (.engine d) = .supplyLow ∨ (s.eng d).positioned = false then
    (s, .only .deckNotReady)
  else x

section
variable {s : State} {d : Deck} {deck : Nat} (q : Sender) (role : Role)

theorem State.startCollection_eq (s : State) (d : Deck) (k : CollectionKind) (origin : Port) :
    s.startCollection d k origin = s.testCollection d
      (s.modEng d fun g => { g with collection := some (s.newCollection d k origin) }, .only .started) := by
  have hcollection : (s.eng d).collection.isSome = true ↔ (s.eng d).collection ≠ none := Option.isSome_iff_ne_none
  simp only [State.startCollection, State.collectionRefusal, State.testCollection, State.lowAt_iff, Bool.not_eq_true',
    hcollection]
  repeat' split
  all_goals simp_all

theorem serveCalZeroDeck_named (hd : deckOf deck = some d) : serveCalZeroDeck q deck role s =
    s.testCollection d
      (s.modEng d fun g => { g with collection := some (s.newCollection d .zero q.port), zeroLimit := false },
        .only .started) := by
  simp only [serveCalZeroDeck, hd, State.startCollection_eq, State.testCollection]
  repeat' split
  all_goals simp_all [Reply.only, State.modEng_modEng]

theorem serveCalSpanDeck_named (hd : deckOf deck = some d) (load : Int) : serveCalSpanDeck q deck load role s =
    if load < 1 ∨ ((s.deckCfg d).metrology.max2 : Int) < load then (s, .only .badArgument)
    else s.testCollection d
      (s.modEng d fun g => { g with collection := some (s.newCollection d (.span load) q.port) }, .only .started) := by
  simp only [serveCalSpanDeck, hd, State.startCollection_eq]

theorem serveAbortCalibration_named (hd : deckOf deck = some d) : serveAbortCalibration deck role s =
    match (s.eng d).collection with
    | none => (s, .only .wrongState)
    | some _ => (s.failCollection d .aborted, .ok) := by
  simp only [serveAbortCalibration, hd]
  cases (s.eng d).collection <;> rfl

/-- A request that passes on to tests 2 to 5 of a collection's start, by what it answers (R191). -/
theorem request_testCollection {c : Instr} {serve : Serve} {u : State → State} (h : s.Taken c q role)
    (hserve : serve role (s.handed c q) = (s.handed c q).testCollection d (u (s.handed c q), .only .started)) :
    request c q serve s = .next
      (if s.sup.calSwitch = false then s.refusal c q .calLocked
      else if (s.arb d).state ≠ .outOfService then s.refusal c q .wrongState
      else if (s.eng d).collection ≠ none then s.refusal c q .deckBusy
      else if (s.eng d).state = .off ∨ s.supplyAt (.engine d) = .supplyLow ∨ (s.eng d).positioned = false then
        s.refusal c q .deckNotReady
      else s.answered c q u (.only .started)) := by
  simp only [State.testCollection, State.sup_handed, State.arb_handed, State.eng_handed, State.supplyAt_handed] at hserve
  split
  · next hopen => exact request_refused s c q _ role _ h (hserve.trans (if_pos hopen))
  next hclosed =>
  rw [if_neg hclosed] at hserve
  split
  · next hservice => exact request_refused s c q _ role _ h (hserve.trans (if_pos hservice))
  next hservice =>
  rw [if_neg hservice] at hserve
  split
  · next hbusy => exact request_refused s c q _ role _ h (hserve.trans (if_pos hbusy))
  next hidle =>
  rw [if_neg hidle] at hserve
  split
  · next hready => exact request_refused s c q _ role _ h (hserve.trans (if_pos hready))
  · next hready => exact request_answered s c q _ role _ _ h (hserve.trans (if_neg hready))

end

/-! ### Windows -/

section
variable {s : State} {d : Deck} {w : WindowRecord} {r : Reading} {k : Collection}

theorem State.failCollection_some (hk : (s.eng d).collection = some k) (reason : CalFailReason) :
    s.failCollection d reason =
      ((s.modEng d fun g => { g with collection := none }).post (.engine d)
        (.calFailed d k.kind reason k.windows k.origin) (some k.origin)).flag .decks := by
  simp only [State.failCollection, hk]

/-- A collection that was put in the place of another fails as itself. -/
theorem State.failCollection_putCollection (s : State) (d : Deck) (k : Collection) (reason : CalFailReason) :
    (s.putCollection d k).failCollection d reason =
      ((s.modEng d fun g => { g with collection := none }).post (.engine d)
        (.calFailed d k.kind reason k.windows k.origin) (some k.origin)).flag .decks := by
  have hput : ((s.putCollection d k).eng d).collection = some k := by rw [State.putCollection, State.eng_modEng_self]
  rw [State.failCollection_some hput, State.putCollection, State.modEng_modEng]

variable (hk : (s.eng d).collection = some k)
include hk

/-- A window opened before the request is not used (R191). -/
theorem State.offerCollection_early (h : w.serial ≤ k.after) : s.offerCollection d w r = s := by
  simp only [State.offerCollection, hk, if_pos h]

/-- An invalid window starts the collection again, and ten in a row fail it (R192). -/
theorem State.offerCollection_invalid (h : k.after < w.serial) (hw : w.status ≠ .valid) :
    s.offerCollection d w r =
      if 10 ≤ k.invalidRun + 1 then
        ((s.modEng d fun g => { g with collection := none }).post (.engine d)
          (.calFailed d k.kind .channelFault 0 k.origin) (some k.origin)).flag .decks
      else s.putCollection d { k.restart with invalidRun := k.invalidRun + 1 } := by
  simp only [State.offerCollection, hk, if_neg (Nat.not_le.mpr h), if_pos hw, State.failCollection_putCollection]
  rfl

/-- A marked window, and for a SPAN an EMPTY one, starts the collection again (R192). -/
theorem State.offerCollection_again (h : k.after < w.serial) (hw : w.status = .valid)
    (hagain : w.marked = true ∨ k.kind ≠ .zero ∧ r.occupancy = .empty) :
    s.offerCollection d w r = s.putCollection d { k.restart with invalidRun := 0 } := by
  simp only [State.offerCollection, hk, if_neg (Nat.not_le.mpr h), if_neg (not_not.mpr hw), if_pos hagain]

/-- Any other window adds to the collection, and the sixteenth completes it (R192). -/
theorem State.offerCollection_add (h : k.after < w.serial) (hw : w.status = .valid) (hmarked : w.marked = false)
    (hloaded : k.kind = .zero ∨ r.occupancy ≠ .empty) :
    s.offerCollection d w r =
      let k' := { k.add w.channels (r.gz.getD 0) with invalidRun := 0 }
      if k'.windows < 16 then s.putCollection d k'
      else
        match k'.kind with
        | .zero => (s.putCollection d k').zeroCompletion d k' w.number
        | .span load => (s.putCollection d k').spanCompletion d k' load w.number := by
  have hgo : ¬ (w.marked = true ∨ k.kind ≠ .zero ∧ r.occupancy = .empty) := by
    rw [hmarked]
    rcases hloaded with hzero | hloaded
    · simp [hzero]
    · simp [hloaded]
  simp only [State.offerCollection, hk, if_neg (Nat.not_le.mpr h), if_neg (not_not.mpr hw), if_neg hgo]
  rfl

end

/-- A ZERO collection with one window added (R192). -/
theorem Collection.add_zero {k : Collection} (hkind : k.kind = .zero) (es : List WindowEntry) (gz : Int) :
    k.add es gz =
      { k with
        windows := k.windows + 1
        sums := k.sums.map fun x =>
          (x.1, x.2 + match es.find? fun e => e.channel == x.1 with
            | none => 0
            | some e => e.count) } := by
  simp only [Collection.add, hkind]
  congr 1
  refine List.map_congr_left fun x _ => ?_
  cases es.find? fun e => e.channel == x.1 <;> rfl

theorem Collection.add_span {k : Collection} {load : Int} (hkind : k.kind = .span load) (es : List WindowEntry) (gz : Int) :
    k.add es gz = { k with windows := k.windows + 1, weightSum := k.weightSum + gz } := by
  simp only [Collection.add, hkind]

end Sys2Proof.Machine
end

section
/-! SUPPORT. The completion of a calibration collection (R82, R194, R195). -/

namespace Sys2Proof.Machine

/-! ### Writing the pairs of several channels -/

section
variable {α : Type} (f : α → ChannelCfg → ChannelCfg)

/-- The settings of channels are rewritten one after another. -/
def State.writeChannels (s : State) (zs : List (Channel × α)) : State :=
  zs.foldl (fun t z => t.modChanCfg z.1 (f z.2)) s

variable {f} {s : State} {zs : List (Channel × α)}

/-- A walk over channels' settings changes nothing but those settings. -/
theorem State.writeChannels_eq : s.writeChannels f zs =
    { s with backup := { s.backup with channels := (s.writeChannels f zs).backup.channels } } := by
  unfold State.writeChannels
  induction zs generalizing s with
  | nil => rfl
  | cons z zs ih => exact ih (s := s.modChanCfg z.1 (f z.2))

theorem State.chanCfg_writeChannels_other {ch : Channel} (h : ch ∉ zs.map Prod.fst) :
    (s.writeChannels f zs).chanCfg ch = s.chanCfg ch := by
  unfold State.writeChannels
  induction zs generalizing s with
  | nil => rfl
  | cons z zs ih =>
    rw [List.map_cons, List.mem_cons, not_or] at h
    obtain ⟨hz, hzs⟩ := h
    rw [List.foldl_cons, ih hzs, State.chanCfg_modChanCfg_ne _ _ _ hz]

theorem State.chanCfg_writeChannels_mem (hzs : (zs.map Prod.fst).Nodup) {z : Channel × α} (hz : z ∈ zs) :
    (s.writeChannels f zs).chanCfg z.1 = f z.2 (s.chanCfg z.1) := by
  induction zs generalizing s with
  | nil => cases hz
  | cons y zs ih =>
    rw [List.map_cons, List.nodup_cons] at hzs
    obtain ⟨hy, hzs⟩ := hzs
    have hcons : s.writeChannels f (y :: zs) = (s.modChanCfg y.1 (f y.2)).writeChannels f zs := rfl
    rcases List.mem_cons.mp hz with rfl | hz
    · rw [hcons, State.chanCfg_writeChannels_other hy, State.chanCfg_modChanCfg_self]
    · have hne : z.1 ≠ y.1 := fun he => hy (he ▸ List.mem_map_of_mem hz)
      rw [hcons, ih hzs hz, State.chanCfg_modChanCfg_ne _ _ _ hne]

theorem State.chanCfg_writeChannels_keeps {β : Type} (part : ChannelCfg → β) (hf : ∀ a c, part (f a c) = part c)
    (ch : Channel) : part ((s.writeChannels f zs).chanCfg ch) = part (s.chanCfg ch) := by
  refine State.foldl_keeps (fun t => part (t.chanCfg ch)) (fun t z => ?_) zs s
  by_cases hz : ch = z.1
  · subst hz
    simp only [State.chanCfg_modChanCfg_self, hf]
  · simp only [State.chanCfg_modChanCfg_ne _ _ _ hz]

end

/-- A deck stays as calibrated as it was where its channels keep their maps, and their factors stay above 0 or not (R187). -/
theorem State.calibrated_congr {s t : State} {d : Deck} (hmark : (t.deckCfg d).mark = (s.deckCfg d).mark)
    (hmap : ∀ ch, (t.chanCfg ch).map = (s.chanCfg ch).map)
    (hfactor : ∀ ch ∈ s.channelSet d, (1 ≤ (t.chanCfg ch).factor ↔ 1 ≤ (s.chanCfg ch).factor)) :
    t.calibrated d = s.calibrated d := by
  have hset : t.channelSet d = s.channelSet d := by simp only [State.channelSet, hmap]
  have hall : ((s.channelSet d).all fun ch => 1 ≤ (t.chanCfg ch).factor) =
      (s.channelSet d).all fun ch => 1 ≤ (s.chanCfg ch).factor := by
    rw [Bool.eq_iff_iff, List.all_eq_true, List.all_eq_true]
    exact forall₂_congr fun ch hch => by simpa using hfactor ch hch
  rw [State.calibrated, State.calibrated, hmark, hset, hall]

theorem State.nodup_channelSet (s : State) (d : Deck) : (s.channelSet d).Nodup := List.Nodup.filter _ (by decide)

/-! ### The change that a completion is -/

/-- What a metrological change empties of an engine it touches, in any state, and what it leaves (R106, R186). -/
theorem State.eng_touchDeck (old s : State) (window : Option Nat) (d : Deck) :
    let g := (State.touchDeck old s window d).eng d
    g.filter = [] ∧ g.stab = [] ∧ g.collection = none ∧ g.zeroLimit = (s.eng d).zeroLimit := by
  have heng := State.eng_judgeCal_cleared (old := old) (s := s) (d := d)
  rw [State.touchDeck_eq, State.eng_failCollection]
  by_cases hoff : (State.judgeCal old (s.modEng d Engine.cleared) d).EngineOff d
  · by_cases hs : ((State.judgeCal old (s.modEng d Engine.cleared) d).eng d).state = .off
    · rw [State.refreshEngine_same window ((State.engineStateNow_off hoff).trans hs.symm), heng]
      exact ⟨rfl, rfl, rfl, rfl⟩
    · rw [State.eng_refreshEngine_off window hoff hs, heng]
      exact ⟨rfl, rfl, rfl, rfl⟩
  · rw [State.eng_refreshEngine_on window hoff, heng]
    exact ⟨rfl, rfl, rfl, rfl⟩

/-- The notices of a change of one deck whose calibrated state stays, with no capture or collection in flight: the
ENGINE_STATE to WARMUP (R82, R186, R187). -/
theorem State.incoming_metroChange_on {old s : State} {d : Deck} (hcal : old.calibrated d = s.calibrated d)
    (hon : ¬ s.EngineOff d) (hcapture : (s.eng d).capture = none) (hcollection : (s.eng d).collection = none)
    (window : Option Nat) (p : Port) :
    ((State.metroChange old s [d] window).port p).incoming = (s.port p).incoming ++ s.stateNotices d .warmup window := by
  have hnone : State.calNotices old s.advanceCounter d = [] := if_pos hcal
  rw [State.incoming_metroChange, List.foldl_cons, List.foldl_nil,
    State.incoming_touchDeck_on (s := s.advanceCounter) hon hcapture, hnone,
    State.collectionNotices_none (s := s.advanceCounter) hcollection, List.append_nil, List.append_nil]
  rfl

theorem State.chanCfg_metroChange (old s : State) (ds : List Deck) (window : Option Nat) (ch : Channel) :
    (State.metroChange old s ds window).chanCfg ch = s.chanCfg ch := by
  rw [State.chanCfg, State.backup_metroChange]
  rfl

theorem State.deckCfg_metroChange (old s : State) (ds : List Deck) (window : Option Nat) (x : Deck) :
    (State.metroChange old s ds window).deckCfg x = s.deckCfg x := by
  rw [State.deckCfg, State.backup_metroChange]
  rfl

theorem State.ms_metroChange (old s : State) (ds : List Deck) (window : Option Nat) :
    (State.metroChange old s ds window).ms = s.ms := by
  rw [(State.touchesDecks_metroChange old s ds window).frame]
  rfl

/-- The notices of the change that a completion is, where the collection has ended and the deck stays calibrated (R82, R186). -/
theorem State.incoming_completed {s u : State} {d : Deck} {f : Engine → Engine} (hmain : u.main = (s.modEng d f).main)
    (hf : ∀ g, (f g).capture = g.capture ∧ (f g).collection = none ∧ (f g).state = g.state)
    (hcal : u.calibrated d = s.calibrated d) (hcapture : (s.eng d).capture = none) (hon : ¬ s.EngineOff d)
    (window : Option Nat) (p : Port) :
    ((State.metroChange s u [d] window).port p).incoming = (s.port p).incoming ++ s.stateNotices d .warmup window := by
  obtain ⟨hkeep, hnone, hstate⟩ := hf (s.eng d)
  have heng : u.eng d = f (s.eng d) := by
    rw [State.eng, hmain]
    exact State.eng_modEng_self ..
  have hon' : ¬ u.EngineOff d := by
    rw [State.EngineOff, hcal, State.modeAt, hmain]
    exact hon
  have hnotices : u.stateNotices d .warmup window = s.stateNotices d .warmup window := by
    rw [State.stateNotices, heng, hstate, State.ms, hmain]
    rfl
  rw [State.incoming_metroChange_on hcal.symm hon' (by rw [heng, hkeep, hcapture]) (by rw [heng, hnone]), hnotices,
    State.port, hmain]
  rfl

/-- A completion's CAL_DONE stands behind the notices of the change (R194, R195). -/
theorem State.incoming_calDone {s u : State} {d : Deck} {f : Engine → Engine} (hmain : u.main = (s.modEng d f).main)
    (window : Option Nat) (body : NoticeBody) (origin : Port) (p : Port) :
    (((State.metroChange s u [d] window).post (.engine d) body (some origin)).port p).incoming =
      ((State.metroChange s u [d] window).port p).incoming ++
        [{ block := .engine d, at_ := s.ms, origin := some origin, body := body }] := by
  have hms : (State.metroChange s u [d] window).ms = s.ms := by
    rw [State.ms_metroChange, State.ms, hmain]
    rfl
  simp only [State.port_post_self, hms]

/-! ### ZERO (R194) -/

section
variable (s : State) (d : Deck) (k : Collection)

/-- The means that a ZERO collection gives its channels (R194). -/
def Collection.zeros : List (Channel × Nat) := k.sums.map fun x => (x.1, (x.2 + 8) / 16)

/-- The state with the new zeros written and the collection ended, before the change takes effect (R106, R194). -/
def State.zeroed : State :=
  ((s.writeChannels (fun z c => { c with zero := z }) k.zeros).modDeckCfg d fun c => { c with zd := 0 }).modEng d
    fun g => { g with collection := none, zeroLimit := false }

/-- A mean of sixteen counts (R194). -/
theorem roundDiv_count (n : Nat) : (roundDiv n 16).toNat = (n + 8) / 16 := by
  rw [roundDiv_of_nonneg (by omega)]
  omega

theorem State.zeroCompletion_eq (window : Nat) :
    s.zeroCompletion d k window =
      let t := State.metroChange s (s.zeroed d k) [d] (some window)
      t.post (.engine d) (.calDoneZero d k.zeros t.backup.calCounter k.origin) (some k.origin) := by
  have hzeros : (k.sums.map fun x => (x.1, (roundDiv x.2 16).toNat)) = k.zeros :=
    List.map_congr_left fun x _ => by rw [roundDiv_count]
  simp only [State.zeroCompletion, hzeros]
  rfl

theorem State.chanCfg_zeroed (ch : Channel) : (s.zeroed d k).chanCfg ch =
    (s.writeChannels (fun z c => { c with zero := z }) k.zeros).chanCfg ch := rfl

theorem State.deckCfg_writeChannels {α : Type} (f : α → ChannelCfg → ChannelCfg) (zs : List (Channel × α)) (x : Deck) :
    (s.writeChannels f zs).deckCfg x = s.deckCfg x := by
  rw [State.writeChannels_eq]
  rfl

theorem State.main_writeChannels {α : Type} (f : α → ChannelCfg → ChannelCfg) (zs : List (Channel × α)) :
    (s.writeChannels f zs).main = s.main := by
  rw [State.writeChannels_eq]

theorem State.deckCfg_zeroed : (s.zeroed d k).deckCfg d = { s.deckCfg d with zd := 0 } := by
  rw [State.zeroed, State.deckCfg_modEng, State.deckCfg_modDeckCfg_self, State.deckCfg_writeChannels]

theorem State.main_zeroed : (s.zeroed d k).main =
    (s.modEng d fun g => { g with collection := none, zeroLimit := false }).main := by
  simp only [State.zeroed, State.modEng, State.modDeckCfg, State.main_writeChannels]

theorem State.eng_zeroed : (s.zeroed d k).eng d = { s.eng d with collection := none, zeroLimit := false } := by
  rw [State.eng, State.main_zeroed]
  exact State.eng_modEng_self ..

theorem State.calibrated_zeroed : (s.zeroed d k).calibrated d = s.calibrated d := by
  refine State.calibrated_congr ?_ (fun ch => ?_) fun ch _ => ?_
  · rw [State.deckCfg_zeroed]
  · exact State.chanCfg_writeChannels_keeps (f := fun z c => { c with zero := z }) ChannelCfg.map (fun _ _ => rfl) ch
  · have hfactor : ((s.zeroed d k).chanCfg ch).factor = (s.chanCfg ch).factor :=
      State.chanCfg_writeChannels_keeps (f := fun z c => { c with zero := z }) ChannelCfg.factor (fun _ _ => rfl) ch
    rw [hfactor]

variable {s} {d} {k}

/-- The channels of a ZERO collection, each with its mean, and the others as they were (R194). -/
theorem State.chanCfg_zeroCompletion (hsums : k.sums.map Prod.fst = s.channelSet d) (window : Nat) :
    (∀ x ∈ k.sums, (s.zeroCompletion d k window).chanCfg x.1 = { s.chanCfg x.1 with zero := (x.2 + 8) / 16 }) ∧
      ∀ ch, ch ∉ s.channelSet d → (s.zeroCompletion d k window).chanCfg ch = s.chanCfg ch := by
  have hkeys : k.zeros.map Prod.fst = s.channelSet d := by
    rw [← hsums, Collection.zeros, List.map_map]
    rfl
  rw [State.zeroCompletion_eq]
  simp only [State.chanCfg_post, State.chanCfg_metroChange, State.chanCfg_zeroed]
  refine ⟨fun x hx => ?_, fun ch hch => State.chanCfg_writeChannels_other (hkeys ▸ hch)⟩
  exact State.chanCfg_writeChannels_mem (z := (x.1, (x.2 + 8) / 16)) (hkeys ▸ s.nodup_channelSet d)
    (List.mem_map_of_mem hx)

theorem State.deckCfg_zeroCompletion (window : Nat) :
    (s.zeroCompletion d k window).deckCfg d = { s.deckCfg d with zd := 0 } ∧
      (s.zeroCompletion d k window).deckCfg d.other = s.deckCfg d.other := by
  have hother : d.other ≠ d := by cases d <;> decide
  rw [State.zeroCompletion_eq]
  simp only [State.deckCfg_post, State.deckCfg_metroChange]
  refine ⟨s.deckCfg_zeroed d k, ?_⟩
  rw [State.zeroed, State.deckCfg_modEng, State.deckCfg_modDeckCfg_ne _ _ _ hother, State.deckCfg_writeChannels]

/-- The engine that a ZERO completion leaves (R106, R186, R194). -/
theorem State.eng_zeroCompletion (window : Nat) :
    let g := (s.zeroCompletion d k window).eng d
    g.zeroLimit = false ∧ g.collection = none ∧ g.filter = [] ∧ g.stab = [] := by
  obtain ⟨hfilter, hstab, hcollection, hlatch⟩ := State.eng_touchDeck s (s.zeroed d k).advanceCounter (some window) d
  rw [State.zeroCompletion_eq]
  refine ⟨hlatch.trans ?_, hcollection, hfilter, hstab⟩
  exact congrArg Engine.zeroLimit (s.eng_zeroed d k)

theorem State.calCounter_zeroCompletion (window : Nat) : (s.zeroCompletion d k window).backup.calCounter =
    if s.backup.calCounter < 65535 then s.backup.calCounter + 1 else s.backup.calCounter := by
  have hcounter : (s.zeroed d k).backup.calCounter = s.backup.calCounter := by
    rw [State.zeroed, State.writeChannels_eq]
    rfl
  rw [State.zeroCompletion_eq, State.calCounter_post, State.backup_metroChange, hcounter]

/-- CAL_DONE stands behind the notices of the change (R194). -/
theorem State.incoming_zeroCompletion (window : Nat) (p : Port) : ((s.zeroCompletion d k window).port p).incoming =
    ((State.metroChange s (s.zeroed d k) [d] (some window)).port p).incoming ++
      [{ block := .engine d, at_ := s.ms, origin := some k.origin
         body := .calDoneZero d k.zeros (s.zeroCompletion d k window).backup.calCounter k.origin }] := by
  simp only [State.zeroCompletion_eq, State.calCounter_post]
  exact State.incoming_calDone (s.main_zeroed d k) ..

/-- The notices of the change that a ZERO completion is (R82, R186). -/
theorem State.incoming_zeroed (hcapture : (s.eng d).capture = none) (hon : ¬ s.EngineOff d) (window : Nat) (p : Port) :
    ((State.metroChange s (s.zeroed d k) [d] (some window)).port p).incoming =
      (s.port p).incoming ++ s.stateNotices d .warmup (some window) :=
  State.incoming_completed (s.main_zeroed d k) (fun _ => ⟨rfl, rfl, rfl⟩) (s.calibrated_zeroed d k) hcapture hon ..

end

/-! ### SPAN (R195) -/

/-- The new factor of a channel before it is clamped (R195). -/
def spanExact (factor : Nat) (load m : Int) : Int := (2 * (factor * load * 1000) + m) / (2 * m)

/-- The new factor of a channel (R195). -/
def spanClamped (factor : Nat) (load m : Int) : Nat := (max 1 (min 16777215 (spanExact factor load m))).toNat

theorem one_le_spanClamped (factor : Nat) (load m : Int) : 1 ≤ spanClamped factor load m := by
  rw [spanClamped]
  omega

theorem spanFactor_eq {load m : Int} (hm : 0 < m) (hload : m ≤ 2 * (load * 1000)) (factor : Nat) :
    spanFactor factor load m = (spanClamped factor load m,
      !decide ((spanClamped factor load m : Int) = spanExact factor load m)) := by
  have hmul : (0 : Int) ≤ factor * load := Int.mul_nonneg (by omega) (by omega)
  have hexact : roundDiv (factor * load * 1000) m.toNat = spanExact factor load m := by
    rw [roundDiv_of_nonneg (by omega), Int.toNat_of_nonneg hm.le, spanExact]
  have hclamp : clampInt 1 Config.factorMax (spanExact factor load m) = max 1 (min 16777215 (spanExact factor load m)) :=
    clampInt_eq (by decide) _
  have hcast : (spanClamped factor load m : Int) = max 1 (min 16777215 (spanExact factor load m)) := by
    rw [spanClamped]
    omega
  simp only [spanFactor, hexact, hclamp, hcast]
  rfl

section
variable (s : State) (d : Deck) (load m : Int)

/-- The new factors of a deck's channels (R195). -/
def State.spanFactors : List (Channel × Nat) :=
  (s.channelSet d).map fun ch => (ch, spanClamped (s.chanCfg ch).factor load m)

/-- The state with the new factors written and the collection ended, before the change takes effect (R195). -/
def State.spanned : State :=
  (s.writeChannels (fun k c => { c with factor := k }) (s.spanFactors d load m)).modEng d fun g =>
    { g with collection := none }

theorem State.main_spanned : (s.spanned d load m).main = (s.modEng d fun g => { g with collection := none }).main := by
  simp only [State.spanned, State.modEng, State.main_writeChannels]

theorem State.keys_spanFactors : (s.spanFactors d load m).map Prod.fst = s.channelSet d := by
  rw [State.spanFactors, List.map_map]
  exact List.map_id _

theorem State.chanCfg_spanned_mem {ch : Channel} (h : ch ∈ s.channelSet d) : (s.spanned d load m).chanCfg ch =
    { s.chanCfg ch with factor := spanClamped (s.chanCfg ch).factor load m } :=
  State.chanCfg_writeChannels_mem (f := fun k c => { c with factor := k })
    (z := (ch, spanClamped (s.chanCfg ch).factor load m))
    (s.keys_spanFactors d load m ▸ s.nodup_channelSet d) (List.mem_map_of_mem h)

theorem State.chanCfg_spanned_other {ch : Channel} (h : ch ∉ s.channelSet d) :
    (s.spanned d load m).chanCfg ch = s.chanCfg ch :=
  State.chanCfg_writeChannels_other (s.keys_spanFactors d load m ▸ h)

/-- A calibrated deck stays calibrated with its new factors, which are above 0 (R187, R195). -/
theorem State.calibrated_spanned (h : s.calibrated d = true) : (s.spanned d load m).calibrated d = s.calibrated d := by
  have hdeck : (s.spanned d load m).deckCfg d = s.deckCfg d := s.deckCfg_writeChannels ..
  refine State.calibrated_congr (by rw [hdeck]) (fun ch => ?_) fun ch hch => ?_
  · exact State.chanCfg_writeChannels_keeps (f := fun k c => { c with factor := k }) ChannelCfg.map (fun _ _ => rfl) ch
  · have hfactor : 1 ≤ (s.chanCfg ch).factor := by
      simp only [State.calibrated, Bool.and_eq_true, List.all_eq_true, decide_eq_true_eq] at h
      obtain ⟨-, hfactors⟩ := h
      exact hfactors ch hch
    rw [State.chanCfg_spanned_mem s d load m hch]
    exact iff_of_true (one_le_spanClamped ..) hfactor

variable {s} {d} {load} {k : Collection} (window : Nat)

/-- A mean weight outside its range fails the collection (R195). -/
theorem State.spanCompletion_refused (hk : (s.eng d).collection = some k)
    (h : roundDiv k.weightSum 16 ≤ 0 ∨ 2 * (load * 1000) < roundDiv k.weightSum 16 ∨
      2 * roundDiv k.weightSum 16 < load * 1000) :
    s.spanCompletion d k load window =
      ((s.modEng d fun g => { g with collection := none }).post (.engine d)
        (.calFailed d k.kind .spanRange k.windows k.origin) (some k.origin)).flag .decks := by
  simp only [State.spanCompletion, if_pos h, State.failCollection_some hk]

/-- The pairs that the CAL_DONE of a SPAN names, with their CLAMPED marks (R195). -/
def State.spanResults (s : State) (d : Deck) (load m : Int) : List (Channel × Nat × Bool) :=
  (s.channelSet d).map fun ch => (ch, spanClamped (s.chanCfg ch).factor load m,
    !decide ((spanClamped (s.chanCfg ch).factor load m : Int) = spanExact (s.chanCfg ch).factor load m))

/-- The notices of the change that a SPAN completion is (R82, R186). -/
theorem State.incoming_spanned (load m : Int) (hcapture : (s.eng d).capture = none) (hon : ¬ s.EngineOff d)
    (hcal : s.calibrated d = true) (p : Port) :
    ((State.metroChange s (s.spanned d load m) [d] (some window)).port p).incoming =
      (s.port p).incoming ++ s.stateNotices d .warmup (some window) :=
  State.incoming_completed (s.main_spanned d load m) (fun _ => ⟨rfl, rfl, rfl⟩) (s.calibrated_spanned d load m hcal)
    hcapture hon ..

variable {m} (hm : roundDiv k.weightSum 16 = m) (hpos : 0 < m) (hhigh : m ≤ 2 * (load * 1000)) (hlow : load * 1000 ≤ 2 * m)
include hm hpos hhigh hlow

theorem State.spanCompletion_eq :
    s.spanCompletion d k load window =
      let t := State.metroChange s (s.spanned d load m) [d] (some window)
      t.post (.engine d) (.calDoneSpan d load m (s.spanResults d load m) t.backup.calCounter k.origin) (some k.origin) := by
  have hin : ¬ (m ≤ 0 ∨ 2 * (load * 1000) < m ∨ 2 * m < load * 1000) := by omega
  have hwrite : (s.spanResults d load m).foldl (fun t x => t.modChanCfg x.1 fun c => { c with factor := x.2.1 }) s =
      s.writeChannels (fun k c => { c with factor := k }) (s.spanFactors d load m) := by
    rw [State.writeChannels, State.spanResults, State.spanFactors, List.foldl_map, List.foldl_map]
  simp only [State.spanCompletion, hm, if_neg hin, spanFactor_eq hpos hhigh]
  rw [State.spanned, ← hwrite]
  rfl

/-- The channels of a SPAN collection, each with its new factor, and the others as they were (R195). -/
theorem State.chanCfg_spanCompletion :
    (∀ ch ∈ s.channelSet d, (s.spanCompletion d k load window).chanCfg ch =
      { s.chanCfg ch with factor := spanClamped (s.chanCfg ch).factor load m }) ∧
      ∀ ch, ch ∉ s.channelSet d → (s.spanCompletion d k load window).chanCfg ch = s.chanCfg ch := by
  rw [State.spanCompletion_eq window hm hpos hhigh hlow]
  simp only [State.chanCfg_post, State.chanCfg_metroChange]
  exact ⟨fun _ h => s.chanCfg_spanned_mem d load m h, fun _ h => s.chanCfg_spanned_other d load m h⟩

theorem State.deckCfg_spanCompletion : (s.spanCompletion d k load window).deckCfg d = s.deckCfg d := by
  rw [State.spanCompletion_eq window hm hpos hhigh hlow]
  simp only [State.deckCfg_post, State.deckCfg_metroChange]
  exact s.deckCfg_writeChannels ..

/-- The engine that a SPAN completion leaves (R186, R195). -/
theorem State.eng_spanCompletion :
    let g := (s.spanCompletion d k load window).eng d
    g.collection = none ∧ g.filter = [] ∧ g.stab = [] := by
  obtain ⟨hfilter, hstab, hcollection, -⟩ := State.eng_touchDeck s (s.spanned d load m).advanceCounter (some window) d
  rw [State.spanCompletion_eq window hm hpos hhigh hlow]
  exact ⟨hcollection, hfilter, hstab⟩

theorem State.calCounter_spanCompletion : (s.spanCompletion d k load window).backup.calCounter =
    if s.backup.calCounter < 65535 then s.backup.calCounter + 1 else s.backup.calCounter := by
  have hcounter : (s.spanned d load m).backup.calCounter = s.backup.calCounter := by
    rw [State.spanned, State.writeChannels_eq]
    rfl
  rw [State.spanCompletion_eq window hm hpos hhigh hlow, State.calCounter_post, State.backup_metroChange, hcounter]

/-- CAL_DONE stands behind the notices of the change (R195). -/
theorem State.incoming_spanCompletion (p : Port) : ((s.spanCompletion d k load window).port p).incoming =
    ((State.metroChange s (s.spanned d load m) [d] (some window)).port p).incoming ++
      [{ block := .engine d, at_ := s.ms, origin := some k.origin
         body := .calDoneSpan d load m (s.spanResults d load m) (s.spanCompletion d k load window).backup.calCounter
          k.origin }] := by
  simp only [State.spanCompletion_eq window hm hpos hhigh hlow, State.calCounter_post]
  exact State.incoming_calDone (s.main_spanned d load m) ..

end
end Sys2Proof.Machine
end

section
/-! SUPPORT. The calibration switch and READ_CALIBRATION (R185, R193, R196). -/

namespace Sys2Proof.Machine

theorem State.failCollection_eq (s : State) (d : Deck) (reason : CalFailReason) : s.failCollection d reason =
    match (s.eng d).collection with
    | none => s
    | some k =>
      ((s.modEng d fun g => { g with collection := none }).post (.engine d)
        (.calFailed d k.kind reason k.windows k.origin) (some k.origin)).flag .decks := rfl

/-- What an OPEN switch makes of both collections (R193). -/
theorem State.failCollections_eq (s : State) (reason : CalFailReason) :
    (s.failCollection .a reason).failCollection .b reason = [Deck.a, Deck.b].foldl (fun t d =>
      match (s.eng d).collection with
      | none => t
      | some k => ((t.modEng d fun g => { g with collection := none }).post (.engine d)
          (.calFailed d k.kind reason k.windows k.origin) (some k.origin)).flag .decks) s := by
  have hother : (s.failCollection .a reason).eng .b = s.eng .b := by
    rw [State.failCollection_eq]
    cases (s.eng .a).collection <;> rfl
  rw [State.failCollection_eq _ .b, hother, State.failCollection_eq]
  rfl

/-- A reading seen on 50 ticks in a row is taken (R185). -/
theorem State.takeCalSwitch_eq (s : State) : s.takeCalSwitch =
    if s.sup.calRun < 50 then s
    else
      let t := ((s.modSup fun v => { v with calSwitch := !s.sup.calSwitch, calRun := 0 }).post .supervisor
        (.calSwitch (!s.sup.calSwitch) s.sup.ms)).flag .decks
      if s.sup.calSwitch = false then t else (t.failCollection .a .calLocked).failCollection .b .calLocked := by
  simp only [State.takeCalSwitch, Bool.not_eq_true']
  rfl

theorem State.newCollection_handed (s : State) (c : Instr) (q : Sender) (d : Deck) (kind : CollectionKind) (origin : Port) :
    (s.handed c q).newCollection d kind origin = s.newCollection d kind origin := by
  simp only [State.newCollection, State.channelSet_handed, State.win_handed]

theorem serveReadCalibration_named {deck : Nat} {d : Deck} (role : Role) (s : State) (hd : deckOf deck = some d) :
    serveReadCalibration deck role s =
      (s, .ok (u16 s.backup.calCounter ++ calSwitchByte s.sup.calSwitch ++ metrologyBytes (s.deckCfg d).metrology
        ++ boolean (s.deckCfg d).mark ++ calibratedByte (s.calibrated d) ++ items channelByte (s.channelSet d)
        ++ optional collectionBytes (s.eng d).collection
        ++ (if s.sup.calSwitch then
            [1#8] ++ s32 (s.deckCfg d).zd
              ++ items (fun x => u32 (s.chanCfg x).zero ++ u32 (s.chanCfg x).factor) (s.channelSet d)
          else [0#8]))) := by
  simp only [serveReadCalibration, hd]
  cases s.sup.calSwitch <;> rfl

end Sys2Proof.Machine

open Sys2Proof Sys2Proof.Machine

/-- Settles O55: a collection's start test by test, its windows, its two completions, and the switch and readout. -/
theorem calibrationCollections : Obligations.CalibrationCollections := by
  refine ⟨⟨fun s q role deck load hdeck c hc h => ?_, fun s q role deck d hd => ?_⟩, fun s d w r k hk => ?_,
    fun s d k n hk => ?_, fun s => ⟨fun hrun => ?_, fun q role deck d hd => ?_⟩⟩
  · have hnone := deckOf_of_ge hdeck
    simp only [List.mem_cons, List.not_mem_nil, or_false] at hc
    rcases hc with rfl | rfl | rfl
    · exact request_refused s _ q _ role _ h (by simp only [serveCalZeroDeck, hnone])
    · exact request_refused s _ q _ role _ h (by simp only [serveCalSpanDeck, hnone])
    · exact request_refused s _ q _ role _ h (by simp only [serveAbortCalibration, hnone])
  · intro max2 tests fresh
    refine ⟨?_, fun load => ?_, ?_⟩
    · intro c h
      have hserve := serveCalZeroDeck_named (s := s.handed c q) q role hd
      rw [State.newCollection_handed] at hserve
      exact (exec_calZeroDeck ..).trans (request_testCollection q role h hserve)
    · intro c h
      have hserve := serveCalSpanDeck_named (s := s.handed c q) q role hd load
      rw [State.deckCfg_handed, State.newCollection_handed] at hserve
      refine (exec_calSpanDeck ..).trans ?_
      split
      · next hload => exact request_refused s c q _ role _ h (hserve.trans (if_pos hload))
      · next hload => exact request_testCollection q role h (hserve.trans (if_neg hload))
    · intro c h
      have hserve := serveAbortCalibration_named (s := s.handed c q) role hd
      rw [State.eng_handed] at hserve
      refine (exec_abortCalibration ..).trans ?_
      split
      · next hnone =>
        rw [hnone] at hserve
        exact request_refused s c q _ role _ h hserve
      · next k hk =>
        rw [hk] at hserve
        refine request_answered s c q _ role _ _ h (hserve.trans ?_)
        rw [State.failCollection_some (by rwa [State.eng_handed])]
  · intro put again
    refine ⟨State.offerCollection_early hk, fun hafter hw hrun => ?_, fun hafter hw hrun => ?_,
      State.offerCollection_again hk, fun hafter hw hmarked hcount hkind => ?_, fun hafter hw hmarked hcount hkind => ?_,
      fun load gz hafter hw hmarked hkind hocc hgz => ?_⟩
    · exact (State.offerCollection_invalid hk hafter hw).trans (if_neg (Nat.not_le.mpr hrun))
    · exact (State.offerCollection_invalid hk hafter hw).trans (if_pos hrun)
    · rw [State.offerCollection_add hk hafter hw hmarked (.inl hkind), Collection.add_zero hkind]
      exact if_pos hcount
    · intro k'
      rw [State.offerCollection_add hk hafter hw hmarked (.inl hkind), Collection.add_zero hkind]
      refine (if_neg (Nat.not_lt.mpr hcount)).trans ?_
      simp only [k', hkind]
      rfl
    · intro k'
      rw [State.offerCollection_add hk hafter hw hmarked (.inr hocc), Collection.add_span hkind, hgz]
      refine if_congr Iff.rfl rfl ?_
      simp only [k', hkind]
      rfl
  · intro posted entered on
    have hoff : on → (s.eng d).capture = none ∧ ¬ s.EngineOff d := by
      rintro ⟨hcapture, hmode, hcal⟩
      exact ⟨hcapture, not_or.mpr ⟨hmode, by simp [hcal]⟩⟩
    have hentered : s.stateNotices d .warmup (some n) = entered := rfl
    refine ⟨fun _ hsums => ?_, fun load _ => ?_⟩
    · intro t
      obtain ⟨hset, hkeep⟩ := State.chanCfg_zeroCompletion hsums n
      obtain ⟨hdeck, hother⟩ := s.deckCfg_zeroCompletion (d := d) (k := k) n
      obtain ⟨hlatch, hcollection, hfilter, hstab⟩ := s.eng_zeroCompletion (d := d) (k := k) n
      refine ⟨hset, hkeep, hdeck, hother, hlatch, hcollection, hfilter, hstab, State.calCounter_zeroCompletion n,
        fun hon p => ?_, fun p => ?_⟩
      · obtain ⟨hcapture, hon⟩ := hoff hon
        exact (State.incoming_zeroCompletion n p).trans (by rw [State.incoming_zeroed hcapture hon, hentered]; rfl)
      · exact (congrArg List.getLast? (State.incoming_zeroCompletion n p)).trans List.getLast?_concat
    · intro m
      refine ⟨State.spanCompletion_refused n hk, fun hpos hhigh hlow => ?_⟩
      intro t exact
      have hm : roundDiv k.weightSum 16 = m := rfl
      obtain ⟨hset, hkeep⟩ := State.chanCfg_spanCompletion (s := s) (d := d) n hm hpos hhigh hlow
      obtain ⟨hcollection, hfilter, hstab⟩ := State.eng_spanCompletion (s := s) (d := d) n hm hpos hhigh hlow
      have hincoming := State.incoming_spanCompletion (s := s) (d := d) n hm hpos hhigh hlow
      refine ⟨hset, hkeep, State.deckCfg_spanCompletion n hm hpos hhigh hlow, hcollection, hfilter, hstab,
        State.calCounter_spanCompletion n hm hpos hhigh hlow, fun hon p => ?_, fun p => ?_⟩
      · obtain ⟨hcapture, hoff⟩ := hoff hon
        obtain ⟨-, -, hcal⟩ := hon
        have hchange := State.incoming_spanned n load m hcapture hoff hcal p
        exact ⟨_, (hincoming p).trans (congrArg (· ++ [_]) hchange)⟩
      · refine (congrArg List.getLast? (hincoming p)).trans (List.getLast?_concat.trans ?_)
        have hresults : s.spanResults d load m =
            (s.channelSet d).map fun ch => (ch, (t.chanCfg ch).factor, !decide (((t.chanCfg ch).factor : Int) = exact ch)) :=
          List.map_congr_left fun ch hch => by rw [hset ch hch]; rfl
        rw [hresults]
  · refine (exec_calSwitch ..).trans (event_after s _ _ _ hrun ?_)
    rw [State.takeCalSwitch_eq]
    refine if_congr Iff.rfl rfl (if_congr Iff.rfl rfl ?_)
    rw [State.failCollections_eq]
    rfl
  · intro c cfg set h
    have hserve := serveReadCalibration_named role (s.handed c q) hd
    simp only [State.backup_handed, State.sup_handed, State.deckCfg_handed, State.calibrated_handed,
      State.channelSet_handed, State.chanCfg_handed, State.eng_handed] at hserve
    exact (exec_readCalibration ..).trans (request_answered s c q _ role id _ h hserve)
end

section
/-! SUPPORT. A capture in flight takes a reading: its steps in their order, its stability test and its completion (R92 to
R94, R99, R100). -/

namespace Sys2Proof.Machine

section
variable {s : State} {d : Deck} {k : Capture}

/-- A rewriting of the capture in flight stores the rewritten record. -/
theorem State.modCapture_some (hk : (s.eng d).capture = some k) (f : Capture → Capture) :
    s.modCapture d f = s.modEng d fun g => { g with capture := some (f k) } :=
  State.modEng_congr (by rw [hk, Option.map_some])

/-! ### The stability test (R93, R94) -/

theorem bandLimit_eq (p : Phase) (e : Nat) :
    bandLimit p e = if p = .normal then (e : Int) * 1000 else 2 * (e : Int) * 1000 := by
  cases p <;> rfl

theorem candidateClass_eq (k : Capture) (stab : List StabEntry) : candidateClass k stab =
    if k.phase = .normal ∧ ∀ x ∈ stab, x.timing = .reference then .approved else .indicative :=
  if_congr (by simp) rfl rfl

/-- An engine whose capture has just ended goes to the state of its occupancy reading (R80, R99). -/
theorem State.refreshActive_freed (hk : (s.eng d).capture = none) (hs : (s.eng d).state = .capturing)
    (window : Option Nat) : s.refreshActive d window =
      ((s.modEng d fun g => { g with state := g.occupancy.engineState }).post (.engine d)
        (.engineState d .capturing (s.eng d).occupancy.engineState window)).flag .decks := by
  have hactive : (s.eng d).activeState = (s.eng d).occupancy.engineState := by
    rw [Occupancy.engineState_eq, hk]
    rfl
  have hnew : (s.eng d).occupancy.engineState ≠ .capturing := by cases (s.eng d).occupancy <;> decide
  rw [State.refreshActive_new window (by rw [hs]; decide) (by rwa [hactive, hs]), hactive, hs,
    State.modEng_congr (g := fun g => { g with state := g.occupancy.engineState }) rfl]

/-- What a completed capture leaves and tells (R99, R100), before the engine state follows. -/
def State.captureDone (s : State) (d : Deck) (k : Capture) (weight : Int) (e : Nat) (cls : WeighClass) (window : Nat) :
    State :=
  let res : CaptureResult :=
    { deck := d, number := k.number, lane := k.lane, weight := weight, division := e, cls := cls, window := window }
  (((s.modEng d fun g => { g with capture := none, ended := true }).raise
      [.recordsCaptureCompletion res, .captureCompletionAtArbiter res]).post (.engine d)
    (.weighingDone d k.number weight cls e k.phase k.failed k.origin) k.origin).flag .decks

theorem State.completeCapture_eq (s : State) (d : Deck) (k : Capture) (weight : Int) (e : Nat) (cls : WeighClass)
    (window : Nat) : s.completeCapture d k weight e cls window =
      (s.captureDone d k weight e cls window).refreshActive d (some window) := rfl

theorem State.eng_captureDone (s : State) (d : Deck) (k : Capture) (weight : Int) (e : Nat) (cls : WeighClass)
    (window : Nat) : (s.captureDone d k weight e cls window).eng d = { s.eng d with capture := none, ended := true } := by
  simp [State.captureDone]

/-- A capture completes: its record goes, and the engine state is that of the occupancy reading (R99, R100). -/
theorem State.completeCapture_capturing (hs : (s.eng d).state = .capturing) (weight : Int) (e : Nat) (cls : WeighClass)
    (window : Nat) : s.completeCapture d k weight e cls window =
      (((s.captureDone d k weight e cls window).modEng d fun g => { g with state := g.occupancy.engineState }).post
        (.engine d) (.engineState d .capturing (s.eng d).occupancy.engineState (some window))).flag .decks := by
  have heng := s.eng_captureDone d k weight e cls window
  rw [State.completeCapture_eq, State.refreshActive_freed (by rw [heng]) (by rw [heng, hs]), heng]

/-- A reading without what the test needs, or one that is UNDERLOAD, is no result. -/
theorem State.testStability_noResult {r : Reading}
    (h : r.e = none ∨ r.spread = none ∨ r.range = none ∨ r.range = some .underload ∨ (r.range = some .inRange ∧ r.gd = none)) :
    s.testStability d k r = s := by
  unfold State.testStability
  split
  · next he hspread hrange =>
    simp only [he, hspread, hrange, reduceCtorEq, false_or] at h
    rcases h with h | ⟨h, hgd⟩
    · cases h
      exact ite_self s
    · cases h
      rw [hgd]
      exact ite_self s
  · rfl

section
variable {r : Reading} {e : Nat} {spread : Int} (he : r.e = some e) (hspread : r.spread = some spread)
include he hspread

/-- A spread within the band of an OVERLOAD reading ends the capture (R93). -/
theorem State.testStability_overload (hrange : r.range = some .overload) : s.testStability d k r =
    if spread ≤ bandLimit k.phase e then s.failCapture d .overload (some r.number) else s := by
  simp only [State.testStability, he, hspread, hrange, ← not_le, ite_not]

/-- A spread within the band of a reading in range is a result, if its class is taken (R93, R94). -/
theorem State.testStability_inRange {gd : Int} (hrange : r.range = some .inRange) (hgd : r.gd = some gd) :
    s.testStability d k r =
      if spread ≤ bandLimit k.phase e ∧ (candidateClass k (s.eng d).stab = .approved ∨ k.accept = true) then
        s.completeCapture d k gd e (candidateClass k (s.eng d).stab) r.number
      else s := by
  simp only [State.testStability, he, hspread, hrange, hgd, ← not_le, ite_not, ite_and]

end

/-! ### The steps of R92 -/

/-- What a capture in flight makes of a reading; `t` holds the count of invalid windows that the reading leaves. -/
theorem State.offerCapture_some (hk : (s.eng d).capture = some k) (hs : (s.eng d).state = .capturing) (r : Reading)
    (marked : Bool) : s.offerCapture d r marked =
      let k' : Capture := { k with invalidRun := if r.status = .valid then 0 else k.invalidRun + 1 }
      let t := s.modEng d fun g => { g with capture := some k' }
      if r.status ≠ .valid then
        if 10 ≤ k.invalidRun + 1 then t.captureFailed d k' .channelFault (some r.number) else t
      else if r.occupancy = .empty then
        t.captureFailed d k' (if r.range = some .underload then .underload else .leftDeck) (some r.number)
      else if marked then t.modEng d fun g => { g with stab := [] }
      else if r.gf = none ∨ r.spread = none then t
      else t.testStability d k' r := by
  have hfail : ∀ (k' : Capture) reason window,
      (s.modEng d fun g => { g with capture := some k' }).failCapture d reason window =
        (s.modEng d fun g => { g with capture := some k' }).captureFailed d k' reason window := fun k' =>
    State.failCapture_some (by rw [State.eng_modEng_self]) (by rwa [State.eng_modEng_self])
  unfold State.offerCapture
  simp only [hk, State.modCapture_some hk, hfail, Option.isNone_iff_eq_none]
  by_cases hvalid : r.status = .valid
  · simp only [if_neg (not_not_intro hvalid), if_pos hvalid]
  · simp only [if_pos hvalid, if_neg hvalid]
    rfl

end

end Sys2Proof.Machine

open Sys2Proof Sys2Proof.Machine

/-- Settles O34: a reading step by step as R92 has it, and the stability test by the range of the reading. -/
theorem captureJudgesReadings : Obligations.CaptureJudgesReadings := by
  refine ⟨⟨fun s d r marked hk => ?_, fun s d k r marked hk hs => State.offerCapture_some hk hs r marked⟩,
    fun s d k r h => State.testStability_noResult h, fun s d k r e spread gd hk hs he hspread => ?_⟩
  · simp only [State.offerCapture, hk]
  · intro band cls
    have hband : bandLimit k.phase e = band := bandLimit_eq k.phase e
    have hcls : candidateClass k (s.eng d).stab = cls := candidateClass_eq k (s.eng d).stab
    refine ⟨fun hrange => ?_, fun hrange hgd => ?_⟩
    · rw [State.testStability_overload he hspread hrange, State.failCapture_some hk hs, hband]
    · rw [State.testStability_inRange he hspread hrange hgd, State.completeCapture_capturing hs, hband, hcls]
      rfl
end

section
/-! SUPPORT. The attempts of a capture, and its pause off position (R86, R95, R96). -/

namespace Sys2Proof.Machine

section
variable {s : State} {d : Deck} {k : Capture}

theorem Capture.relaxedAllowed_eq_two (k : Capture) : k.relaxedAllowed = 2 ↔ 1 ≤ k.downshift ∧ k.accept = true := by
  unfold Capture.relaxedAllowed
  split <;> simp_all

/-- An expiry of the attempt timer in the NORMAL phase (R95). -/
theorem State.attemptExpiry_normal (hk : (s.eng d).capture = some k) (ht : k.timer = 0) (hphase : k.phase = .normal) :
    s.attemptExpiry d =
      let k' : Capture := { k with failed := k.failed + 1 }
      if k.failed + 1 < k.normalAllowed then s.modEng d fun g => { g with capture := some k'.reload }
      else if 1 ≤ k.downshift ∧ k.accept = true then
        ((s.modEng d fun g => { g with capture := some { k'.reload with phase := .relaxed } }).post (.engine d)
          (.captureDownshift d k.number (k.failed + 1))).flag .decks
      else
        (s.modEng d fun g => { g with capture := some k' }).failCapture d
          (if k.accept = false ∧ ∃ x ∈ (s.eng d).stab, x.timing = .backup then .clock else .unstable) none := by
  have hclock : (!k.accept && (s.eng d).stab.any fun x => x.timing == .backup) = true ↔
      k.accept = false ∧ ∃ x ∈ (s.eng d).stab, x.timing = .backup := by simp
  unfold State.attemptExpiry
  simp only [hk, ht, hphase, hclock, k.relaxedAllowed_eq_two]
  rfl

/-- An expiry of the attempt timer in the RELAXED phase (R95). -/
theorem State.attemptExpiry_relaxed (hk : (s.eng d).capture = some k) (ht : k.timer = 0) (hphase : k.phase = .relaxed) :
    s.attemptExpiry d =
      let k' : Capture := { k with failed := k.failed + 1 }
      if k.failed + 1 < k.normalAllowed + 2 then s.modEng d fun g => { g with capture := some k'.reload }
      else (s.modEng d fun g => { g with capture := some k' }).failCapture d .unstable none := by
  unfold State.attemptExpiry
  simp only [hk, ht, hphase]
  rfl

end

/-! ### The positioned state (R86, R96) -/

theorem contains_positioningInputs (d : Deck) (i : Input) :
    (positioningInputs d).contains i = true ↔ i ∈ [Input.beam1 d, .beam2 d, .boom d.entry, .boom d.exit] :=
  List.contains_iff_mem

theorem State.deckClear_iff (s : State) (d : Deck) : s.deckClear d = true ↔
    ∀ j ∈ [Input.beam1 d, .beam2 d, .boom d.entry, .boom d.exit], (s.inp j).debounced = .clear := by
  simp only [State.deckClear, List.all_eq_true, beq_iff_eq, positioningInputs]

theorem Engine.unposition_eq (g : Engine) : g.unposition =
    { g with
      positioned := false, windowMark := true
      capture := g.capture.map fun k => { k with paused := true, leave := some 0 }
      stab := if g.capture = none then g.stab else [] } := by
  unfold Engine.unposition
  cases g.capture <;> rfl

section
variable {s : State} {d : Deck} {i : Input}

theorem State.positioningEdge_other (e : Edge) (hi : i ∉ [Input.beam1 d, .beam2 d, .boom d.entry, .boom d.exit]) :
    s.positioningEdge d i e = s :=
  if_pos (by rwa [Bool.not_eq_true', ← Bool.not_eq_true, contains_positioningInputs])

variable (hi : i ∈ [Input.beam1 d, .beam2 d, .boom d.entry, .boom d.exit])
include hi

theorem State.positioningEdge_own (e : Edge) : s.positioningEdge d i e =
    match e with
    | .rising => if (s.eng d).positioned then s.modEng d Engine.unposition else s
    | .falling => if (s.eng d).positioned = false ∧ s.deckClear d = true then s.modEng d Engine.reposition else s := by
  have hnot : ¬ (!(positioningInputs d).contains i) = true := by
    rwa [Bool.not_eq_true', Bool.not_eq_false, contains_positioningInputs]
  refine (if_neg hnot).trans ?_
  cases e
  · rfl
  · exact if_congr (by simp) rfl rfl

end

end Sys2Proof.Machine

open Sys2Proof Sys2Proof.Machine

/-- Settles O36: an expiry by the phase of the capture, and an edge by its input and its direction. -/
theorem attemptsAndPauses : Obligations.AttemptsAndPauses := by
  refine ⟨fun s d k hrun hk hs ht => ?_, fun s d i e hrun => ?_⟩
  · intro c n k'
    refine (exec_attemptTimerExpiry ..).trans (event_after s c _ _ hrun ?_)
    have hk' : ((s.consume c).eng d).capture = some k := hk
    have hfail : ∀ reason, ((s.consume c).modEng d fun g => { g with capture := some k' }).failCapture d reason none =
        ((s.consume c).modEng d fun g => { g with capture := some k' }).captureFailed d k' reason none := fun reason =>
      State.failCapture_some (by rw [State.eng_modEng_self]) (by rwa [State.eng_modEng_self]) reason none
    cases hphase : k.phase with
    | normal =>
      simp only [State.attemptExpiry_normal hk' ht hphase]
      simp only [true_and, if_true, ← hfail]
      rfl
    | relaxed =>
      simp only [State.attemptExpiry_relaxed hk' ht hphase]
      simp only [reduceCtorEq, false_and, if_false, ← hfail]
      rfl
  · intro c
    refine (exec_positioningEdge ..).trans (event_after s c _ _ hrun ?_)
    split
    · next hi => exact State.positioningEdge_other e hi
    next hi =>
    refine (State.positioningEdge_own (not_not.mp hi) e).trans ?_
    cases e with
    | rising => exact (if_congr Iff.rfl (State.modEng_congr (Engine.unposition_eq _)) rfl).trans (if_pos rfl).symm
    | falling =>
      refine (if_congr ?_ rfl rfl).trans (if_neg Edge.noConfusion).symm
      exact and_congr_right fun _ => State.deckClear_iff _ d
end

section
/-! SUPPORT. Arrivals, passages, tailgates and intrusions at the entry boom loop, and the exit passage (R115 to R120). -/

namespace Sys2Proof.Machine

/-! ### Rewritings of an arbiter -/

section
variable {s : State} {d : Deck}

theorem State.modArb_congr {f g : Arbiter → Arbiter} (h : f (s.arb d) = g (s.arb d)) : s.modArb d f = s.modArb d g := by
  rw [← State.modArb_const s d f, ← State.modArb_const s d g, h]

theorem State.modArb_same {f : Arbiter → Arbiter} (h : f (s.arb d) = s.arb d) : s.modArb d f = s :=
  (State.modArb_congr (g := id) h).trans (by cases d <;> rfl)

end

/-! ### What the law of an arbiter says of its deck state (R107) -/

section
variable {a : Arbiter} (h : a.Law)
include h

theorem Arbiter.Law.granted {g : Grant} (hg : a.grant = some g) : a.state = .granted := h.grant.mp (by rw [hg]; rfl)
theorem Arbiter.Law.not_granted (hg : a.grant = none) : a.state ≠ .granted := fun hs => by
  simpa [hg] using h.grant.mpr hs
theorem Arbiter.Law.occupied {cur : Current} (hcur : a.current = some cur) : a.state = .occupied :=
  h.current.mp (by rw [hcur]; rfl)
theorem Arbiter.Law.not_occupied (hcur : a.current = none) : a.state ≠ .occupied := fun hs => by
  simpa [hcur] using h.current.mpr hs
theorem Arbiter.Law.current_of_granted (hs : a.state = .granted) : a.current = none := by
  rw [← Option.not_isSome_iff_eq_none, h.current, hs]
  exact DeckState.noConfusion

end

/-! ### The tailgate watch (R119) -/

/-- The entry barrier is LOWERING or DOWN, or a change to one of them still waits for the arbiter (R119, log 18). -/
abbrev State.EntryCloses (s : State) (d : Deck) : Prop :=
  (s.bar d.entry).state = .lowering ∨ (s.bar d.entry).state = .down ∨
    Instr.barrierStateTaken .arbiter d.entry .lowering ∈ s.main.raised ∨
    Instr.barrierStateTaken .arbiter d.entry .down ∈ s.main.raised

theorem State.entryLowered_iff (s : State) (d : Deck) :
    s.entryLowered d = true ↔ (s.bar d.entry).state = .lowering ∨ (s.bar d.entry).state = .down := by
  simp only [State.entryLowered, Bool.or_eq_true, beq_iff_eq]

theorem State.entryClosing_iff (s : State) (d : Deck) : s.entryClosing d = true ↔ s.EntryCloses d := by
  simp only [State.entryClosing, Bool.or_eq_true, State.entryLowered_iff, List.contains_iff_mem, or_assoc]

/-- The taking of an edge of the loop leaves every barrier change waiting that waited. -/
theorem State.entryCloses_consume (s : State) (d : Deck) (e : Edge) :
    (s.consume (.entryLoopEdgeAtArbiter d e)).EntryCloses d ↔ s.EntryCloses d := by
  have hmem : ∀ st, Instr.barrierStateTaken .arbiter d.entry st ∈ (s.consume (.entryLoopEdgeAtArbiter d e)).main.raised ↔
      Instr.barrierStateTaken .arbiter d.entry st ∈ s.main.raised := fun st =>
    List.mem_erase_of_ne Instr.noConfusion
  rw [State.EntryCloses, hmem, hmem]
  rfl

theorem State.watching_eq (s : State) (d : Deck) [Decidable (s.EntryCloses d)] :
    s.watching d = ((s.arb d).watch && decide ¬ s.EntryCloses d) := by
  rw [State.watching, Bool.eq_iff_iff]
  simp [← State.entryClosing_iff]

/-! ### A rising edge of the entry loop (R115, R119, R120) -/

section
variable {s : State} {d : Deck}

theorem State.entryRise_granted {g : Grant} (hs : (s.arb d).state = .granted) (hg : (s.arb d).grant = some g) :
    s.entryRise d =
      let t := s.modArb d fun x => { x with entryRisen := true }
      if g.arrived then t else t.modArb d fun x => { x with grant := some { g with arrived := true, timer := none } } := by
  have hrisen : (s.modArb d fun a => { a with entryRisen := a.state != .occupied || s.watching d }) =
      s.modArb d fun x => { x with entryRisen := true } := State.modArb_congr (by rw [hs]; rfl)
  simp only [State.entryRise, hs, hrisen]
  split
  · next harrived => exact State.modArb_same (by simp [hg, harrived])
  · next harrived => exact State.modArb_congr (by simp [hg, harrived])

theorem State.entryRise_occupied {cur : Current} (hs : (s.arb d).state = .occupied) (hcur : (s.arb d).current = some cur) :
    s.entryRise d =
      let t := s.modArb d fun x => { x with entryRisen := s.watching d }
      if s.watching d then
        ((t.modArb d fun x => { x with tailgate := true, watch := false }).raise [.captureExternalEnd d .tailgate]).post
          (.arbiter d) (.tailgate d cur.number)
      else t := by
  have hrisen : (s.modArb d fun a => { a with entryRisen := a.state != .occupied || s.watching d }) =
      s.modArb d fun x => { x with entryRisen := s.watching d } := State.modArb_congr (by rw [hs]; rfl)
  simp only [State.entryRise, hs, hcur, hrisen]
  cases s.watching d <;> rfl

theorem State.entryRise_idle (hgranted : (s.arb d).state ≠ .granted) (hoccupied : (s.arb d).state ≠ .occupied) :
    s.entryRise d = s.modArb d fun x => { x with entryRisen := true } := by
  have hrisen : (s.modArb d fun a => { a with entryRisen := a.state != .occupied || s.watching d }) =
      s.modArb d fun x => { x with entryRisen := true } := State.modArb_congr (by simp [hoccupied])
  simp only [State.entryRise, hrisen]
  split
  · next hs => exact absurd hs hgranted
  · next hs => exact absurd hs hoccupied
  all_goals rfl

/-! ### A falling edge of the entry loop (R116, R120) -/

theorem State.entryPassage_eq (hs : (s.arb d).state = .granted) (g : Grant) :
    s.entryPassage d g =
      ((((s.modArb d fun x =>
        { x with
          state := .occupied, grant := none
          current := some { number := g.number, lane := g.lane, released := false, outcome := .none }
          watch := decide (g.closing = false ∧ (s.bar d.entry).state ≠ .lowering ∧ (s.bar d.entry).state ≠ .down)
        }).post (.arbiter d)
        (.deckState d .granted .occupied (some (g.lane, g.number)))).flag .decks).modEng d fun g =>
          { g with ended := false }).raise [.entryPassageReport d g.number, .entryPassageAtLane g.lane d g.number] := by
  have hwatch : (!g.closing && !s.entryLowered d) =
      decide (g.closing = false ∧ (s.bar d.entry).state ≠ .lowering ∧ (s.bar d.entry).state ≠ .down) := by
    rw [Bool.eq_iff_iff, decide_eq_true_eq, ← not_or, ← State.entryLowered_iff, Bool.and_eq_true, Bool.not_eq_true',
      Bool.not_eq_true', Bool.not_eq_true]
  rw [State.entryPassage, State.changeArb_of_ne (by rw [hs]; exact DeckState.noConfusion), hwatch, hs]
  rfl

theorem State.intrusion_eq (hs : (s.arb d).state ≠ .recover) : s.intrusion d =
    (((s.modArb d fun x => { x with state := .recover, offer := none }).post (.arbiter d)
      (.deckState d (s.arb d).state .recover none)).flag .decks).post (.arbiter d) (.deckIntrusion d (s.arb d).state) := by
  rw [State.intrusion, State.changeArb_of_ne hs]
  rfl

theorem State.entryFall_granted {g : Grant} (hs : (s.arb d).state = .granted) (hg : (s.arb d).grant = some g) :
    s.entryFall d =
      let t := s.modArb d fun x => { x with entryRisen := false }
      if g.arrived then t.entryPassage d g else t.modArb d fun x => { x with grant := some { g with closing := false } } := by
  simp only [State.entryFall, hs, hg]

theorem State.entryFall_ungranted (hs : (s.arb d).state ≠ .granted) :
    s.entryFall d =
      let t := s.modArb d fun x => { x with entryRisen := false }
      if ((s.arb d).state = .free ∨ (s.arb d).state = .clearing) ∧ (s.arb d).entryRisen = true then t.intrusion d else t := by
  simp only [State.entryFall]
  split
  · next h => exact absurd h hs
  · next h => exact if_congr (by simp [h]) rfl rfl
  · next h => exact if_congr (by simp [h]) rfl rfl
  all_goals
    next h => exact (if_neg (by simp [h])).symm

end

/-! ### The current transaction (R117 to R119) -/

section
variable {s : State} {d : Deck}

theorem State.modArb_current {cur : Current} (hcur : (s.arb d).current = some cur) (p : Prop) [Decidable p]
    (f : Current → Current) :
    (s.modArb d fun a => { a with current := some (if p then f cur else cur) }) =
      if p then s.modArb d fun a => { a with current := some (f cur) } else s := by
  split
  · rfl
  · exact State.modArb_same (by rw [← hcur])

section
variable (hcur : (s.arb d).current = none)
include hcur

theorem State.exitFall_none : s.exitFall d = s := by
  simp only [State.exitFall, hcur]

theorem State.exitRelease_none (number : Option Nat) : s.exitRelease d number = s :=
  State.modArb_same (by rw [hcur, Option.map_none, ← hcur])

theorem State.modCurrent_none (number : Nat) (f : Current → Current) : s.modCurrent d number f = s :=
  State.modArb_same (by rw [hcur, Option.map_none, ← hcur])

theorem State.forceExitNotice_none (number : Nat) : s.forceExitNotice d number = s :=
  State.modArb_same (by simp [hcur])

end

section
variable {cur : Current} (hs : (s.arb d).state = .occupied) (hcur : (s.arb d).current = some cur)
include hcur

theorem State.forceExitNotice_some (number : Nat) : s.forceExitNotice d number =
    if number = cur.number then s.modArb d fun x => { x with tailgate := false } else s := by
  split
  · next h => exact State.modArb_congr (by simp [hcur, h])
  · next h => exact State.modArb_same (by simp [hcur, Ne.symm h])

include hs

/-- The exit passage (R118). -/
theorem State.exitFall_some : s.exitFall d =
    if cur.released then
      (((s.modArb d fun x => { x with state := .clearing, current := none, tailgate := false, watch := false }).post
        (.arbiter d) (.deckState d .occupied .clearing none)).flag .decks).raise
          [.exitPassageReport d cur.number, .captureExternalEnd d .deckLeft]
    else s := by
  simp only [State.exitFall, hcur]
  rw [State.changeArb_of_ne (by rw [hs]; exact DeckState.noConfusion), hs]
  cases cur.released
  · exact if_pos (.inr rfl)
  · exact if_neg (by simp)

theorem State.exitRelease_some (number : Option Nat) : s.exitRelease d number =
    if number = none ∨ number = some cur.number then
      s.modArb d fun x => { x with current := some { cur with released := true } }
    else s := by
  rw [← State.modArb_current hcur _ fun c => { c with released := true }]
  exact State.modArb_congr (by simp [hs, hcur])

theorem State.modCurrent_some (number : Nat) (f : Current → Current) : s.modCurrent d number f =
    if number = cur.number then s.modArb d fun x => { x with current := some (f cur) } else s := by
  rw [← State.modArb_current hcur _ f]
  exact State.modArb_congr (by simp [hs, hcur, eq_comm])

end

end

/-! ### Clearing, and the states of the barriers (R119, R121, R166) -/

section
variable {s : State} {d : Deck}

theorem State.deckEmptyCondition_iff (s : State) (d : Deck) : s.deckEmptyCondition d = true ↔
    (s.eng d).state = .empty ∧ (s.inp (.beam1 d)).debounced = .clear ∧ (s.inp (.beam2 d)).debounced = .clear ∧
      (s.inp (.boom d.exit)).debounced = .clear ∧ s.boomAtArbiter d.exit = .down := by
  simp only [State.deckEmptyCondition, State.boomClear, Bool.and_eq_true, beq_iff_eq, and_assoc]

theorem State.deckEmpty_eq (s : State) (d : Deck) : s.deckEmpty d =
    if ((s.arb d).state = .clearing ∨ (s.arb d).state = .recover) ∧ s.deckEmptyCondition d = true then
      ((s.modArb d fun a => { a with state := .free }).post (.arbiter d)
        (.deckState d (s.arb d).state .free none)).flag .decks
    else s := by
  unfold State.deckEmpty
  split
  · next h =>
    have hne : (s.arb d).state ≠ .free := by rcases h.1 with h | h <;> rw [h] <;> exact DeckState.noConfusion
    exact State.changeArb_of_ne hne
  · rfl

theorem State.judgeLamps_eq (s : State) (l : Lane) : s.judgeLamps l = s.modLane l fun w => { w with lamps := s.judged l } :=
  s.modLane_congr l rfl

theorem State.boomAtArbiter_setBoomAt (s : State) (j : BarrierReader) (b k : Barrier) (st : BarrierState) :
    (s.setBoomAt j b st).boomAtArbiter k = if j = .arbiter ∧ k = b then st else s.boomAtArbiter k := by
  split
  · next h =>
    obtain ⟨rfl, rfl⟩ := h
    exact State.boomAtArbiter_setBoomAt_self ..
  · next h => exact State.boomAtArbiter_setBoomAt_ne s j b st (not_and_or.mp h)

theorem State.boomAtLane_setBoomAt (s : State) (j : BarrierReader) (b k : Barrier) (st : BarrierState) (l : Lane) :
    (s.setBoomAt j b st).boomAtLane l k = if j = .lane l ∧ k = b then st else s.boomAtLane l k := by
  split
  · next h =>
    obtain ⟨rfl, rfl⟩ := h
    exact State.boomAtLane_setBoomAt_self ..
  · next h => exact State.boomAtLane_setBoomAt_ne s j b st (not_and_or.mp h)

/-- CLEAR_TAILGATE, by its tests (R119). -/
theorem serveClearTailgate_named {deck : Nat} (role : Role) (hd : deckOf deck = some d) :
    serveClearTailgate deck role s =
      if (s.arb d).tailgate = false then (s, .only .wrongState)
      else if (s.inp (.beam1 d)).debounced = .active ∧ (s.inp (.beam2 d)).debounced = .active then
        (s, .only .deckNotReady)
      else (s.modArb d fun a => { a with tailgate := false }, .ok) := by
  simp only [serveClearTailgate, hd, Bool.not_eq_true']

end

end Sys2Proof.Machine

open Sys2Proof Sys2Proof.Machine

/-- Settles O40: each edge by what the law of the arbiter leaves of its deck state, the events of the current transaction by
their number, and the taking of barrier states by the reader. -/
theorem deckPassagesAndIntrusions : Obligations.DeckPassagesAndIntrusions := by
  refine ⟨fun s d hrun hlaw => ?_, fun s d hrun hlaw => ?_, fun s d => ⟨fun hrun => ?_, ?_, ?_⟩⟩
  · intro a closing
    refine ⟨?_, ?_⟩
    · intro c
      refine (exec_entryLoopEdgeAtArbiter ..).trans (event_after s c _ _ hrun ?_)
      have hwatching : (s.consume c).watching d = (a.watch && decide ¬ closing) := by
        rw [State.watching_eq]
        exact congrArg (a.watch && ·) (decide_eq_decide.mpr (not_congr (s.entryCloses_consume d .rising)))
      cases hg : a.grant with
      | some g =>
        have hcur : a.current = none := hlaw.current_of_granted (hlaw.granted hg)
        rw [hcur]
        exact State.entryRise_granted (s := s.consume c) (hlaw.granted hg) hg
      | none =>
        cases hcur : a.current with
        | some cur =>
          refine (State.entryRise_occupied (s := s.consume c) (hlaw.occupied hcur) hcur).trans ?_
          rw [hwatching]
          rfl
        | none => exact State.entryRise_idle (s := s.consume c) (hlaw.not_granted hg) (hlaw.not_occupied hcur)
    · intro c
      refine (exec_entryLoopEdgeAtArbiter ..).trans (event_after s c _ _ hrun ?_)
      have hstate : (((s.consume c).modArb d fun x => { x with entryRisen := false }).arb d).state = a.state := by
        rw [State.arb_modArb_self]
        rfl
      cases hg : a.grant with
      | some g =>
        refine (State.entryFall_granted (s := s.consume c) (hlaw.granted hg) hg).trans (if_congr Iff.rfl ?_ rfl)
        exact State.entryPassage_eq (hstate.trans (hlaw.granted hg)) g
      | none =>
        refine (State.entryFall_ungranted (s := s.consume c) (hlaw.not_granted hg)).trans ?_
        refine ite_congr rfl (fun h => ?_) fun _ => rfl
        have hrecover : a.state ≠ .recover := by rcases h.1 with h | h <;> rw [h] <;> decide
        refine (State.intrusion_eq (by rwa [hstate])).trans ?_
        rw [hstate]
  · refine ⟨?_, ?_, fun hcur => ?_, fun cur hcur => ?_⟩
    · intro c
      exact (exec_exitLoopEdgeAtArbiter ..).trans (event_after s c _ id hrun rfl)
    · intro c
      refine (exec_exitLoopEdgeAtArbiter ..).trans (event_after s c _ _ hrun ?_)
      cases hcur : (s.arb d).current with
      | none => exact State.exitFall_none (s := s.consume c) hcur
      | some cur => exact State.exitFall_some (s := s.consume c) (hlaw.occupied hcur) hcur
    · have hcur' : ∀ c, ((s.consume c).arb d).current = none := fun c => by rwa [State.arb_consume]
      refine ⟨fun n => ?_, fun n => ?_, fun res hres => ?_, fun n why => ?_⟩
      · exact (exec_exitReleaseAtArbiter ..).trans (event_after s _ _ id hrun (State.exitRelease_none (hcur' _) n))
      · exact (exec_forceExitNoticeAtArbiter ..).trans (event_after s _ _ id hrun (State.forceExitNotice_none (hcur' _) n))
      · subst hres
        exact (exec_captureCompletionAtArbiter ..).trans (event_after s _ _ id hrun (State.modCurrent_none (hcur' _) ..))
      · exact (exec_captureFailureAtArbiter ..).trans (event_after s _ _ id hrun (State.modCurrent_none (hcur' _) ..))
    · have hcur' : ∀ c, ((s.consume c).arb d).current = some cur := fun c => by rwa [State.arb_consume]
      have hs : ∀ c, ((s.consume c).arb d).state = .occupied := fun c => hlaw.occupied hcur
      refine ⟨fun n => ?_, fun res hres => ?_, fun n why => ?_, fun n => ?_⟩
      · exact (exec_exitReleaseAtArbiter ..).trans (event_after s _ _ _ hrun (State.exitRelease_some (hs _) (hcur' _) n))
      · subst hres
        exact (exec_captureCompletionAtArbiter ..).trans
          (event_after s _ _ _ hrun (State.modCurrent_some (hs _) (hcur' _) ..))
      · exact (exec_captureFailureAtArbiter ..).trans (event_after s _ _ _ hrun (State.modCurrent_some (hs _) (hcur' _) ..))
      · exact (exec_forceExitNoticeAtArbiter ..).trans (event_after s _ _ _ hrun (State.forceExitNotice_some (hcur' _) n))
  · refine ⟨?_, fun b st => ?_, fun l b st => ?_, fun b st => ?_⟩
    · intro c
      refine (exec_deckEmpty ..).trans (event_after s c _ _ hrun ((State.deckEmpty_eq ..).trans ?_))
      exact if_congr (and_congr_right fun _ => State.deckEmptyCondition_iff ..) rfl rfl
    · intro c
      refine (exec_barrierStateTaken ..).trans (event_after s c _ _ hrun ?_)
      exact if_congr (by simp) rfl rfl
    · intro c
      refine (exec_barrierStateTaken ..).trans (event_after s c _ _ hrun ?_)
      exact if_congr (by simp) (State.judgeLamps_eq ..) rfl
    · intro c
      exact (exec_barrierStateTaken ..).trans (event_after s c _ id hrun rfl)
  · exact fun j b st k => ⟨s.boomAtArbiter_setBoomAt j b k st, s.boomAtLane_setBoomAt j b k st⟩
  · intro q deck role hd c h
    have hserve := serveClearTailgate_named (s := s.handed c q) role hd
    simp only [State.arb_handed, State.inp_handed] at hserve
    refine (exec_clearTailgate ..).trans ?_
    split
    · next hclear => exact request_refused s c q _ role _ h (hserve.trans (if_pos hclear))
    next hset =>
    rw [if_neg hset] at hserve
    split
    · next hbeams => exact request_refused s c q _ role _ h (hserve.trans (if_pos hbeams))
    · next hbeams => exact request_answered s c q _ role _ _ h (hserve.trans (if_neg hbeams))
end

section
/-! SUPPORT. The frame of the deck arbiters: every operation that is not of the arbiters leaves every arbiter as it was. -/

namespace Sys2Proof.Machine

theorem State.arb_changeArb_self (s : State) (d : Deck) (f : Arbiter → Arbiter) : (s.changeArb d f).arb d = f (s.arb d) := by
  simp only [State.changeArb]
  split <;> simp

theorem State.arb_changeArb_ne (s : State) {d e : Deck} (f : Arbiter → Arbiter) (h : e ≠ d) :
    (s.changeArb d f).arb e = s.arb e := by
  simp only [State.changeArb]
  split <;> simp [State.arb_modArb_ne s d _ h]

section
variable (s : State) (y : Deck) (r : Role)

/-! ### Shared operations -/

@[simp] theorem State.arb_ite (c : Prop) [Decidable c] (t : State) :
    (if c then s else t).arb y = if c then s.arb y else t.arb y := apply_ite (fun u : State => u.arb y) c s t
@[simp] theorem State.arb_foldl {α : Type} (f : State → α → State) (h : ∀ t a, (f t a).arb y = t.arb y) (xs : List α) :
    (xs.foldl f s).arb y = s.arb y := State.foldl_keeps (fun t => t.arb y) h xs s
@[simp] theorem State.arb_flagIf (b : Bool) (f : Flag) : (s.flagIf b f).arb y = s.arb y := by
  simp [State.flagIf]
@[simp] theorem State.arb_changeLane (l : Lane) (f : LaneWork → LaneWork) : (s.changeLane l f).arb y = s.arb y := by
  simp [State.changeLane]
@[simp] theorem State.arb_judgeLamps (l : Lane) : (s.judgeLamps l).arb y = s.arb y := rfl
@[simp] theorem State.arb_judgeAlarm : s.judgeAlarm.arb y = s.arb y := by
  simp [State.judgeAlarm]
@[simp] theorem State.arb_settleLamps (old : State) : (settleLamps old s).arb y = s.arb y := by
  simp [settleLamps]
@[simp] theorem State.arb_settleFlags (old : State) : (settleFlags old s).arb y = s.arb y := by
  simp [settleFlags]
@[simp] theorem State.arb_settle (old : State) : (State.settle old s).arb y = s.arb y := by
  simp [State.settle]
@[simp] theorem State.arb_reply (q : Sender) (kind : Nat) (r : Reply) : (s.reply q kind r).arb y = s.arb y := rfl

/-! ### Barriers -/

@[simp] theorem State.arb_changeBar (b : Barrier) (reason : BarrierReason) (f : BarrierWork → BarrierWork) :
    (s.changeBar b reason f).arb y = s.arb y := by
  simp [State.changeBar]
@[simp] theorem State.arb_faultBar (b : Barrier) (cause : FaultCause) : (s.faultBar b cause).arb y = s.arb y := by
  simp [State.faultBar]
@[simp] theorem State.arb_judgeLowering (b : Barrier) : (s.judgeLowering b).arb y = s.arb y := by
  simp [State.judgeLowering]
@[simp] theorem State.arb_judgeKeepalive (b : Barrier) : (s.judgeKeepalive b).arb y = s.arb y := rfl
@[simp] theorem State.arb_failAction (b : Barrier) : (s.failAction b).arb y = s.arb y := by
  simp [State.failAction]
@[simp] theorem State.arb_place (b : Barrier) : (s.place b).arb y = s.arb y := by
  simp [State.place]
@[simp] theorem State.arb_permissiveRise (b : Barrier) : (s.permissiveRise b).arb y = s.arb y := by
  simp [State.permissiveRise]
@[simp] theorem State.arb_permissiveFall (b : Barrier) : (s.permissiveFall b).arb y = s.arb y := by
  simp [State.permissiveFall]
@[simp] theorem State.arb_closeDelayExpiry (b : Barrier) : (s.closeDelayExpiry b).arb y = s.arb y := by
  simp [State.closeDelayExpiry]
@[simp] theorem State.arb_motionTimeout (b : Barrier) : (s.motionTimeout b).arb y = s.arb y := by
  simp [State.motionTimeout]
@[simp] theorem State.arb_limitEvent (b : Barrier) (which : LimitSwitch) : (s.limitEvent b which).arb y = s.arb y := by
  unfold State.limitEvent; split <;> simp
@[simp] theorem State.arb_keepaliveToggle (b : Barrier) : (s.keepaliveToggle b).arb y = s.arb y := by
  simp [State.keepaliveToggle]
@[simp] theorem arb_serveSetBarrier (barrier failAction motionLimit closeDelay halfPeriod : Nat) :
    (serveSetBarrier barrier failAction motionLimit closeDelay halfPeriod r s).1.arb y = s.arb y := by
  unfold serveSetBarrier; split <;> simp
@[simp] theorem arb_serveBarrierReset (barrier : Nat) : (serveBarrierReset barrier r s).1.arb y = s.arb y := by
  unfold serveBarrierReset; split <;> simp [apply_ite Prod.fst]
@[simp] theorem arb_serveBarrierCommand (barrier action : Nat) :
    (serveBarrierCommand barrier action r s).1.arb y = s.arb y := by
  unfold serveBarrierCommand; split <;> simp [apply_ite Prod.fst]
@[simp] theorem arb_serveReadBarriers : (serveReadBarriers r s).1.arb y = s.arb y := rfl

/-! ### The frequency capture unit -/

@[simp] theorem State.arb_modChans (cs : List Channel) (f : ChannelWork → ChannelWork) :
    (s.modChans cs f).arb y = s.arb y :=
  s.arb_foldl y (fun t c => t.modChan c f) (fun _ _ => rfl) cs
@[simp] theorem State.arb_openWindow (d : Deck) (boundary : Nat) : (s.openWindow d boundary).arb y = s.arb y := by
  simp [State.openWindow]
@[simp] theorem State.arb_maybeOpen (d : Deck) : (s.maybeOpen d).arb y = s.arb y := by
  simp [State.maybeOpen]
@[simp] theorem State.arb_dropCounts (d : Deck) : (s.dropCounts d).arb y = s.arb y := by
  simp [State.dropCounts]
@[simp] theorem State.arb_judgeChannel (d : Deck) (window : Nat) (c : Channel) :
    (s.judgeChannel d window c).arb y = s.arb y := by
  simp only [State.judgeChannel]; split <;> simp
@[simp] theorem State.arb_windowClose (d : Deck) : (s.windowClose d).arb y = s.arb y := by
  unfold State.windowClose; split <;> simp
@[simp] theorem State.arb_closeDue (d : Deck) (n : Nat) : (s.closeDue d n).arb y = s.arb y := by
  induction n generalizing s with
  | zero => rfl
  | succ n ih => rw [State.closeDue, ih, State.arb_windowClose]
@[simp] theorem State.arb_shortRecord (d : Deck) : (s.shortRecord d).arb y = s.arb y := by
  unfold State.shortRecord; split <;> simp
@[simp] theorem State.arb_shortClose (d : Deck) : (s.shortClose d).arb y = s.arb y := by
  rw [State.shortClose, State.arb_shortRecord, State.arb_closeDue]

/-! ### Engines, captures and calibration -/

@[simp] theorem State.arb_dropCapture (d : Deck) (reason : FailReason) : (s.dropCapture d reason).arb y = s.arb y := by
  unfold State.dropCapture; split <;> simp
@[simp] theorem State.arb_failCollection (d : Deck) (reason : CalFailReason) :
    (s.failCollection d reason).arb y = s.arb y := by
  unfold State.failCollection; split <;> simp
@[simp] theorem State.arb_refreshEngine (d : Deck) (window : Option Nat) :
    (s.refreshEngine d window).arb y = s.arb y := by
  simp [State.refreshEngine]
@[simp] theorem State.arb_refreshActive (d : Deck) (window : Option Nat) :
    (s.refreshActive d window).arb y = s.arb y := by
  simp [State.refreshActive]
@[simp] theorem State.arb_failCapture (d : Deck) (reason : FailReason) (window : Option Nat) :
    (s.failCapture d reason window).arb y = s.arb y := by
  simp [State.failCapture]
@[simp] theorem State.arb_changeZd (d : Deck) (delta : Int) : (s.changeZd d delta).arb y = s.arb y := rfl
@[simp] theorem State.arb_latchZeroLimit (d : Deck) (positive : Bool) (window : Option Nat) :
    (s.latchZeroLimit d positive window).arb y = s.arb y := by
  simp [State.latchZeroLimit]
@[simp] theorem State.arb_advanceCounter : s.advanceCounter.arb y = s.arb y := rfl
@[simp] theorem State.arb_touchDeck (old : State) (window : Option Nat) (d : Deck) :
    (State.touchDeck old s window d).arb y = s.arb y := by
  simp [State.touchDeck]
@[simp] theorem State.arb_metroChange (old : State) (ds : List Deck) (window : Option Nat) :
    (State.metroChange old s ds window).arb y = s.arb y := by
  simp [State.metroChange]
@[simp] theorem State.arb_setChange (old : State) (r : CalRequest) (ds : List Deck) (ch : Option Channel) :
    (State.setChange old s r ds ch).arb y = s.arb y := by
  simp [State.setChange]
@[simp] theorem arb_serveSetProceedTime (deck seconds : Nat) :
    (serveSetProceedTime deck seconds r s).1.arb y = s.arb y := by
  unfold serveSetProceedTime; split <;> simp
@[simp] theorem State.arb_endCommandHold (b : Barrier) : (s.endCommandHold b).arb y = s.arb y := by
  simp [State.endCommandHold]
@[simp] theorem arb_serveReadDeckState (deck : Nat) : (serveReadDeckState deck r s).1.arb y = s.arb y := by
  unfold serveReadDeckState; split <;> simp
@[simp] theorem State.arb_storeMetrology (d : Deck) (m : Metrology) : (s.storeMetrology d m).arb y = s.arb y := by
  simp [State.storeMetrology]
@[simp] theorem arb_serveSetMetrology (deck mode max1 max2 e1 e2 window f sc : Nat) :
    (serveSetMetrology deck mode max1 max2 e1 e2 window f sc r s).1.arb y = s.arb y := by
  unfold serveSetMetrology; split <;> simp [apply_ite Prod.fst]
@[simp] theorem State.arb_writePair (r : CalRequest) (c : Channel) (f : ChannelCfg → ChannelCfg) :
    (s.writePair r c f).1.arb y = s.arb y := by
  simp [State.writePair, apply_ite Prod.fst]
@[simp] theorem arb_serveSetChannelFactor (channel k : Nat) :
    (serveSetChannelFactor channel k r s).1.arb y = s.arb y := by
  unfold serveSetChannelFactor; split <;> simp [apply_ite Prod.fst]
@[simp] theorem arb_serveSetChannelZero (channel z : Nat) : (serveSetChannelZero channel z r s).1.arb y = s.arb y := by
  unfold serveSetChannelZero; split <;> simp [apply_ite Prod.fst]
@[simp] theorem State.arb_startCollection (d : Deck) (k : CollectionKind) (origin : Port) :
    (s.startCollection d k origin).1.arb y = s.arb y := by
  unfold State.startCollection; split <;> simp
@[simp] theorem arb_serveCalZeroDeck (q : Sender) (deck : Nat) : (serveCalZeroDeck q deck r s).1.arb y = s.arb y := by
  unfold serveCalZeroDeck; split <;> simp
@[simp] theorem arb_serveCalSpanDeck (q : Sender) (deck : Nat) (load : Int) :
    (serveCalSpanDeck q deck load r s).1.arb y = s.arb y := by
  unfold serveCalSpanDeck; split <;> simp [apply_ite Prod.fst]
@[simp] theorem arb_serveAbortCalibration (deck : Nat) : (serveAbortCalibration deck r s).1.arb y = s.arb y := by
  unfold serveAbortCalibration; split <;> simp [apply_ite Prod.fst]
@[simp] theorem arb_serveReadCalibration (deck : Nat) : (serveReadCalibration deck r s).1.arb y = s.arb y := by
  unfold serveReadCalibration; split <;> simp
@[simp] theorem State.arb_takeCalSwitch : s.takeCalSwitch.arb y = s.arb y := by
  simp [State.takeCalSwitch]
@[simp] theorem State.arb_giveRelease (d : Deck) (n : Option Nat) : (s.giveRelease d n).arb y = s.arb y := rfl
@[simp] theorem arb_serveSetCaptureOptions (deck attempt n accept : Nat) :
    (serveSetCaptureOptions deck attempt n accept r s).1.arb y = s.arb y := by
  unfold serveSetCaptureOptions; split <;> simp
@[simp] theorem State.arb_startCapture (d : Deck) (origin : Option Port) :
    (s.startCapture d origin).arb y = s.arb y := by
  unfold State.startCapture; split <;> simp
@[simp] theorem arb_serveCapture (q : Sender) (deck : Nat) : (serveCapture q deck r s).1.arb y = s.arb y := by
  unfold serveCapture; split <;> simp [apply_ite Prod.fst]
@[simp] theorem arb_serveAbortCapture (deck : Nat) : (serveAbortCapture deck r s).1.arb y = s.arb y := by
  unfold serveAbortCapture; split <;> simp [apply_ite Prod.fst]
@[simp] theorem State.arb_recordsAbort (d : Deck) (number : Nat) : (s.recordsAbort d number).arb y = s.arb y := by
  simp [State.recordsAbort]
@[simp] theorem State.arb_attemptExpiry (d : Deck) : (s.attemptExpiry d).arb y = s.arb y := by
  simp only [State.attemptExpiry]; (repeat' split) <;> simp
@[simp] theorem State.arb_leaveDeckExpiry (d : Deck) : (s.leaveDeckExpiry d).arb y = s.arb y := by
  simp [State.leaveDeckExpiry]
@[simp] theorem State.arb_positioningEdge (d : Deck) (i : Input) (e : Edge) :
    (s.positioningEdge d i e).arb y = s.arb y := by
  simp only [State.positioningEdge]; (repeat' split) <;> simp
@[simp] theorem arb_serveZeroDeck (deck : Nat) : (serveZeroDeck deck r s).1.arb y = s.arb y := by
  simp only [serveZeroDeck]; (repeat' split) <;> simp
@[simp] theorem arb_serveReadCapture (deck : Nat) : (serveReadCapture deck r s).1.arb y = s.arb y := by
  unfold serveReadCapture; split <;> simp
@[simp] theorem State.arb_mapChannel (c : Channel) (m : Option Deck) (p : Edge) :
    (s.mapChannel c m p).arb y = s.arb y := by
  simp [State.mapChannel]
@[simp] theorem arb_serveSetChannelMap (channel map polarity : Nat) :
    (serveSetChannelMap channel map polarity r s).1.arb y = s.arb y := by
  unfold serveSetChannelMap; split <;> simp [apply_ite Prod.fst]
@[simp] theorem arb_serveSetChannelLimits (channel low high : Nat) :
    (serveSetChannelLimits channel low high r s).1.arb y = s.arb y := by
  unfold serveSetChannelLimits; split <;> simp [apply_ite Prod.fst]
@[simp] theorem arb_serveClearFaults (channel scope : Nat) :
    (serveClearFaults channel scope r s).1.arb y = s.arb y := by
  unfold serveClearFaults; split <;> simp
@[simp] theorem arb_serveReadChannels (deck : Nat) : (serveReadChannels deck r s).1.arb y = s.arb y := by
  simp only [serveReadChannels]; (repeat' split) <;> simp
@[simp] theorem State.arb_converterEdge (c : Channel) (e : Edge) : (s.converterEdge c e).arb y = s.arb y := by
  unfold State.converterEdge; split <;> simp

/-! ### Conditioners, lanes and lamps -/

@[simp] theorem State.arb_conditionerEdge (i : Input) : (s.conditionerEdge i).arb y = s.arb y := by
  simp [State.conditionerEdge]
@[simp] theorem arb_serveSetConditioner (input polarity debounce : Nat) :
    (serveSetConditioner input polarity debounce r s).1.arb y = s.arb y := by
  unfold serveSetConditioner; split <;> simp [apply_ite Prod.fst]
@[simp] theorem arb_serveReadInputs : (serveReadInputs r s).1.arb y = s.arb y := rfl
@[simp] theorem State.arb_stopLoopEdge (l : Lane) (e : Edge) : (s.stopLoopEdge l e).arb y = s.arb y := by
  unfold State.stopLoopEdge; split <;> simp
@[simp] theorem State.arb_stuckExpiry (l : Lane) : (s.stuckExpiry l).arb y = s.arb y := by
  simp [State.stuckExpiry]
@[simp] theorem State.arb_filingOrder (l : Lane) (number : Nat) (kind : FilingKind) (priority : Nat) :
    (s.filingOrder l number kind priority).arb y = s.arb y := by
  simp only [State.filingOrder]; split <;> simp
@[simp] theorem State.arb_absenceExpiry (l : Lane) : (s.absenceExpiry l).arb y = s.arb y := by
  unfold State.absenceExpiry; split <;> simp
@[simp] theorem State.arb_cancelOrder (l : Lane) (number : Nat) : (s.cancelOrder l number).arb y = s.arb y := by
  simp only [State.cancelOrder]; (repeat' split) <;> simp
@[simp] theorem State.arb_offerAtLane (l : Lane) (d : Deck) (number : Nat) :
    (s.offerAtLane l d number).arb y = s.arb y := by
  simp [State.offerAtLane]
@[simp] theorem State.arb_grantWithdrawn (l : Lane) (d : Deck) (number : Nat) (cause : WithdrawCause) :
    (s.grantWithdrawn l d number cause).arb y = s.arb y := by
  simp [State.grantWithdrawn]
@[simp] theorem State.arb_entryPassageAtLane (l : Lane) (d : Deck) : (s.entryPassageAtLane l d).arb y = s.arb y := by
  simp [State.entryPassageAtLane]
@[simp] theorem State.arb_modLamp (l : Lane) (k : Lamp) (f : LampWork → LampWork) :
    (s.modLamp l k f).arb y = s.arb y := rfl
@[simp] theorem arb_serveSetLaneTimers (lane absence stuck : Nat) :
    (serveSetLaneTimers lane absence stuck r s).1.arb y = s.arb y := by
  unfold serveSetLaneTimers; split <;> simp
@[simp] theorem State.arb_realign (l : Lane) (r : LaneFiling) (f : Feed) : (s.realign l r f).arb y = s.arb y := rfl
@[simp] theorem arb_serveSetLaneFeed (lane feed : Nat) : (serveSetLaneFeed lane feed r s).1.arb y = s.arb y := by
  simp only [serveSetLaneFeed]; (repeat' split) <;> simp
@[simp] theorem arb_serveSetLaneMode (lane mode : Nat) : (serveSetLaneMode lane mode r s).1.arb y = s.arb y := by
  simp only [serveSetLaneMode]; (repeat' split) <;> simp
@[simp] theorem arb_serveSetLamp (lane lamp source blink stretch : Nat) :
    (serveSetLamp lane lamp source blink stretch r s).1.arb y = s.arb y := by
  unfold serveSetLamp; split <;> simp
@[simp] theorem arb_serveSetSignalHead (lane period : Nat) :
    (serveSetSignalHead lane period r s).1.arb y = s.arb y := by
  unfold serveSetSignalHead; split <;> simp
@[simp] theorem arb_serveSetLampInvert (flag : Nat) : (serveSetLampInvert flag r s).1.arb y = s.arb y := by
  unfold serveSetLampInvert; split <;> simp
@[simp] theorem arb_serveReadLane (lane : Nat) : (serveReadLane lane r s).1.arb y = s.arb y := by
  unfold serveReadLane; split <;> simp

/-! ### The supervisor -/

@[simp] theorem State.arb_sample (x : Lines) : (s.sample x).arb y = s.arb y := by
  simp [State.sample, Input.all]
@[simp] theorem State.arb_firstLimits (x : Lines) (b : Barrier) : (s.firstLimits x b).arb y = s.arb y := by
  simp [State.firstLimits]
@[simp] theorem State.arb_changeMode (m : YardMode) (drain : Bool) : (s.changeMode m drain).arb y = s.arb y := rfl
@[simp] theorem State.arb_judgeDrain : s.judgeDrain.arb y = s.arb y := by
  simp [State.judgeDrain]
@[simp] theorem arb_serveSetYardMode (mode : Nat) : (serveSetYardMode mode r s).1.arb y = s.arb y := by
  simp only [serveSetYardMode]; (repeat' split) <;> simp
@[simp] theorem State.arb_modeAtCapture (d : Deck) (m : YardMode) : (s.modeAtCapture d m).arb y = s.arb y := by
  simp [State.modeAtCapture]
@[simp] theorem State.arb_modeTaken (r : ModeReader) (m : YardMode) : (s.modeTaken r m).arb y = s.arb y := by
  unfold State.modeTaken; split <;> simp
@[simp] theorem State.arb_qualify : s.qualify.arb y = s.arb y := by
  simp [State.qualify]
@[simp] theorem State.arb_startExpiry : s.startExpiry.arb y = s.arb y := by
  simp [State.startExpiry]
@[simp] theorem State.arb_enterSupplyLow : s.enterSupplyLow.arb y = s.arb y := by
  simp [State.enterSupplyLow]
@[simp] theorem State.arb_restoreSupply : s.restoreSupply.arb y = s.arb y := by
  simp [State.restoreSupply]
@[simp] theorem arb_serveYardReset (q : Sender) : (serveYardReset q r s).1.arb y = s.arb y := rfl
@[simp] theorem arb_serveSetAlarmMask (sources setting : Nat) :
    (serveSetAlarmMask sources setting r s).1.arb y = s.arb y := by
  unfold serveSetAlarmMask; split <;> simp
@[simp] theorem arb_serveReadSupervisor : (serveReadSupervisor r s).1.arb y = s.arb y := rfl
@[simp] theorem arb_serveListYard : (serveListYard r s).1.arb y = s.arb y := rfl
@[simp] theorem arb_serveReadTransaction (number : Nat) : (serveReadTransaction number r s).1.arb y = s.arb y := by
  unfold serveReadTransaction; split <;> simp
@[simp] theorem arb_serveFindPlate (plate : List Byte) : (serveFindPlate plate r s).1.arb y = s.arb y := by
  unfold serveFindPlate; split <;> simp

/-! ### The station ports -/

@[simp] theorem State.arb_judgeFrame (p : Port) (body : List Byte) : (s.judgeFrame p body).arb y = s.arb y := by
  simp only [State.judgeFrame]; (repeat' split) <;> simp
@[simp] theorem State.arb_frameComplete (p : Port) : (s.frameComplete p).arb y = s.arb y := by
  unfold State.frameComplete; split <;> simp
@[simp] theorem State.arb_character (p : Port) (c : Byte) (error : Bool) : (s.character p c error).arb y = s.arb y := by
  simp [State.character]
@[simp] theorem State.arb_frameSent (p : Port) : (s.frameSent p).arb y = s.arb y := by
  unfold State.frameSent; split <;> simp
@[simp] theorem State.arb_admitNotice (p : Port) (b : Block) : (s.admitNotice p b).arb y = s.arb y := rfl
@[simp] theorem arb_serveSetPortRate (q : Sender) (port rate : Nat) :
    (serveSetPortRate q port rate r s).1.arb y = s.arb y := by
  unfold serveSetPortRate; split <;> simp
@[simp] theorem arb_serveSetPortRole (port role : Nat) : (serveSetPortRole port role r s).1.arb y = s.arb y := by
  unfold serveSetPortRole; split <;> simp [apply_ite Prod.fst]
@[simp] theorem arb_serveBindKiosk (port lane : Nat) : (serveBindKiosk port lane r s).1.arb y = s.arb y := by
  unfold serveBindKiosk; split <;> simp [apply_ite Prod.fst]
@[simp] theorem arb_serveSetNoticeFloor (q : Sender) (floor : Nat) :
    (serveSetNoticeFloor q floor r s).1.arb y = s.arb y := rfl
@[simp] theorem arb_serveQuiet (q : Sender) (n : Nat) : (serveQuiet q n r s).1.arb y = s.arb y := rfl
@[simp] theorem arb_serveReadStatus (q : Sender) : (serveReadStatus q r s).1.arb y = s.arb y := rfl
@[simp] theorem arb_serveReadPorts : (serveReadPorts r s).1.arb y = s.arb y := rfl

/-! ### Records requests that change no record -/

@[simp] theorem arb_serveReadTare (plate : List Byte) : (serveReadTare plate r s).1.arb y = s.arb y := by
  unfold serveReadTare; split <;> simp
@[simp] theorem arb_serveListTares (start : Nat) : (serveListTares start r s).1.arb y = s.arb y := rfl
@[simp] theorem arb_serveSetTareValidity (lane days : Nat) :
    (serveSetTareValidity lane days r s).1.arb y = s.arb y := by
  unfold serveSetTareValidity; split <;> simp
@[simp] theorem arb_serveReadClock : (serveReadClock r s).1.arb y = s.arb y := rfl
@[simp] theorem arb_serveCollectNext : (serveCollectNext r s).1.arb y = s.arb y := by
  unfold serveCollectNext; split <;> simp
@[simp] theorem arb_serveReadTicket (number : Nat) : (serveReadTicket number r s).1.arb y = s.arb y := by
  unfold serveReadTicket; split <;> simp

/-! ### Windows at the engines -/

@[simp] theorem State.arb_takeWindow (w : WindowRecord) : (s.takeWindow w).1.arb y = s.arb y := by
  simp only [State.takeWindow]; split <;> simp [apply_ite Prod.fst]
@[simp] theorem State.arb_completeCapture (d : Deck) (c : Capture) (weight : Int) (e : Nat) (cls : WeighClass) (window : Nat) :
    (s.completeCapture d c weight e cls window).arb y = s.arb y := by
  simp [State.completeCapture]
@[simp] theorem State.arb_testStability (d : Deck) (c : Capture) (r : Reading) :
    (s.testStability d c r).arb y = s.arb y := by
  simp only [State.testStability]; (repeat' split) <;> simp
@[simp] theorem State.arb_modCapture (d : Deck) (f : Capture → Capture) : (s.modCapture d f).arb y = s.arb y := rfl
@[simp] theorem State.arb_offerCapture (d : Deck) (r : Reading) (marked : Bool) :
    (s.offerCapture d r marked).arb y = s.arb y := by
  unfold State.offerCapture; split <;> simp
@[simp] theorem State.arb_trackZero (d : Deck) (r : Reading) : (s.trackZero d r).arb y = s.arb y := by
  unfold State.trackZero; split <;> simp
@[simp] theorem State.arb_zeroCompletion (d : Deck) (k : Collection) (window : Nat) :
    (s.zeroCompletion d k window).arb y = s.arb y := by
  simp only [State.zeroCompletion, State.arb_post, State.arb_metroChange, State.arb_modEng, State.arb_modDeckCfg]
  refine s.arb_foldl y _ ?_ _
  exact fun _ _ => rfl
@[simp] theorem State.arb_spanCompletion (d : Deck) (k : Collection) (load : Int) (window : Nat) :
    (s.spanCompletion d k load window).arb y = s.arb y := by
  simp only [State.spanCompletion, State.arb_ite, State.arb_failCollection, State.arb_post, State.arb_metroChange,
    State.arb_modEng, ite_eq_left_iff]
  refine fun _ => s.arb_foldl y _ ?_ _
  exact fun _ _ => rfl
@[simp] theorem State.arb_putCollection (d : Deck) (k : Collection) : (s.putCollection d k).arb y = s.arb y := rfl
@[simp] theorem State.arb_offerCollection (d : Deck) (w : WindowRecord) (r : Reading) :
    (s.offerCollection d w r).arb y = s.arb y := by
  simp only [State.offerCollection]; (repeat' split) <;> simp
@[simp] theorem State.arb_engineWindow (w : WindowRecord) : (s.engineWindow w).arb y = s.arb y := by
  simp [State.engineWindow]
@[simp] theorem arb_serveSetOccupancy (deck threshold : Nat) :
    (serveSetOccupancy deck threshold r s).1.arb y = s.arb y := by
  unfold serveSetOccupancy; split <;> simp [apply_ite Prod.fst]
@[simp] theorem arb_serveReadDeck (deck : Nat) : (serveReadDeck deck r s).1.arb y = s.arb y := by
  unfold serveReadDeck; split <;> simp

/-! ### The yard records -/

@[simp] theorem State.arb_modEntry (n : Nat) (f : Entry → Entry) : (s.modEntry n f).arb y = s.arb y := rfl
@[simp] theorem State.arb_dropEntry (n : Nat) : (s.dropEntry n).arb y = s.arb y := rfl
@[simp] theorem State.arb_applyTare (w : TareWrite) : (s.applyTare w).arb y = s.arb y := by
  unfold State.applyTare; split <;> simp
@[simp] theorem State.arb_issue (t : Ticket) : (s.issue t).arb y = s.arb y := by
  simp [State.issue]
@[simp] theorem State.arb_attemptClosure (e : Entry) : (s.attemptClosure e).arb y = s.arb y := by
  simp only [State.attemptClosure]; (repeat' split) <;> simp
@[simp] theorem State.arb_retry : s.retry.arb y = s.arb y := by
  simp [State.retry]
@[simp] theorem State.arb_cancelOnDeck (e : Entry) : (s.cancelOnDeck e).arb y = s.arb y := by
  simp only [State.cancelOnDeck]; split <;> simp
@[simp] theorem State.arb_withdrawalReport (number : Nat) : (s.withdrawalReport number).arb y = s.arb y := by
  simp only [State.withdrawalReport]; (repeat' split) <;> simp
@[simp] theorem State.arb_entryPassageReport (d : Deck) (number : Nat) :
    (s.entryPassageReport d number).arb y = s.arb y := by
  simp only [State.entryPassageReport]; split <;> simp
@[simp] theorem State.arb_tareCompletion (e : Entry) (c : CaptureResult) : (s.tareCompletion e c).arb y = s.arb y := by
  simp only [State.tareCompletion]; (repeat' split) <;> simp
@[simp] theorem State.arb_afterWeighing (e : Entry) (c : CaptureResult) (p : Purpose) :
    (s.afterWeighing e c p).arb y = s.arb y := by
  simp only [State.afterWeighing]; split <;> simp
@[simp] theorem State.arb_captureCompletion (c : CaptureResult) : (s.captureCompletion c).arb y = s.arb y := by
  simp only [State.captureCompletion]; (repeat' split) <;> simp
@[simp] theorem State.arb_captureFailure (number : Nat) (reason : FailReason) :
    (s.captureFailure number reason).arb y = s.arb y := rfl
@[simp] theorem State.arb_exitPassageReport (number : Nat) : (s.exitPassageReport number).arb y = s.arb y := by
  unfold State.exitPassageReport; split <;> simp
theorem arb_onEntry (number : Nat) (f : Entry → State → State × Reply) (hf : ∀ e, (f e s).1.arb y = s.arb y) :
    (onEntry number f r s).1.arb y = s.arb y := by
  simp only [onEntry]; (repeat' split) <;> simp [hf]
@[simp] theorem arb_serveIdentify (q : Sender) (lane : Nat) (plate : List Byte) (tag : Option Nat)
    (mode account material intent priority : Nat) :
    (serveIdentify q lane plate tag mode account material intent priority r s).1.arb y = s.arb y := by
  simp only [serveIdentify, State.admission, State.recallEntry]; (repeat' split) <;> simp
@[simp] theorem arb_serveHold (q : Sender) (number reason : Nat) : (serveHold q number reason r s).1.arb y = s.arb y :=
  arb_onEntry s y r number _ fun _ => by split <;> simp
@[simp] theorem arb_serveReleaseHold (number : Nat) : (serveReleaseHold number r s).1.arb y = s.arb y :=
  arb_onEntry s y r number _ fun _ => by split <;> simp
@[simp] theorem arb_serveAmend (number : Nat) (account : Option Nat) (line : Option (Nat × Nat)) :
    (serveAmend number account line r s).1.arb y = s.arb y :=
  arb_onEntry s y r number _ fun _ => by dsimp only; (repeat' split) <;> simp
@[simp] theorem arb_serveCancel (number : Nat) : (serveCancel number r s).1.arb y = s.arb y :=
  arb_onEntry s y r number _ fun _ => by dsimp only; (repeat' split) <;> simp
@[simp] theorem arb_serveQuarantine (number : Nat) : (serveQuarantine number r s).1.arb y = s.arb y :=
  arb_onEntry s y r number _ fun _ => by (repeat' split) <;> simp
@[simp] theorem arb_serveClose (number : Nat) : (serveClose number r s).1.arb y = s.arb y :=
  arb_onEntry s y r number _ fun _ => by (repeat' split) <;> simp
@[simp] theorem arb_serveForceExit (number : Nat) : (serveForceExit number r s).1.arb y = s.arb y :=
  arb_onEntry s y r number _ fun _ => by dsimp only; (repeat' split) <;> simp
@[simp] theorem arb_serveStoreTare (plate : List Byte) (tag : Option Nat) (weight : Int) (cls validity account : Nat) :
    (serveStoreTare plate tag weight cls validity account r s).1.arb y = s.arb y := by
  simp only [serveStoreTare]; (repeat' split) <;> simp
@[simp] theorem arb_serveDeleteTare (plate : List Byte) : (serveDeleteTare plate r s).1.arb y = s.arb y := by
  unfold serveDeleteTare; split <;> simp
@[simp] theorem arb_serveSetClock (year month day hour minute second : Nat) :
    (serveSetClock year month day hour minute second r s).1.arb y = s.arb y := by
  simp only [serveSetClock]; split <;> simp
@[simp] theorem arb_serveSetTicketBase (n : Nat) : (serveSetTicketBase n r s).1.arb y = s.arb y := by
  unfold serveSetTicketBase; (repeat' split) <;> simp
@[simp] theorem arb_serveVoidTicket (number reason : Nat) : (serveVoidTicket number reason r s).1.arb y = s.arb y := by
  unfold serveVoidTicket; (repeat' split) <;> simp
@[simp] theorem arb_serveConfirmCollected (n : Nat) : (serveConfirmCollected n r s).1.arb y = s.arb y := by
  simp only [serveConfirmCollected]; (repeat' split) <;> simp
end

end Sys2Proof.Machine
end

section
/-! SUPPORT. The law of a deck arbiter under every operation of the arbiters (R107, R115). -/

namespace Sys2Proof.Machine

/-! ### The law of one arbiter -/

section
variable {a : Arbiter}

/-- A deck that is neither GRANTED nor OCCUPIED keeps the law where it holds neither a grant nor a current transaction. -/
theorem Arbiter.Law.of_vacant (hoffer : a.offer.isSome = true → a.state = .free) (hgrant : a.grant = none)
    (hcurrent : a.current = none) (hs : a.state ≠ .granted ∧ a.state ≠ .occupied) : a.Law where
  offer := hoffer
  grant := by simp [hgrant, hs.1]
  current := by simp [hcurrent, hs.2]
  timer := by simp [hgrant]

variable (h : a.Law)
include h

theorem Arbiter.Law.offer_none (hs : a.state ≠ .free) : a.offer = none :=
  Option.not_isSome_iff_eq_none.mp (mt h.offer hs)
theorem Arbiter.Law.grant_none (hs : a.state ≠ .granted) : a.grant = none :=
  Option.not_isSome_iff_eq_none.mp (mt h.grant.mp hs)
theorem Arbiter.Law.current_none (hs : a.state ≠ .occupied) : a.current = none :=
  Option.not_isSome_iff_eq_none.mp (mt h.current.mp hs)
theorem Arbiter.Law.offered {l : Lane} {number : Nat} (ho : a.offers l number = true) : a.state = .free :=
  h.offer (by rw [beq_iff_eq.mp ho]; rfl)

/-- A deck that leaves a state other than GRANTED and OCCUPIED for another such state, its offer dropped or FREE entered. -/
theorem Arbiter.Law.move {a' : Arbiter} (hgrant : a'.grant = a.grant) (hcurrent : a'.current = a.current)
    (hoffer : a'.offer.isSome = true → a'.state = .free) (hold : a.state ≠ .granted ∧ a.state ≠ .occupied)
    (hnew : a'.state ≠ .granted ∧ a'.state ≠ .occupied) : a'.Law :=
  .of_vacant hoffer (hgrant.trans (h.grant_none hold.1)) (hcurrent.trans (h.current_none hold.2)) hnew

theorem Arbiter.Law.setSlot (l : Lane) (p : Option Pending) : (a.setSlot l p).Law := ⟨h.offer, h.grant, h.current, h.timer⟩
theorem Arbiter.Law.setRisen (b : Bool) : ({ a with entryRisen := b } : Arbiter).Law :=
  ⟨h.offer, h.grant, h.current, h.timer⟩
theorem Arbiter.Law.setTailgate (b : Bool) : ({ a with tailgate := b } : Arbiter).Law :=
  ⟨h.offer, h.grant, h.current, h.timer⟩
theorem Arbiter.Law.setWatch (b : Bool) : ({ a with watch := b } : Arbiter).Law := ⟨h.offer, h.grant, h.current, h.timer⟩
theorem Arbiter.Law.dropOffer : ({ a with offer := none } : Arbiter).Law := ⟨nofun, h.grant, h.current, h.timer⟩

theorem Arbiter.Law.dropLane (l : Lane) : (a.dropLane l).Law := by
  refine ⟨fun ho => h.offer ?_, h.grant, h.current, h.timer⟩
  unfold Arbiter.dropLane at ho
  split at ho
  · cases ho
  · exact ho

theorem Arbiter.Law.makeOffer (hs : a.state = .free) (o : Offer) : ({ a with offer := some o } : Arbiter).Law :=
  ⟨fun _ => hs, h.grant, h.current, h.timer⟩

/-- A deck that holds the offer becomes GRANTED with its proceed timer loaded (R113). -/
theorem Arbiter.Law.accept (hs : a.state = .free) (l : Lane) (number time : Nat) :
    ({ a.setSlot l none with
       state := .granted, offer := none, last := some l
       grant := some { lane := l, number := number, arrived := false, late := false, timer := some time } } : Arbiter).Law
    where
  offer := nofun
  grant := by simp
  current := by simp [Arbiter.setSlot, h.current, hs]
  timer := by rintro _ ⟨⟩; rfl

/-- A grant may change, if its timer still runs exactly until the arrival (R115). -/
theorem Arbiter.Law.putGrant {g g' : Grant} (hg : a.grant = some g) (htimer : g'.arrived = g'.timer.isNone) :
    ({ a with grant := some g' } : Arbiter).Law where
  offer := h.offer
  grant := by simp [h.granted hg]
  current := h.current
  timer := by rintro _ ⟨⟩; exact htimer

theorem Arbiter.Law.mapGrant {f : Grant → Grant} (hf : ∀ g, g.arrived = g.timer.isNone → (f g).arrived = (f g).timer.isNone) :
    ({ a with grant := a.grant.map f } : Arbiter).Law := by
  cases hg : a.grant with
  | none => rw [Option.map_none, ← hg]; exact h
  | some g => exact h.putGrant hg (hf g (h.timer g hg))

theorem Arbiter.Law.mapCurrent (f : Current → Current) : ({ a with current := a.current.map f } : Arbiter).Law :=
  ⟨h.offer, h.grant, by simpa using h.current, h.timer⟩

/-- A grant is withdrawn, and the deck is FREE (R115). -/
theorem Arbiter.Law.withdrawGrant {g : Grant} (hg : a.grant = some g) :
    ({ a with state := .free, grant := none } : Arbiter).Law :=
  .of_vacant (fun _ => rfl) rfl (h.current_of_granted (h.granted hg)) ⟨nofun, nofun⟩

end

/-! ### The operations of the arbiters -/

/-- `t` holds the law of the arbiters wherever `s` does. -/
structure State.KeepsArbiters (s t : State) : Prop where
  law : ∀ d, (s.arb d).Law → (t.arb d).Law

namespace State.KeepsArbiters

theorem refl (s : State) : s.KeepsArbiters s := ⟨fun _ => id⟩

theorem trans {s t u : State} (h : s.KeepsArbiters t) (k : t.KeepsArbiters u) : s.KeepsArbiters u :=
  ⟨fun d => k.law d ∘ h.law d⟩

theorem ite {s t u : State} {c : Prop} [Decidable c] (ht : c → s.KeepsArbiters t) (hu : ¬ c → s.KeepsArbiters u) :
    s.KeepsArbiters (if c then t else u) := by
  split
  · exact ht ‹_›
  · exact hu ‹_›

theorem of_arb {s t : State} (h : ∀ d, t.arb d = s.arb d) : s.KeepsArbiters t :=
  ⟨fun d hlaw => by rwa [h d]⟩

section
variable (s : State) (d : Deck)

theorem modArb (f : Arbiter → Arbiter) (hf : (s.arb d).Law → (f (s.arb d)).Law) : s.KeepsArbiters (s.modArb d f) := by
  refine ⟨fun e => ?_⟩
  by_cases he : e = d
  · rwa [he, State.arb_modArb_self]
  · rw [State.arb_modArb_ne s d f he]
    exact id

theorem changeArb (f : Arbiter → Arbiter) (hf : (s.arb d).Law → (f (s.arb d)).Law) : s.KeepsArbiters (s.changeArb d f) := by
  refine ⟨fun e => ?_⟩
  by_cases he : e = d
  · rwa [he, State.arb_changeArb_self]
  · rw [State.arb_changeArb_ne s f he]
    exact id

/-! ### Offers and grants (R109 to R115) -/

theorem makeChoice : s.KeepsArbiters (s.makeChoice d) := by
  unfold State.makeChoice
  refine ite (fun _ => refl s) fun hready => ?_
  split
  · exact refl s
  · exact (modArb s d _ fun h => h.makeOffer (not_not.mp (not_or.mp hready).1) _).trans (of_arb fun _ => rfl)

theorem withdrawal (l : Lane) : s.KeepsArbiters (s.withdrawal d l) := by
  have hdrop : s.KeepsArbiters (s.modArb d fun a => a.dropLane l) := modArb s d _ fun h => h.dropLane l
  unfold State.withdrawal
  split
  · exact hdrop
  next g hg =>
  have hkept : ((s.modArb d fun a => a.dropLane l).arb d).grant = some g := by rw [State.arb_modArb_self]; exact hg
  refine ite (fun _ => hdrop) fun _ => hdrop.trans (ite (fun _ => ?_) fun _ => ?_)
  · exact modArb _ d _ fun h => h.putGrant hkept (h.timer g hkept)
  · exact (changeArb _ d _ fun h => h.withdrawGrant hkept).trans (of_arb fun _ => rfl)

theorem acceptance (l : Lane) (number : Nat) : s.KeepsArbiters (s.acceptance d l number) := by
  refine ite (fun hoffer => ite (fun _ => ?_) fun _ => ?_) fun _ => ?_
  · exact (modArb s d _ fun h => (h.setSlot l none).dropOffer).trans (of_arb fun _ => rfl)
  · exact changeArb s d _ fun h => h.accept (h.offered hoffer) ..
  · exact (modArb s d _ fun h => h.setSlot l none).trans (of_arb fun _ => rfl)

theorem decline (l : Lane) (number : Nat) : s.KeepsArbiters (s.decline d l number) := by
  have hdrop : s.KeepsArbiters (s.modArb d fun a => { a.setSlot l none with offer := none }) :=
    modArb s d _ fun h => (h.setSlot l none).dropOffer
  exact ite (fun _ => hdrop.trans (makeChoice ..)) fun _ => refl s

theorem withdrawGrant (cause : WithdrawCause) : s.KeepsArbiters (s.withdrawGrant d cause) := by
  unfold State.withdrawGrant
  split
  · exact refl s
  next g hg =>
  exact ite (fun _ => refl s) fun _ => (changeArb s d _ fun h => h.withdrawGrant hg).trans (of_arb fun _ => rfl)

theorem proceedTimeout : s.KeepsArbiters (s.proceedTimeout d) := ite (fun _ => withdrawGrant ..) fun _ => refl s

/-! ### Passages (R115 to R120) -/

theorem entryRise : s.KeepsArbiters (s.entryRise d) := by
  have hrisen : s.KeepsArbiters (s.modArb d fun a => { a with entryRisen := a.state != .occupied || s.watching d }) :=
    modArb s d _ fun h => h.setRisen _
  unfold State.entryRise
  dsimp only
  split
  · refine hrisen.trans (modArb _ d _ fun h => h.mapGrant fun g hg => ?_)
    split
    · exact hg
    · rfl
  · exact ite (fun _ => hrisen) fun _ => (hrisen.trans (modArb _ d _ fun h => (h.setTailgate true).setWatch false)).trans
      (of_arb fun _ => rfl)
  all_goals exact hrisen

theorem entryPassage {g : Grant} (hg : (s.arb d).grant = some g) : s.KeepsArbiters (s.entryPassage d g) := by
  refine (changeArb s d _ fun h => ?_).trans (of_arb fun _ => rfl)
  have hoffer : (s.arb d).offer = none := h.offer_none (by rw [h.granted hg]; nofun)
  exact ⟨by simp [hoffer], by simp, by simp, by simp⟩

theorem intrusion (hs : (s.arb d).state ≠ .granted ∧ (s.arb d).state ≠ .occupied) : s.KeepsArbiters (s.intrusion d) :=
  (changeArb s d _ fun h => h.move rfl rfl (by simp) hs (by simp)).trans (of_arb fun _ => rfl)

theorem entryFall : s.KeepsArbiters (s.entryFall d) := by
  have hrisen : s.KeepsArbiters (s.modArb d fun a => { a with entryRisen := false }) :=
    modArb s d _ fun h => h.setRisen false
  have harb : (s.modArb d fun a => { a with entryRisen := false }).arb d = { s.arb d with entryRisen := false } :=
    State.arb_modArb_self ..
  have hintrusion : (s.arb d).state ≠ .granted ∧ (s.arb d).state ≠ .occupied →
      s.KeepsArbiters ((s.modArb d fun a => { a with entryRisen := false }).intrusion d) := fun hs =>
    hrisen.trans (intrusion _ d (by rwa [harb]))
  unfold State.entryFall
  dsimp only
  split
  · split
    · next g hg =>
      have hkept : ((s.modArb d fun a => { a with entryRisen := false }).arb d).grant = some g := by rw [harb]; exact hg
      refine hrisen.trans (ite (fun _ => entryPassage _ d hkept) fun _ => modArb _ d _ fun h => ?_)
      exact h.putGrant hkept (h.timer g hkept)
    · exact hrisen
  · next hs => exact ite (fun _ => hintrusion (by simp [hs])) fun _ => hrisen
  · next hs => exact ite (fun _ => hintrusion (by simp [hs])) fun _ => hrisen
  all_goals exact hrisen

theorem exitFall : s.KeepsArbiters (s.exitFall d) := by
  unfold State.exitFall
  split
  · exact refl s
  refine ite (fun _ => refl s) fun hleft => (changeArb s d _ fun h => ?_).trans (of_arb fun _ => rfl)
  have hs : (s.arb d).state = .occupied := not_not.mp (not_or.mp hleft).1
  have hoffer : (s.arb d).offer = none := h.offer_none (by rw [hs]; nofun)
  exact .of_vacant (by simp [hoffer]) (h.grant_none (by rw [hs]; nofun)) rfl (by simp)

theorem modCurrent (number : Nat) (f : Current → Current) : s.KeepsArbiters (s.modCurrent d number f) :=
  modArb s d _ fun h => h.mapCurrent _

theorem exitRelease (number : Option Nat) : s.KeepsArbiters (s.exitRelease d number) :=
  modArb s d _ fun h => h.mapCurrent _

theorem forceExitNotice (number : Nat) : s.KeepsArbiters (s.forceExitNotice d number) :=
  modArb s d _ fun h => by
    split
    · exact h.setTailgate false
    · exact h

/-- An entry barrier that begins to close marks the grant of its deck (R119, log 18). -/
theorem barrierLoopEdge (b : Barrier) (e : Edge) : s.KeepsArbiters (s.barrierLoopEdge b e) := by
  have hmark : ∀ (t : State) old, t.KeepsArbiters (t.markClosing b old) := fun t old =>
    ite (fun _ => modArb t b.deck _ fun h => h.mapGrant fun _ hg => hg) fun _ => refl t
  cases e with
  | rising => exact of_arb fun _ => by simp [State.barrierLoopEdge]
  | falling => exact trans (of_arb fun _ => by simp) (hmark _ _)

/-! ### Clearing, recovery and service (R119, R121, R122) -/

theorem deckEmpty : s.KeepsArbiters (s.deckEmpty d) :=
  ite (fun hs => changeArb s d _ fun h => h.move rfl rfl (fun _ => rfl) (by rcases hs.1 with hs | hs <;> simp [hs])
    (by simp)) fun _ => refl s

theorem barrierStateTaken (reader : BarrierReader) (b : Barrier) (st : BarrierState) :
    s.KeepsArbiters (s.barrierStateTaken reader b st) := by
  have hset : s.KeepsArbiters (s.setBoomAt reader b st) := of_arb fun _ => rfl
  cases reader with
  | arbiter => exact ite (fun _ => hset.trans (modArb _ b.deck _ fun h => h.setWatch false)) fun _ => hset
  | lane l => exact ite (fun _ => hset.trans (of_arb fun _ => rfl)) fun _ => hset
  | supervisor => exact hset

theorem takeOut (hs : (s.arb d).state ≠ .granted ∧ (s.arb d).state ≠ .occupied)
    (hoffer : (s.arb d).state = .free → (s.arb d).offer = none) :
    s.KeepsArbiters (s.changeArb d fun a => { a with state := .outOfService }) :=
  changeArb s d _ fun h => h.move rfl rfl (fun ho => by simp [hoffer (h.offer ho)] at ho) hs (by simp)

theorem returnToService (hs : (s.arb d).state = .outOfService) : s.KeepsArbiters (s.returnToService d) := by
  have hrecover : s.KeepsArbiters (s.changeArb d fun a => { a with state := .recover }) :=
    changeArb s d _ fun h => h.move rfl rfl (by simp [h.offer_none, hs]) (by simp [hs]) (by simp)
  exact (hrecover.trans (of_arb fun _ => by simp)).trans (deckEmpty ..)

end

end State.KeepsArbiters

end Sys2Proof.Machine
end

section
/-! SUPPORT. Every command keeps the law of the deck arbiters (R107, R115). -/

namespace Sys2Proof.Machine

namespace State.KeepsArbiters

section
variable (s : State)

/-! ### Readers, requests, ticks and starts -/

theorem supplyTaken (r : SupplyReader) (st : SupplyState) : s.KeepsArbiters (s.supplyTaken r st) := by
  have hset : s.KeepsArbiters (s.setSupplyAt r st) := of_arb fun _ => rfl
  cases r with
  | engine d => exact ite (fun _ => hset.trans (of_arb fun _ => by simp)) fun _ => hset
  | arbiter d => exact ite (fun _ => hset.trans (withdrawGrant ..)) fun _ => hset
  | barrier b => exact hset.trans (of_arb fun _ => rfl)

theorem ite_fst {s : State} {x y : State × Reply} {c : Prop} [Decidable c] (hx : c → s.KeepsArbiters x.1)
    (hy : ¬ c → s.KeepsArbiters y.1) : s.KeepsArbiters (if c then x else y).1 := by
  rw [apply_ite Prod.fst]
  exact ite hx hy

theorem serveClearTailgate (r : Role) (deck : Nat) : s.KeepsArbiters (serveClearTailgate deck r s).1 := by
  unfold Machine.serveClearTailgate
  split
  · exact refl s
  · exact ite_fst (fun _ => refl s) fun _ => ite_fst (fun _ => refl s) fun _ => modArb s _ _ fun h => h.setTailgate false

theorem serveSetDeckService (r : Role) (deck setting : Nat) : s.KeepsArbiters (serveSetDeckService deck setting r s).1 := by
  unfold Machine.serveSetDeckService
  split
  · split
    · next hs =>
      exact ite_fst (fun _ => refl s) fun hoffer => takeOut s _ (by simp [hs]) fun _ => by simpa using hoffer
    · next hs => exact takeOut s _ (by simp [hs]) (by simp [hs])
    · next hs => exact takeOut s _ (by simp [hs]) (by simp [hs])
    all_goals exact refl s
  · exact ite_fst (fun hs => returnToService s _ hs) fun _ => refl s
  · exact refl s

theorem tick (m : TickMark) (x : Lines) : s.KeepsArbiters (s.tick m x) := by
  have hcounted : s.KeepsArbiters (s.counted m x) := by
    refine ⟨fun d h => ?_⟩
    rw [State.arb_counted]
    exact h.mapGrant fun g hg => by simp [hg, countDown]
  have hopen := hcounted.trans (of_arb (t := (s.counted m x).openBoth) fun d => State.arb_openBoth _ d)
  rw [State.tick_eq]
  exact ite (fun _ => hopen.trans (of_arb fun _ => by simp)) fun _ => hopen

theorem watchExpiry (x : Lines) : s.KeepsArbiters (s.watchExpiry x) :=
  ite (fun _ => refl s) fun _ => (tick ..).trans (of_arb fun _ => rfl)

theorem restart (x : Start) (cause : ResetCause) : s.KeepsArbiters (s.restart x cause) := by
  refine ⟨fun d _ => ?_⟩
  rw [State.arb_restart]
  exact .of_vacant nofun rfl rfl (by simp)

end

/-! ### The taking of commands -/

theorem of_next {s u t : State} (h : (.next u : Outcome) = .next t) (hu : s.KeepsArbiters u) : s.KeepsArbiters t :=
  Host.Outcome.next.inj h ▸ hu

section
variable {c : Instr} {s t : State}

theorem event {f : State → State} (hc : exec c s = Machine.event c f s) (hf : ∀ s : State, s.KeepsArbiters (f s))
    (h : exec c s = .next t) : s.KeepsArbiters t := by
  refine of_next (hc.symm.trans h) (ite (fun _ => ?_) fun _ => refl s)
  have htaken : s.KeepsArbiters (s.consume c) := of_arb fun _ => rfl
  exact (htaken.trans (hf _)).trans (of_arb fun _ => by simp)

theorem request {q : Sender} {f : Serve} (hc : exec c s = Machine.request c q f s)
    (hf : ∀ (r : Role) (s : State), s.KeepsArbiters (f r s).1) (h : exec c s = .next t) : s.KeepsArbiters t := by
  have hserved : ∀ (u : State) (r : Role), (∀ d, u.arb d = s.arb d) → s.KeepsArbiters (u.serveHand q c.requestCode f r) :=
    fun u r hu => ((of_arb hu).trans (hf r u)).trans (of_arb fun _ => rfl)
  refine of_next (hc.symm.trans h) (ite (fun _ => trans ?_ (of_arb fun d => State.arb_settle _ d s)) fun _ => refl s)
  unfold State.takeRequest
  exact ite (fun _ => hserved _ _ fun _ => rfl) fun _ => ite (fun _ => of_arb fun _ => rfl) fun _ =>
    ite (fun _ => of_arb fun _ => rfl) fun _ => hserved _ _ fun _ => rfl

/-- An event that is not of the arbiters. -/
theorem event_framed {f : State → State} (hc : exec c s = Machine.event c f s) (hf : ∀ (s : State) d, (f s).arb d = s.arb d)
    (h : exec c s = .next t) : s.KeepsArbiters t :=
  event hc (fun s => of_arb (hf s)) h

/-- A request that is not of the arbiters. -/
theorem request_framed {q : Sender} {f : Serve} (hc : exec c s = Machine.request c q f s)
    (hf : ∀ (r : Role) (s : State) d, (f r s).1.arb d = s.arb d) (h : exec c s = .next t) : s.KeepsArbiters t :=
  request hc (fun r s => of_arb (hf r s)) h

end

/-- Of the requests only SET_DECK_SERVICE and CLEAR_TAILGATE change an arbiter. -/
theorem exec_request (c : Instr) (hc : c.spelling.isSome = true) (s t : State) (h : exec c s = .next t) :
    s.KeepsArbiters t := by
  cases c with
  | setDeckService => exact request (exec_setDeckService ..) (fun r s => serveSetDeckService s r ..) h
  | clearTailgate => exact request (exec_clearTailgate ..) (fun r s => serveClearTailgate s r ..) h
  | setMetrology => exact request_framed (exec_setMetrology ..) (by simp) h
  | setChannelFactor => exact request_framed (exec_setChannelFactor ..) (by simp) h
  | setChannelZero => exact request_framed (exec_setChannelZero ..) (by simp) h
  | calZeroDeck => exact request_framed (exec_calZeroDeck ..) (by simp) h
  | calSpanDeck => exact request_framed (exec_calSpanDeck ..) (by simp) h
  | abortCalibration => exact request_framed (exec_abortCalibration ..) (by simp) h
  | capture => exact request_framed (exec_capture ..) (by simp) h
  | abortCapture => exact request_framed (exec_abortCapture ..) (by simp) h
  | zeroDeck => exact request_framed (exec_zeroDeck ..) (by simp) h
  | setChannelMap => exact request_framed (exec_setChannelMap ..) (by simp) h
  | identify => exact request_framed (exec_identify ..) (by simp) h
  | hold => exact request_framed (exec_hold ..) (by simp) h
  | releaseHold => exact request_framed (exec_releaseHold ..) (by simp) h
  | amend => exact request_framed (exec_amend ..) (by simp) h
  | cancelTransaction => exact request_framed (exec_cancelTransaction ..) (by simp) h
  | quarantine => exact request_framed (exec_quarantine ..) (by simp) h
  | close => exact request_framed (exec_close ..) (by simp) h
  | forceExit => exact request_framed (exec_forceExit ..) (by simp) h
  | storeTare => exact request_framed (exec_storeTare ..) (by simp) h
  | deleteTare => exact request_framed (exec_deleteTare ..) (by simp) h
  | setClock => exact request_framed (exec_setClock ..) (by simp) h
  | setTicketBase => exact request_framed (exec_setTicketBase ..) (by simp) h
  | voidTicket => exact request_framed (exec_voidTicket ..) (by simp) h
  | confirmCollected => exact request_framed (exec_confirmCollected ..) (by simp) h
  | setProceedTime => exact request_framed (exec_setProceedTime ..) (by simp) h
  | readDeckState => exact request_framed (exec_readDeckState ..) (by simp) h
  | setBarrier => exact request_framed (exec_setBarrier ..) (by simp) h
  | barrierReset => exact request_framed (exec_barrierReset ..) (by simp) h
  | barrierCommand => exact request_framed (exec_barrierCommand ..) (by simp) h
  | readBarriers => exact request_framed (exec_readBarriers ..) (by simp) h
  | readCalibration => exact request_framed (exec_readCalibration ..) (by simp) h
  | setCaptureOptions => exact request_framed (exec_setCaptureOptions ..) (by simp) h
  | readCapture => exact request_framed (exec_readCapture ..) (by simp) h
  | setChannelLimits => exact request_framed (exec_setChannelLimits ..) (by simp) h
  | clearFaults => exact request_framed (exec_clearFaults ..) (by simp) h
  | readChannels => exact request_framed (exec_readChannels ..) (by simp) h
  | setConditioner => exact request_framed (exec_setConditioner ..) (by simp) h
  | readInputs => exact request_framed (exec_readInputs ..) (by simp) h
  | setLaneTimers => exact request_framed (exec_setLaneTimers ..) (by simp) h
  | setLaneFeed => exact request_framed (exec_setLaneFeed ..) (by simp) h
  | setLaneMode => exact request_framed (exec_setLaneMode ..) (by simp) h
  | setLamp => exact request_framed (exec_setLamp ..) (by simp) h
  | setSignalHead => exact request_framed (exec_setSignalHead ..) (by simp) h
  | setLampInvert => exact request_framed (exec_setLampInvert ..) (by simp) h
  | readLane => exact request_framed (exec_readLane ..) (by simp) h
  | setPortRate => exact request_framed (exec_setPortRate ..) (by simp) h
  | setPortRole => exact request_framed (exec_setPortRole ..) (by simp) h
  | bindKiosk => exact request_framed (exec_bindKiosk ..) (by simp) h
  | setNoticeFloor => exact request_framed (exec_setNoticeFloor ..) (by simp) h
  | quiet => exact request_framed (exec_quiet ..) (by simp) h
  | readStatus => exact request_framed (exec_readStatus ..) (by simp) h
  | readPorts => exact request_framed (exec_readPorts ..) (by simp) h
  | setYardMode => exact request_framed (exec_setYardMode ..) (by simp) h
  | yardReset => exact request_framed (exec_yardReset ..) (by simp) h
  | setAlarmMask => exact request_framed (exec_setAlarmMask ..) (by simp) h
  | readSupervisor => exact request_framed (exec_readSupervisor ..) (by simp) h
  | readTare => exact request_framed (exec_readTare ..) (by simp) h
  | listTares => exact request_framed (exec_listTares ..) (by simp) h
  | setTareValidity => exact request_framed (exec_setTareValidity ..) (by simp) h
  | readClock => exact request_framed (exec_readClock ..) (by simp) h
  | collectNext => exact request_framed (exec_collectNext ..) (by simp) h
  | readTicket => exact request_framed (exec_readTicket ..) (by simp) h
  | setOccupancy => exact request_framed (exec_setOccupancy ..) (by simp) h
  | readDeck => exact request_framed (exec_readDeck ..) (by simp) h
  | listYard => exact request_framed (exec_listYard ..) (by simp) h
  | readTransaction => exact request_framed (exec_readTransaction ..) (by simp) h
  | findPlate => exact request_framed (exec_findPlate ..) (by simp) h
  | _ => cases hc

theorem exec_event (c : Instr) (hc : c.spelling.isSome = false) (s t : State) (h : exec c s = .next t) :
    s.KeepsArbiters t := by
  cases c with
  | filing d l => exact event (exec_filing ..) (fun s => modArb s d _ fun h => h.setSlot l _) h
  | choice => exact event (exec_choice ..) (fun s => makeChoice s ..) h
  | withdrawal => exact event (exec_withdrawal ..) (fun s => withdrawal s ..) h
  | acceptance => exact event (exec_acceptance ..) (fun s => acceptance s ..) h
  | decline => exact event (exec_decline ..) (fun s => decline s ..) h
  | proceedTimeout => exact event (exec_proceedTimeout ..) (fun s => proceedTimeout s ..) h
  | entryLoopEdgeAtArbiter d e =>
    cases e with
    | rising => exact event (exec_entryLoopEdgeAtArbiter d .rising s) (fun s => entryRise s d) h
    | falling => exact event (exec_entryLoopEdgeAtArbiter d .falling s) (fun s => entryFall s d) h
  | exitLoopEdgeAtArbiter d e =>
    cases e with
    | rising => exact event (exec_exitLoopEdgeAtArbiter d .rising s) refl h
    | falling => exact event (exec_exitLoopEdgeAtArbiter d .falling s) (fun s => exitFall s d) h
  | exitReleaseAtArbiter => exact event (exec_exitReleaseAtArbiter ..) (fun s => exitRelease s ..) h
  | captureCompletionAtArbiter => exact event (exec_captureCompletionAtArbiter ..) (fun s => modCurrent s ..) h
  | captureFailureAtArbiter => exact event (exec_captureFailureAtArbiter ..) (fun s => modCurrent s ..) h
  | forceExitNoticeAtArbiter => exact event (exec_forceExitNoticeAtArbiter ..) (fun s => forceExitNotice s ..) h
  | deckEmpty => exact event (exec_deckEmpty ..) (fun s => deckEmpty s ..) h
  | barrierStateTaken => exact event (exec_barrierStateTaken ..) (fun s => barrierStateTaken s ..) h
  | barrierLoopEdge => exact event (exec_barrierLoopEdge ..) (fun s => barrierLoopEdge s ..) h
  | supplyStateTaken => exact event (exec_supplyStateTaken ..) (fun s => supplyTaken s ..) h
  | watchExpiry => exact event (exec_watchExpiry ..) (fun s => watchExpiry s ..) h
  | yardTick x =>
    refine of_next h (ite (fun _ => ?_) fun _ => of_arb fun _ => rfl)
    have htaken : s.KeepsArbiters (s.consume (.yardTick x)) := of_arb fun _ => rfl
    exact (htaken.trans (tick ..)).trans (of_arb fun d => State.arb_settle _ d s)
  | yardClockSecond => exact of_next h (of_arb fun _ => rfl)
  | mainDomainStop => exact of_next h (of_arb fun _ => rfl)
  | mainReset => exact of_next h (restart ..)
  | yardResetEffect => exact of_next h (ite (fun _ => restart ..) fun _ => refl s)
  | captureStart => exact event_framed (exec_captureStart ..) (by simp) h
  | calSwitch => exact event_framed (exec_calSwitch ..) (by simp) h
  | recordsAbort => exact event_framed (exec_recordsAbort ..) (by simp) h
  | captureExternalEnd => exact event_framed (exec_captureExternalEnd ..) (by simp) h
  | attemptTimerExpiry => exact event_framed (exec_attemptTimerExpiry ..) (by simp) h
  | leaveDeckTimerExpiry => exact event_framed (exec_leaveDeckTimerExpiry ..) (by simp) h
  | positioningEdge => exact event_framed (exec_positioningEdge ..) (by simp) h
  | yardModeTaken => exact event_framed (exec_yardModeTaken ..) (by simp) h
  | engineWindow => exact event_framed (exec_engineWindow ..) (by simp) h
  | withdrawalReport => exact event_framed (exec_withdrawalReport ..) (by simp) h
  | entryPassageReport => exact event_framed (exec_entryPassageReport ..) (by simp) h
  | recordsCaptureCompletion => exact event_framed (exec_recordsCaptureCompletion ..) (by simp) h
  | recordsCaptureFailure => exact event_framed (exec_recordsCaptureFailure ..) (by simp) h
  | exitPassageReport => exact event_framed (exec_exitPassageReport ..) (by simp) h
  | permissiveRise => exact event_framed (exec_permissiveRise ..) (by simp) h
  | permissiveFall => exact event_framed (exec_permissiveFall ..) (by simp) h
  | closeDelayExpiry => exact event_framed (exec_closeDelayExpiry ..) (by simp) h
  | motionTimeout => exact event_framed (exec_motionTimeout ..) (by simp) h
  | limitEvent => exact event_framed (exec_limitEvent ..) (by simp) h
  | keepaliveToggle => exact event_framed (exec_keepaliveToggle ..) (by simp) h
  | windowClose => exact event_framed (exec_windowClose ..) (by simp) h
  | converterEdge => exact event_framed (exec_converterEdge ..) (by simp) h
  | conditionerEdge => exact event_framed (exec_conditionerEdge ..) (by simp) h
  | stopLoopEdge => exact event_framed (exec_stopLoopEdge ..) (by simp) h
  | stuckTimerExpiry => exact event_framed (exec_stuckTimerExpiry ..) (by simp) h
  | filingOrder => exact event_framed (exec_filingOrder ..) (by simp) h
  | absenceTimerExpiry => exact event_framed (exec_absenceTimerExpiry ..) (by simp) h
  | cancelOrder => exact event_framed (exec_cancelOrder ..) (by simp) h
  | offerAtLane => exact event_framed (exec_offerAtLane ..) (by simp) h
  | grantWithdrawnAtLane => exact event_framed (exec_grantWithdrawnAtLane ..) (by simp) h
  | entryPassageAtLane => exact event_framed (exec_entryPassageAtLane ..) (by simp) h
  | stretchTimerExpiry => exact event_framed (exec_stretchTimerExpiry ..) (by simp) h
  | frameComplete => exact event_framed (exec_frameComplete ..) (by simp) h
  | characterReceived => exact event_framed (exec_characterReceived ..) (by simp) h
  | gapTimerExpiry => exact event_framed (exec_gapTimerExpiry ..) (by simp) h
  | frameSent => exact event_framed (exec_frameSent ..) (by simp) h
  | noticeAdmission => exact event_framed (exec_noticeAdmission ..) (by simp) h
  | quietTimerExpiry => exact event_framed (exec_quietTimerExpiry ..) (by simp) h
  | drain => exact event_framed (exec_drain ..) (by simp) h
  | qualification => exact event_framed (exec_qualification ..) (by simp) h
  | startTimerExpiry => exact event_framed (exec_startTimerExpiry ..) (by simp) h
  | supplyLow => exact event_framed (exec_supplyLow ..) (by simp) h
  | supplyRestored => exact event_framed (exec_supplyRestored ..) (by simp) h
  | _ => cases hc

/-- Every step keeps the law of the arbiters. -/
theorem step (s t : State) (h : Machine.step s = .next t) : s.KeepsArbiters t := by
  unfold Machine.step at h
  split at h
  · exact of_next h (refl s)
  · next c rest _ =>
    have htaken : s.KeepsArbiters { s with pending := rest } := of_arb fun _ => rfl
    cases hc : c.spelling.isSome with
    | true => exact htaken.trans (exec_request c hc _ t h)
    | false => exact htaken.trans (exec_event c hc _ t h)

end State.KeepsArbiters

end Sys2Proof.Machine

open Sys2Proof.Machine

/-- Settles O9, by what a step keeps of the arbiters (`State.KeepsArbiters.step`). -/
theorem arbiterLawKept : Obligations.ArbiterLawKept := fun s t d hlaw h => (State.KeepsArbiters.step s t h).law d hlaw
end

section
/-! SUPPORT. Acceptances, declines and the proceed interval (R113 to R115). -/

namespace Sys2Proof.Machine

theorem Arbiter.offers_iff (a : Arbiter) (l : Lane) (number : Nat) :
    a.offers l number = true ↔ a.offer = some { lane := l, number := number } := beq_iff_eq

section
variable {s : State} {d : Deck}

/-- The grant of an outstanding offer: the deck is FREE until then (R107, R113). -/
theorem State.acceptance_eq (hlaw : (s.arb d).Law) (l : Lane) (number : Nat) : s.acceptance d l number =
    if (s.arb d).offer = some { lane := l, number := number } then
      if s.supplyAt (.arbiter d) = .supplyLow then
        (s.modArb d fun a => { a.setSlot l none with offer := none }).raise [.grantWithdrawnAtLane l d number .supply]
      else
        ((s.modArb d fun a =>
          { a.setSlot l none with
            state := .granted, offer := none, last := some l
            grant := some { lane := l, number := number, arrived := false, late := false
                            timer := some ((s.deckCfg d).proceed * 1000) } }).post (.arbiter d)
          (.deckState d .free .granted (some (l, number)))).flag .decks
    else (s.modArb d fun a => a.setSlot l none).raise [.grantWithdrawnAtLane l d number .lapsed] := by
  refine ite_congr (propext (Arbiter.offers_iff ..)) (fun hoffer => if_congr (s.lowAt_iff _) rfl ?_) fun _ => rfl
  have hfree : (s.arb d).state = .free := hlaw.offer (by rw [hoffer]; rfl)
  rw [State.changeArb_of_ne (by rw [hfree]; nofun), hfree]
  rfl

theorem State.withdrawGrant_running {g : Grant} (hlaw : (s.arb d).Law) (hg : (s.arb d).grant = some g)
    (harrived : g.arrived = false) (cause : WithdrawCause) : s.withdrawGrant d cause =
      ((((s.modArb d fun a => { a with state := .free, grant := none }).post (.arbiter d)
        (.deckState d .granted .free none)).flag .decks).raise [.grantWithdrawnAtLane g.lane d g.number cause]).post
          (.arbiter d) (.grantWithdrawn d g.lane g.number cause) := by
  have hgranted := hlaw.granted hg
  simp only [State.withdrawGrant, hg, harrived]
  rw [State.changeArb_of_ne (by rw [hgranted]; nofun), hgranted]
  rfl

theorem State.proceedTimeout_none (hg : (s.arb d).grant = none) : s.proceedTimeout d = s := by
  simp [State.proceedTimeout, hg]

/-- A grant whose proceed timer runs has not seen its arrival (R115). -/
theorem State.proceedTimeout_some {g : Grant} (hlaw : (s.arb d).Law) (hg : (s.arb d).grant = some g) :
    s.proceedTimeout d =
      if g.timer = some 0 then
        ((((s.modArb d fun a => { a with state := .free, grant := none }).post (.arbiter d)
          (.deckState d .granted .free none)).flag .decks).raise
            [.grantWithdrawnAtLane g.lane d g.number .proceedTimeout]).post (.arbiter d)
              (.grantWithdrawn d g.lane g.number .proceedTimeout)
      else s := by
  refine ite_congr (by simp [hg]) (fun htimer => ?_) fun _ => rfl
  exact State.withdrawGrant_running hlaw hg (by rw [hlaw.timer g hg, htimer]; rfl) .proceedTimeout

end

end Sys2Proof.Machine

open Sys2Proof Sys2Proof.Machine

/-- Settles O39: the law of the arbiter gives the deck state in which an offer or a running grant is found. -/
theorem offersAndGrants : Obligations.OffersAndGrants := by
  refine ⟨fun s d l number hrun hlaw => ?_, fun s d l number hrun => ?_, fun s d hrun hlaw => ?_⟩
  · intro c
    exact (exec_acceptance ..).trans (event_after s c _ _ hrun (State.acceptance_eq (s := s.consume c) hlaw l number))
  · intro c
    refine (exec_decline ..).trans (event_after s c _ _ hrun ?_)
    exact if_congr (Arbiter.offers_iff ..) rfl rfl
  · intro c
    refine (exec_proceedTimeout ..).trans (event_after s c _ _ hrun ?_)
    cases hg : (s.arb d).grant with
    | none => exact State.proceedTimeout_none (s := s.consume c) hg
    | some g => exact State.proceedTimeout_some (s := s.consume c) hlaw hg
end

section
/-! SUPPORT. SET_DECK_SERVICE (R122, R164, R193). -/

namespace Sys2Proof.Machine

/-- A request that is taken may be answered by a test of the state. -/
theorem request_ite {s t u : State} {c : Instr} {q : Sender} {f : Serve} {p : Prop} [Decidable p]
    (ht : p → request c q f s = .next t) (hu : ¬ p → request c q f s = .next u) :
    request c q f s = .next (if p then t else u) := by
  split
  · exact ht ‹_›
  · exact hu ‹_›

section
variable {s : State} {deck : Nat} {d : Deck} (role : Role)

theorem serveSetDeckService_badSetting {setting : Nat} (h : 2 ≤ setting) :
    serveSetDeckService deck setting role s = (s, .only .badArgument) := by
  simp [serveSetDeckService, switchOf_of_ge h]

theorem serveSetDeckService_badDeck (setting : Nat) (h : 2 ≤ deck) :
    serveSetDeckService deck setting role s = (s, .only .badArgument) := by
  simp [serveSetDeckService, deckOf_of_ge h]

variable (hd : deckOf deck = some d)
include hd

theorem serveSetDeckService_already (hs : (s.arb d).state = .outOfService) :
    serveSetDeckService deck 0 role s = (s, .ok) := by
  simp [serveSetDeckService, hd, switchOf, hs]

theorem serveSetDeckService_inUse (hs : (s.arb d).state = .granted ∨ (s.arb d).state = .occupied) :
    serveSetDeckService deck 0 role s = (s, .only .wrongState) := by
  rcases hs with hs | hs <;> simp [serveSetDeckService, hd, switchOf, hs]

theorem serveSetDeckService_offered (hs : (s.arb d).state = .free) (ho : (s.arb d).offer.isSome = true) :
    serveSetDeckService deck 0 role s = (s, .only .deckBusy) := by
  simp [serveSetDeckService, hd, switchOf, hs, ho]

/-- A deck that is FREE without an offer, CLEARING or in RECOVER goes OUT (R122). -/
theorem serveSetDeckService_out (hs : (s.arb d).state ≠ .outOfService)
    (huse : ¬ ((s.arb d).state = .granted ∨ (s.arb d).state = .occupied))
    (ho : ¬ ((s.arb d).state = .free ∧ (s.arb d).offer.isSome = true)) :
    serveSetDeckService deck 0 role s =
      (((s.modArb d fun a => { a with state := .outOfService }).post (.arbiter d)
        (.deckState d (s.arb d).state .outOfService none)).flag .decks, .ok) := by
  have hchange : s.changeArb d (fun a => { a with state := .outOfService }) =
      ((s.modArb d fun a => { a with state := .outOfService }).post (.arbiter d)
        (.deckState d (s.arb d).state .outOfService none)).flag .decks := State.changeArb_of_ne hs
  rw [← hchange]
  simp only [serveSetDeckService, hd, switchOf]
  split
  · next hfree => exact if_neg fun hoffer => ho ⟨hfree, hoffer⟩
  · rfl
  · rfl
  · next hgranted => exact absurd (.inl hgranted) huse
  · next hoccupied => exact absurd (.inr hoccupied) huse
  · next hout => exact absurd hout hs

theorem serveSetDeckService_inService (hs : (s.arb d).state ≠ .outOfService) :
    serveSetDeckService deck 1 role s = (s, .only .wrongState) := by
  simp [serveSetDeckService, hd, switchOf, hs]

/-- A deck that is OUT_OF_SERVICE goes IN: RECOVER, the holds of COMMAND, the collection, and the empty deck (R122). -/
theorem serveSetDeckService_in (hs : (s.arb d).state = .outOfService) :
    serveSetDeckService deck 1 role s =
      ((((((((s.modArb d fun a => { a with state := .recover }).post (.arbiter d)
        (.deckState d .outOfService .recover none)).flag .decks).endCommandHold d.entry).endCommandHold
          d.exit).failCollection d .aborted).deckEmpty d), .ok) := by
  have hchange : s.changeArb d (fun a => { a with state := .recover }) =
      ((s.modArb d fun a => { a with state := .recover }).post (.arbiter d)
        (.deckState d .outOfService .recover none)).flag .decks := by
    rw [State.changeArb_of_ne (by rw [hs]; nofun), hs]
    rfl
  rw [← hchange]
  simp only [serveSetDeckService, hd, switchOf]
  exact if_pos hs

end

end Sys2Proof.Machine

open Sys2Proof Sys2Proof.Machine

/-- Settles O41, by the tests that the deck state and its offer put before OUT and IN. -/
theorem deckServiceByState : Obligations.DeckServiceByState := by
  intro s q deck d role hd
  refine ⟨?_, ?_, fun setting hsetting => ?_, fun deck' setting hdeck => ?_⟩
  · intro c h
    refine (exec_setDeckService ..).trans (request_ite (fun hs => ?_) fun hs => request_ite (fun huse => ?_) fun huse =>
      request_ite (fun ho => ?_) fun ho => ?_)
    · exact request_answered s c q _ role id _ h (serveSetDeckService_already role hd (by rwa [State.arb_handed]))
    · exact request_refused s c q _ role _ h (serveSetDeckService_inUse role hd (by rwa [State.arb_handed]))
    · exact request_refused s c q _ role _ h
        (serveSetDeckService_offered role hd (by rw [State.arb_handed]; exact ho.1) (by rw [State.arb_handed]; exact ho.2))
    · refine request_answered s c q _ role _ _ h ?_
      have hserve := serveSetDeckService_out (s := s.handed c q) role hd
      simp only [State.arb_handed] at hserve
      exact hserve hs huse ho
  · intro c h
    refine (exec_setDeckService ..).trans (request_ite (fun hs => ?_) fun hs => ?_)
    · exact request_refused s c q _ role _ h (serveSetDeckService_inService role hd (by rwa [State.arb_handed]))
    · exact request_answered s c q _ role _ _ h
        (serveSetDeckService_in role hd (by rw [State.arb_handed]; exact not_not.mp hs))
  · intro c h
    exact (exec_setDeckService ..).trans
      (request_refused s c q _ role _ h (serveSetDeckService_badSetting role hsetting))
  · intro c h
    exact (exec_setDeckService ..).trans
      (request_refused s c q _ role _ h (serveSetDeckService_badDeck role setting hdeck))
end

section
/-! SUPPORT. The boom of a barrier: its changes of state, its lowering path, and the edges of its loop (R149, R155, R158,
R159, R166). -/

namespace Sys2Proof.Machine

/-! ### Changes of a barrier -/

/-- A barrier in state `old` becomes `new`, in another state: BARRIER_STATE, the decks flag and the readers (R166). -/
def State.moveBar (s : State) (b : Barrier) (old : BarrierState) (new : BarrierWork) (reason : BarrierReason) : State :=
  (((s.modBar b fun _ => new).post (.barrier b) (.barrierState b old new.state reason)).flag .decks).raise
    ((barrierReaders b).map fun x => .barrierStateTaken x b new.state)

section
variable {s : State} {b : Barrier}

theorem State.modBar_const (s : State) (b : Barrier) (f : BarrierWork → BarrierWork) :
    (s.modBar b fun _ => f (s.bar b)) = s.modBar b f := by
  cases b <;> rfl

theorem State.changeBar_of_ne {f : BarrierWork → BarrierWork} {new : BarrierWork} (hf : f (s.bar b) = new)
    (h : (s.bar b).state ≠ new.state) (reason : BarrierReason) :
    s.changeBar b reason f = s.moveBar b (s.bar b).state new reason := by
  subst hf
  simp only [State.changeBar, if_neg h, State.moveBar]

theorem State.changeBar_of_eq {f : BarrierWork → BarrierWork} {new : BarrierWork} (hf : f (s.bar b) = new)
    (h : (s.bar b).state = new.state) (reason : BarrierReason) : s.changeBar b reason f = s.modBar b fun _ => new := by
  subst hf
  simp only [State.changeBar, if_pos h]

/-! ### The lowering path (R158) -/

/-- The conditions of the lowering path besides its timer (R158). -/
abbrev State.MayLower (s : State) (b : Barrier) : Prop :=
  ((s.bar b).state = .up ∨ (s.bar b).state = .stopped) ∧ (s.bar b).latch = false ∧ (s.bar b).hold = .none ∧
    (s.inp (.boom b)).debounced = .clear

theorem State.mayLower_iff (s : State) (b : Barrier) : s.mayLower b = true ↔ s.MayLower b := by
  simp only [State.mayLower, State.boomClear, Bool.and_eq_true, Bool.or_eq_true, Bool.not_eq_true', beq_iff_eq, and_assoc]

/-- A barrier that begins to lower, or is DOWN at once (R158, R164). -/
def BarrierWork.lowered (w : BarrierWork) (c : BarrierCfg) : BarrierWork :=
  { w with
    state := if w.lower then .down else .lowering, reversal := false, closeDelay := none
    motion := if w.lower then none else some (c.motionLimit * 1000) }

/-- A hold of COMMAND ends with DOWN, but no hold stands on the lowering path (R158, R164). -/
theorem BarrierWork.lowering_eq {w : BarrierWork} (hhold : w.hold = .none) (c : BarrierCfg) : w.lowering c = w.lowered c := by
  unfold BarrierWork.lowering BarrierWork.lowered BarrierWork.toDown
  cases w.lower <;> simp [hhold, BarrierCfg.motion]

theorem State.changeBar_lowering (h : s.MayLower b) :
    (s.changeBar b .closeDelay fun w => w.lowering (s.barCfg b)) =
      s.moveBar b (s.bar b).state ((s.bar b).lowered (s.barCfg b)) .closeDelay := by
  obtain ⟨hstate, -, hhold, -⟩ := h
  refine State.changeBar_of_ne (BarrierWork.lowering_eq hhold _) ?_ .closeDelay
  unfold BarrierWork.lowered
  rcases hstate with hs | hs <;> rw [hs] <;> dsimp only <;> split <;> nofun

theorem State.judgeLowering_not (h : ¬ s.MayLower b) :
    s.judgeLowering b = s.modBar b fun _ => { s.bar b with closeDelay := none } := by
  rw [State.judgeLowering, if_pos (by simpa using mt (s.mayLower_iff b).mp h)]
  exact (State.modBar_const s b fun w => { w with closeDelay := none }).symm

section
variable (h : s.MayLower b)
include h

theorem State.judgeLowering_may : s.judgeLowering b =
    if (s.bar b).closeDelay.isSome then s
    else if (s.barCfg b).closeDelay = 0 then s.moveBar b (s.bar b).state ((s.bar b).lowered (s.barCfg b)) .closeDelay
    else s.modBar b fun _ => { s.bar b with closeDelay := some ((s.barCfg b).closeDelay * 1000) } := by
  rw [State.judgeLowering, if_neg (by simpa using (s.mayLower_iff b).mpr h), State.changeBar_lowering h]
  exact if_congr Iff.rfl rfl (if_congr Iff.rfl rfl (State.modBar_const s b fun w =>
    { w with closeDelay := some ((s.barCfg b).closeDelay * 1000) }).symm)

theorem State.judgeLowering_running (hdelay : (s.bar b).closeDelay ≠ none) : s.judgeLowering b = s := by
  rw [State.judgeLowering_may h, if_pos (Option.isSome_iff_ne_none.mpr hdelay)]

variable (hdelay : (s.bar b).closeDelay = none)
include hdelay

theorem State.judgeLowering_starts (hpositive : 0 < (s.barCfg b).closeDelay) : s.judgeLowering b =
    s.modBar b fun _ => { s.bar b with closeDelay := some ((s.barCfg b).closeDelay * 1000) } := by
  rw [State.judgeLowering_may h, hdelay, if_neg (by simp), if_neg hpositive.ne']

theorem State.judgeLowering_at_once (hzero : (s.barCfg b).closeDelay = 0) : s.judgeLowering b =
    s.moveBar b (s.bar b).state ((s.bar b).lowered (s.barCfg b)) .closeDelay := by
  rw [State.judgeLowering_may h, hdelay, if_neg (by simp), if_pos hzero]

end

theorem State.closeDelayExpiry_eq (s : State) (b : Barrier) : s.closeDelayExpiry b =
    if (s.bar b).closeDelay ≠ some 0 then s
    else if s.MayLower b then s.moveBar b (s.bar b).state ((s.bar b).lowered (s.barCfg b)) .closeDelay
    else s.modBar b fun _ => { s.bar b with closeDelay := none } := by
  refine if_congr Iff.rfl rfl (ite_congr (propext (s.mayLower_iff b)) State.changeBar_lowering fun _ => ?_)
  exact (State.modBar_const s b fun w => { w with closeDelay := none }).symm

/-! ### The rising edge of the boom loop (R159) -/

/-- A boom that reverses: RAISING, or UP at once (R157, R159). -/
def BarrierWork.reversed (w : BarrierWork) (c : BarrierCfg) : BarrierWork :=
  if w.upper then { w with inLoop := true, state := .up, motion := none, reversal := false, closeDelay := none }
  else { w with inLoop := true, state := .raising, reversal := true, closeDelay := none
                motion := some (c.motionLimit * 1000) }

theorem State.barrierLoopEdge_rising (s : State) (b : Barrier) : s.barrierLoopEdge b .rising =
    (if (s.bar b).state = .lowering then s.moveBar b (s.bar b).state ((s.bar b).reversed (s.barCfg b)) .reversal
    else s.modBar b fun _ => { s.bar b with inLoop := true }).judgeLowering b := by
  refine congrArg (State.judgeLowering · b) ?_
  split
  · next hs =>
    refine State.changeBar_of_ne ?_ ?_ .reversal
    · simp only [hs, if_true]
      unfold BarrierWork.raising BarrierWork.reversed
      cases (s.bar b).upper <;> rfl
    · rw [hs]
      unfold BarrierWork.reversed
      split <;> nofun
  · next hs => exact State.changeBar_of_eq (by rw [if_neg hs]) (by rfl) .reversal

/-! ### The falling edge of the boom loop (R155, R119) -/

/-- What the end of a passage makes of a barrier before its lowering path is judged (R155). -/
def State.passageEnded (s : State) (b : Barrier) : State :=
  if (s.bar b).inLoop = false then s
  else if (s.bar b).state = .raising ∧ (s.bar b).latch = true ∧ (s.bar b).reversal = false then
    s.moveBar b (s.bar b).state { s.bar b with inLoop := false, latch := false, hold := .none, state := .stopped, motion := none }
      .latchCleared
  else s.modBar b fun _ => { s.bar b with inLoop := false, latch := false, hold := .none }

theorem BarrierWork.onLatch_iff (w : BarrierWork) :
    w.onLatch = true ↔ w.state = .raising ∧ w.latch = true ∧ w.reversal = false := by
  simp only [BarrierWork.onLatch, Bool.and_eq_true, Bool.not_eq_true', beq_iff_eq, and_assoc]

theorem State.barrierLoopEdge_falling (s : State) (b : Barrier) :
    s.barrierLoopEdge b .falling = ((s.passageEnded b).judgeLowering b).markClosing b (s.bar b).state := by
  refine congrArg (fun t => (State.judgeLowering t b).markClosing b (s.bar b).state) ?_
  unfold State.passageEnded
  cases (s.bar b).inLoop with
  | false => rfl
  | true =>
    rw [if_pos rfl, if_neg (by simp)]
    split
    · next h =>
      have honLatch := (s.bar b).onLatch_iff.mpr h
      obtain ⟨hs, -, hreversal⟩ := h
      refine State.changeBar_of_ne ?_ (by rw [hs]; nofun) .latchCleared
      simp [honLatch, BarrierWork.stopped, hreversal]
    · next h =>
      have honLatch : (s.bar b).onLatch = false := by simpa using mt (s.bar b).onLatch_iff.mp h
      exact State.changeBar_of_eq (by simp [honLatch]) (by rfl) .latchCleared

end

/-! ### The edge that still waits for the arbiter (R119, log 18) -/

section
variable {s : State} (b : Barrier) (d : Deck) (e : Edge)

/-- Barrier changes deliver their own states alone. -/
theorem State.edge_waits_moveBar (old : BarrierState) (new : BarrierWork) (reason : BarrierReason) :
    Instr.entryLoopEdgeAtArbiter d e ∈ (s.moveBar b old new reason).main.raised ↔
      Instr.entryLoopEdgeAtArbiter d e ∈ s.main.raised := by
  simp [State.moveBar]

theorem State.edge_waits_judgeLowering :
    Instr.entryLoopEdgeAtArbiter d e ∈ (s.judgeLowering b).main.raised ↔
      Instr.entryLoopEdgeAtArbiter d e ∈ s.main.raised := by
  by_cases h : s.MayLower b
  · rw [State.judgeLowering_may h]
    split
    · rfl
    split
    · exact State.edge_waits_moveBar ..
    · rfl
  · rw [State.judgeLowering_not h]
    rfl

theorem State.edge_waits_passageEnded :
    Instr.entryLoopEdgeAtArbiter d e ∈ (s.passageEnded b).main.raised ↔
      Instr.entryLoopEdgeAtArbiter d e ∈ s.main.raised := by
  unfold State.passageEnded
  split
  · rfl
  split
  · exact State.edge_waits_moveBar ..
  · rfl

end

end Sys2Proof.Machine

open Sys2Proof Sys2Proof.Machine

/-- Settles O45: an edge of the loop moves the boom or rewrites its barrier alone, and the lowering path follows. -/
theorem boomLoopsAndLowering : Obligations.BoomLoopsAndLowering := by
  refine ⟨fun s b hrun => ⟨?_, ?_⟩, fun s b => ⟨State.judgeLowering_not, State.judgeLowering_running,
    State.judgeLowering_starts, State.judgeLowering_at_once, fun hrun => ?_⟩⟩
  · intro c
    exact (exec_barrierLoopEdge ..).trans (event_after s c _ _ hrun (State.barrierLoopEdge_rising (s.consume c) b))
  · intro c
    refine (exec_barrierLoopEdge ..).trans (event_after s c _ _ hrun ?_)
    refine (State.barrierLoopEdge_falling (s.consume c) b).trans (if_congr ?_ rfl rfl)
    refine and_congr_right fun _ => and_congr_right fun _ => and_congr_right fun _ => ?_
    rw [List.contains_iff_mem, State.edge_waits_judgeLowering, State.edge_waits_passageEnded]
    exact List.mem_erase_of_ne Instr.noConfusion
  · intro c
    exact (exec_closeDelayExpiry ..).trans (event_after s c _ _ hrun (State.closeDelayExpiry_eq (s.consume c) b))
end

section
/-! SUPPORT. The lanes: their filings, the offers to them, how they leave WAITING and GO, and SET_LANE_FEED and SET_LANE_MODE
(R129, R133 to R139, R141). -/

namespace Sys2Proof.Machine

/-! ### Changes of a lane state (R129) -/

section
variable {s : State} {l : Lane}

theorem State.loopActive_iff (s : State) (l : Lane) : s.loopActive l = true ↔ (s.inp (.stop l)).debounced = .active :=
  beq_iff_eq

theorem State.byLoop_eq (s : State) (l : Lane) :
    s.byLoop l = if (s.inp (.stop l)).debounced = .active then .present else .idle :=
  if_congr (s.loopActive_iff l) rfl rfl

/-- A lane enters another state: its stuck timer follows the state, and LANE_STATE carries its request then (R129). -/
theorem State.changeLane_of_ne {f g : LaneWork → LaneWork} {old st : LaneState} {number : Option Nat}
    (hold : (s.lane l).state = old) (hst : (f (s.lane l)).state = st) (h : old ≠ st)
    (hnumber : (f (s.lane l)).request.map LaneFiling.number = number)
    (hg : { f (s.lane l) with stuck := if st = .present then some ((s.laneCfg l).stuck * 1000) else none } =
      g (s.lane l)) :
    s.changeLane l f = ((s.modLane l g).post (.lane l) (.laneState l old st number)).flag .lanes := by
  subst hold hst hnumber
  rw [s.modLane_congr l (g := fun _ => g (s.lane l)) rfl, ← hg]
  simp only [State.changeLane, if_neg h]
  rfl

end

/-! ### The decks of a filing -/

theorem Deck.map_filter_all {α : Type} (p : Deck → Bool) (f : Deck → α) :
    (Deck.all.filter p).map f = (if p .a then [f .a] else []) ++ (if p .b then [f .b] else []) := by
  simp only [Deck.all, List.filter_cons, List.filter_nil]
  split <;> split <;> rfl

theorem feedOf_of_ge {n : Nat} (h : 3 ≤ n) : feedOf n = none := by
  obtain ⟨k, rfl⟩ := Nat.exists_eq_add_of_le' h; rfl

/-! ### Filing orders and the absence timer (R133, R134) -/

section
variable {s : State} {l : Lane}

theorem State.filingOrder_filed (number : Nat) (kind : FilingKind) (priority : Nat)
    (h : (s.lane l).state ∈ [LaneState.idle, .present, .fault]) :
    s.filingOrder l number kind priority =
      (((s.modLane l fun w =>
        { w with
          state := .waiting, stuck := none
          request := some
            { number := number, kind := kind, priority := priority
              filed := ⟨(s.laneCfg l).feed.has .a, (s.laneCfg l).feed.has .b⟩ }
          absence := if (s.inp (.stop l)).debounced = .active then none
            else some ((s.laneCfg l).absence * 1000) }).post (.lane l)
        (.laneState l (s.lane l).state .waiting (some number))).flag .lanes).raise
          ((if (s.laneCfg l).feed.has .a then [Instr.filing .a l number kind priority] else []) ++
            (if (s.laneCfg l).feed.has .b then [Instr.filing .b l number kind priority] else [])) := by
  have hne : (s.lane l).state ≠ .waiting := fun hw => by simp [hw] at h
  have hfile : s.filingOrder l number kind priority =
      (s.changeLane l fun w =>
        { w with
          state := .waiting
          request := some
            { number := number, kind := kind, priority := priority
              filed := ⟨(s.laneCfg l).feed.has .a, (s.laneCfg l).feed.has .b⟩ }
          absence := if s.loopActive l then none else loadAbsence (s.laneCfg l) }).raise
        ((s.laneCfg l).feed.decks.map fun d => .filing d l number kind priority) := by
    rcases (by simpa using h : _ ∨ _ ∨ _) with hs | hs | hs <;> simp only [State.filingOrder, hs]
  rw [hfile, Feed.decks, Deck.map_filter_all]
  refine congrArg (State.raise · _) (State.changeLane_of_ne rfl rfl hne rfl ?_)
  simp [State.loopActive_iff, loadAbsence]

theorem State.filingOrder_refused (number : Nat) (kind : FilingKind) (priority : Nat)
    (h : (s.lane l).state ∉ [LaneState.idle, .present, .fault]) :
    s.filingOrder l number kind priority = s.raise [.withdrawalReport number .cancel] := by
  simp only [State.filingOrder]
  split
  · next hs => simp [hs] at h
  · next hs => simp [hs] at h
  · next hs => simp [hs] at h
  all_goals rfl

theorem State.absenceExpiry_none (h : (s.lane l).request = none) : s.absenceExpiry l = s := by
  simp only [State.absenceExpiry, h]

theorem State.absenceExpiry_some {f : LaneFiling} (h : (s.lane l).request = some f) : s.absenceExpiry l =
    if (s.lane l).state = .waiting ∧ (s.inp (.stop l)).debounced ≠ .active ∧ (s.lane l).absence = some 0 then
      (((s.modLane l fun w =>
        { w with state := .idle, request := none, grant := none, absence := none, stuck := none }).post (.lane l)
          (.laneState l .waiting .idle none)).flag .lanes).raise
            ((if f.filed.a then [Instr.withdrawal .a l] else []) ++ (if f.filed.b then [Instr.withdrawal .b l] else [])
              ++ [Instr.withdrawalReport f.number .absence])
    else s := by
  simp only [State.absenceExpiry, h]
  refine ite_congr (propext ?_) (fun hdue => ?_) fun _ => rfl
  · rw [LaneWork.offLoop_iff, ← Bool.not_eq_true, State.loopActive_iff, and_assoc]
  · obtain ⟨hs, -, -⟩ := hdue
    rw [LaneFiling.decks, Deck.map_filter_all]
    exact congrArg (State.raise · _) (State.changeLane_of_ne hs rfl (by decide) rfl rfl)

end

/-! ### Leaving WAITING and GO (R135, R137, R138) -/

/-- A lane leaves WAITING or GO by its loop, without its request (R135). -/
def State.leaveByLoop (s : State) (l : Lane) (old : LaneState) : State :=
  let dest : LaneState := if (s.inp (.stop l)).debounced = .active then .present else .idle
  ((s.modLane l fun w =>
    { w with
      state := dest, request := none, grant := none, absence := none
      stuck := if dest = .present then some ((s.laneCfg l).stuck * 1000) else none }).post (.lane l)
        (.laneState l old dest none)).flag .lanes

section
variable {s : State} {l : Lane}

theorem State.changeLane_rest {old : LaneState} (hs : (s.lane l).state = old) (h : old ≠ .present ∧ old ≠ .idle) :
    (s.changeLane l fun w => w.rest (s.byLoop l)) = s.leaveByLoop l old := by
  rw [State.byLoop_eq]
  refine State.changeLane_of_ne hs rfl ?_ rfl rfl
  split
  · exact h.1
  · exact h.2

theorem State.cancelOrder_eq {f : LaneFiling} (hf : (s.lane l).request = some f) (number : Nat) :
    s.cancelOrder l number =
      if f.number ≠ number then s
      else if (s.lane l).state = .waiting then
        (s.leaveByLoop l .waiting).raise
          ((if f.filed.a then [Instr.withdrawal .a l] else []) ++ (if f.filed.b then [Instr.withdrawal .b l] else []) ++
            [Instr.withdrawalReport number .cancel])
      else if (s.lane l).state = .go then
        (s.leaveByLoop l .go).raise
          ((match (s.lane l).grant with
            | none => []
            | some d => [Instr.withdrawal d l]) ++ [Instr.withdrawalReport number .cancel])
      else s := by
  simp only [State.cancelOrder, hf]
  refine if_congr Iff.rfl rfl ?_
  split
  · next hs =>
    rw [if_pos hs, State.changeLane_rest hs (by decide), LaneFiling.decks, Deck.map_filter_all]
    rfl
  · next hs =>
    rw [if_neg (by rw [hs]; nofun), if_pos hs, State.changeLane_rest hs (by decide)]
    cases (s.lane l).grant <;> rfl
  all_goals
    next hs => rw [if_neg (by rw [hs]; nofun), if_neg (by rw [hs]; nofun)]

theorem State.grantWithdrawn_eq {f : LaneFiling} (hf : (s.lane l).request = some f) (d : Deck) (number : Nat)
    (cause : WithdrawCause) : s.grantWithdrawn l d number cause =
      if (s.lane l).state = .go ∧ (s.lane l).grant = some d then
        (s.leaveByLoop l .go).raise [.withdrawalReport f.number cause]
      else s := by
  refine ite_congr rfl (fun h => ?_) fun _ => rfl
  rw [State.changeLane_rest h.1 (by decide), hf]
  rfl

theorem State.entryPassageAtLane_eq (s : State) (l : Lane) (d : Deck) : s.entryPassageAtLane l d =
    if (s.lane l).state = .go ∧ (s.lane l).grant = some d then s.leaveByLoop l .go else s :=
  ite_congr rfl (fun h => State.changeLane_rest h.1 (by decide)) fun _ => rfl

/-! ### Offers at a lane (R113, R136) -/

theorem LaneWork.accepts_iff (w : LaneWork) (d : Deck) (number : Nat) : w.accepts d number = true ↔
    w.state = .waiting ∧ ∃ f, w.request = some f ∧ f.number = number ∧ f.filed.get d = true := by
  simp [LaneWork.accepts, Option.any_eq_true]

theorem State.offerAtLane_accepted {f : LaneFiling} {d : Deck} {number : Nat} (hs : (s.lane l).state = .waiting)
    (hf : (s.lane l).request = some f) (hnumber : f.number = number) (hfiled : f.filed.get d = true) :
    s.offerAtLane l d number =
      (((s.modLane l fun w =>
        { w with
          state := .go, absence := none, grant := some d, stuck := none
          request := some { f with filed := f.filed.mod d.other fun _ => false } }).post (.lane l)
        (.laneState l .waiting .go (some number))).flag .lanes).raise
          (Instr.acceptance d l number :: if f.filed.get d.other then [.withdrawal d.other l] else []) := by
  rw [State.offerAtLane, if_pos ((LaneWork.accepts_iff ..).mpr ⟨hs, f, hf, hnumber, hfiled⟩)]
  refine congrArg₂ State.raise (State.changeLane_of_ne hs rfl (by decide) ?_ ?_) ?_
  · simp [hf, hnumber]
  · simp [hf]
  · simp [hf]

theorem State.offerAtLane_declined {d : Deck} {number : Nat} (h : (s.lane l).state ≠ .waiting ∨ (s.lane l).request = none ∨
    ∃ f, (s.lane l).request = some f ∧ (f.number ≠ number ∨ f.filed.get d = false)) :
    s.offerAtLane l d number = s.raise [.decline d l number] := by
  refine if_neg fun haccepts => ?_
  obtain ⟨hs, f, hf, hnumber, hfiled⟩ := (LaneWork.accepts_iff ..).mp haccepts
  rw [hf] at h
  simp [hs, hnumber, hfiled] at h

end

/-! ### SET_LANE_FEED and SET_LANE_MODE (R139, R141) -/

section
variable {s : State} {lane : Nat} (role : Role)

theorem State.realign_eq (s : State) (l : Lane) (k : LaneFiling) (f : Feed) : s.realign l k f =
    (s.modLane l fun w => { w with request := some { k with filed := ⟨f.has .a, f.has .b⟩ } }).raise
      (Deck.all.flatMap fun d =>
        if k.filed.get d = true ∧ f.has d = false then [Instr.withdrawal d l]
        else if k.filed.get d = false ∧ f.has d = true then [.filing d l k.number k.kind k.priority]
        else []) := by
  refine congrArg (State.raise _) (congrArg (List.flatMap · _) (funext fun d => ?_))
  cases k.filed.get d <;> cases f.has d <;> rfl

theorem serveSetLaneFeed_bad {feed : Nat} (h : 4 ≤ lane ∨ 3 ≤ feed) :
    serveSetLaneFeed lane feed role s = (s, .only .badArgument) := by
  rcases h with h | h
  · simp [serveSetLaneFeed, laneOf_of_ge h]
  · simp [serveSetLaneFeed, feedOf_of_ge h]

theorem serveSetLaneMode_bad {mode : Nat} (h : 4 ≤ lane ∨ 2 ≤ mode) :
    serveSetLaneMode lane mode role s = (s, .only .badArgument) := by
  rcases h with h | h
  · simp [serveSetLaneMode, laneOf_of_ge h]
  · simp [serveSetLaneMode, switchOf_of_ge h]

variable {l : Lane} (hl : laneOf lane = some l)
include hl

theorem serveSetLaneFeed_named {feed : Nat} {f : Feed} (hf : feedOf feed = some f) :
    serveSetLaneFeed lane feed role s =
      if (s.lane l).state = .go then (s, .only .wrongState)
      else if (s.laneCfg l).feed = f then (s, .ok)
      else
        (let t := s.modLaneCfg l fun x => { x with feed := f }
        match (s.lane l).request with
        | none => t
        | some k =>
          if (s.lane l).state = .waiting then
            (t.modLane l fun w => { w with request := some { k with filed := ⟨f.has .a, f.has .b⟩ } }).raise
              (Deck.all.flatMap fun d =>
                if k.filed.get d = true ∧ f.has d = false then [Instr.withdrawal d l]
                else if k.filed.get d = false ∧ f.has d = true then [.filing d l k.number k.kind k.priority]
                else [])
          else t, .ok) := by
  simp only [serveSetLaneFeed, hl, hf]
  refine if_congr Iff.rfl rfl (if_congr Iff.rfl rfl ?_)
  cases hr : (s.lane l).request with
  | none =>
    split
    · next hsome => exact absurd hsome nofun
    · rfl
  | some k =>
    by_cases hs : (s.lane l).state = .waiting
    · simp only [hs, if_true, State.realign_eq]
    · simp only [if_neg hs]
      split
      · next hwaiting _ => exact absurd hwaiting hs
      · rfl

theorem serveSetLaneMode_maintenance : serveSetLaneMode lane 0 role s =
    if (s.lane l).state = .maintenance then (s, .ok)
    else if (s.lane l).state = .idle ∨ (s.lane l).state = .present then
      (((s.modLane l fun w => { w with state := .maintenance, stuck := none }).post (.lane l)
        (.laneState l (s.lane l).state .maintenance (((s.lane l).request).map LaneFiling.number))).flag .lanes, .ok)
    else (s, .only .wrongState) := by
  have hchange (h : (s.lane l).state ≠ .maintenance) : s.changeLane l (fun w => { w with state := .maintenance }) =
      ((s.modLane l fun w => { w with state := .maintenance, stuck := none }).post (.lane l)
        (.laneState l (s.lane l).state .maintenance (((s.lane l).request).map LaneFiling.number))).flag .lanes :=
    State.changeLane_of_ne rfl rfl h rfl rfl
  simp only [serveSetLaneMode, hl, switchOf]
  split
  · next hs => rw [if_neg (by rw [hs]; nofun), if_pos (.inl hs), hchange (by rw [hs]; nofun)]
  · next hs => rw [if_neg (by rw [hs]; nofun), if_pos (.inr hs), hchange (by rw [hs]; nofun)]
  · next hs => rw [if_pos hs]
  all_goals
    next hs => simp [hs]

theorem serveSetLaneMode_normal : serveSetLaneMode lane 1 role s =
    if (s.lane l).state = .maintenance then
      let dest : LaneState := if (s.inp (.stop l)).debounced = .active then .present else .idle
      (((s.modLane l fun w =>
        { w with state := dest, stuck := if dest = .present then some ((s.laneCfg l).stuck * 1000) else none }).post (.lane l)
          (.laneState l .maintenance dest (((s.lane l).request).map LaneFiling.number))).flag .lanes, .ok)
    else (s, .only .wrongState) := by
  simp only [serveSetLaneMode, hl, switchOf]
  refine ite_congr rfl (fun hs => ?_) fun _ => rfl
  rw [State.byLoop_eq]
  refine congrArg (·, _) (State.changeLane_of_ne hs rfl ?_ rfl rfl)
  split <;> nofun

end

end Sys2Proof.Machine

open Sys2Proof Sys2Proof.Machine

/-- Settles O43: a filing order, an absence timer at 0, a cancel order, a withdrawal of the grant, an entry passage and an
offer each act by the state and the request in which they find the lane (R113, R133 to R138), and the two settings by their
tests in order (R139, R141). -/
theorem laneRequestsAndSettings : Obligations.LaneRequestsAndSettings := by
  refine ⟨fun s l hrun => ⟨fun number kind priority => ?_, ?_⟩, fun s l f hrun hf => ?_, fun s l d number hrun => ?_,
    fun s q lane feed mode role => ⟨fun hbad => ?_, fun hbad => ?_⟩, fun s q lane l role hl => ⟨?_, ?_, ?_⟩⟩
  · intro c
    refine (exec_filingOrder ..).trans (event_after s c _ _ hrun ?_)
    split
    · next h => exact State.filingOrder_filed (s := s.consume c) number kind priority h
    · next h => exact State.filingOrder_refused (s := s.consume c) number kind priority h
  · intro c
    refine (exec_absenceTimerExpiry ..).trans (event_after s c _ _ hrun ?_)
    cases hr : (s.lane l).request with
    | none => exact State.absenceExpiry_none (s := s.consume c) hr
    | some f => exact State.absenceExpiry_some (s := s.consume c) hr
  · intro dest leave
    refine ⟨fun number => ?_, fun d number cause => ?_, fun d number => ?_⟩
    · intro c
      exact (exec_cancelOrder ..).trans (event_after s c _ _ hrun (State.cancelOrder_eq (s := s.consume c) hf number))
    · intro c
      exact (exec_grantWithdrawnAtLane ..).trans
        (event_after s c _ _ hrun (State.grantWithdrawn_eq (s := s.consume c) hf d number cause))
    · intro c
      exact (exec_entryPassageAtLane ..).trans
        (event_after s c _ _ hrun (State.entryPassageAtLane_eq (s.consume c) l d))
  · intro c
    refine ⟨fun f hs hf hnumber hfiled => ?_, fun h => ?_⟩
    · exact (exec_offerAtLane ..).trans
        (event_after s c _ _ hrun (State.offerAtLane_accepted (s := s.consume c) hs hf hnumber hfiled))
    · exact (exec_offerAtLane ..).trans (event_after s c _ _ hrun (State.offerAtLane_declined (s := s.consume c) h))
  · intro c h
    exact (exec_setLaneFeed ..).trans (request_refused s c q _ role _ h (serveSetLaneFeed_bad role hbad))
  · intro c h
    exact (exec_setLaneMode ..).trans (request_refused s c q _ role _ h (serveSetLaneMode_bad role hbad))
  · intro feed f hf c h
    have hserve := serveSetLaneFeed_named (s := s.handed c q) role hl hf
    simp only [State.lane_handed, State.laneCfg_handed] at hserve
    refine (exec_setLaneFeed ..).trans (request_ite (fun hgo => ?_) fun hgo => request_ite (fun hsame => ?_) fun hsame => ?_)
    · exact request_refused s c q _ role _ h (hserve.trans (if_pos hgo))
    · exact request_answered s c q _ role id _ h (hserve.trans ((if_neg hgo).trans (if_pos hsame)))
    · exact request_answered s c q _ role _ _ h (hserve.trans ((if_neg hgo).trans (if_neg hsame)))
  · intro c h
    have hserve := serveSetLaneMode_maintenance (s := s.handed c q) role hl
    simp only [State.lane_handed] at hserve
    refine (exec_setLaneMode ..).trans (request_ite (fun hs => ?_) fun hs => request_ite (fun hrest => ?_) fun hrest => ?_)
    · exact request_answered s c q _ role id _ h (hserve.trans (if_pos hs))
    · exact request_answered s c q _ role _ _ h (hserve.trans ((if_neg hs).trans (if_pos hrest)))
    · exact request_refused s c q _ role _ h (hserve.trans ((if_neg hs).trans (if_neg hrest)))
  · intro c h
    have hserve := serveSetLaneMode_normal (s := s.handed c q) role hl
    simp only [State.lane_handed, State.laneCfg_handed, State.inp_handed] at hserve
    refine (exec_setLaneMode ..).trans (request_ite (fun hs => ?_) fun hs => ?_)
    · exact request_answered s c q _ role _ _ h (hserve.trans (if_pos hs))
    · exact request_refused s c q _ role _ h (hserve.trans (if_neg hs))
end

section
/-! SUPPORT. The conditioners and the stop loops: what an edge and the stuck timer make of their input and their lane (R126,
R127, R131, R132). -/

namespace Sys2Proof.Machine

variable {s : State} {l : Lane}

/-! ### Conditioners (R126, R127) -/

theorem State.conditionerEdge_of_run {i : Input} {n : Nat} (hrun : (s.inp i).run = some n) : s.conditionerEdge i =
    if (s.inp i).fresh = false ∧ (s.inpCfg i).debounce ≤ n then
      (s.modInp i fun w => { w with debounced := if w.raw then .active else .clear, run := none }).raise
        (edgeReaders i (if (s.inp i).raw then .rising else .falling))
    else s :=
  if_congr (by simp [hrun]) rfl rfl

/-- The blocks that read each input (R127). -/
theorem edgeReaders_eq (i : Input) (e : Edge) : edgeReaders i e =
    match i with
    | .stop l => [.stopLoopEdge l e]
    | .boom .aEntry => [.entryLoopEdgeAtArbiter .a e, .barrierLoopEdge .aEntry e, .positioningEdge .a i e]
    | .boom .aExit => [.exitLoopEdgeAtArbiter .a e, .barrierLoopEdge .aExit e, .positioningEdge .a i e]
    | .boom .bEntry => [.entryLoopEdgeAtArbiter .b e, .barrierLoopEdge .bEntry e, .positioningEdge .b i e]
    | .boom .bExit => [.exitLoopEdgeAtArbiter .b e, .barrierLoopEdge .bExit e, .positioningEdge .b i e]
    | .beam1 d => [.positioningEdge d i e, .deckEmpty d]
    | .beam2 d => [.positioningEdge d i e, .deckEmpty d] := by
  cases i with
  | boom b => cases b <;> rfl
  | _ => rfl

/-! ### Stop loops and stuck timers (R131, R132) -/

/-- A lane in state `old` enters `new`, its request as it was (R129). -/
def State.enterLane (s : State) (l : Lane) (old new : LaneState) : State :=
  ((s.modLane l fun w =>
    { w with state := new, stuck := if new = .present then some ((s.laneCfg l).stuck * 1000) else none }).post (.lane l)
      (.laneState l old new (((s.lane l).request).map LaneFiling.number))).flag .lanes

theorem State.changeLane_state {old new : LaneState} (hs : (s.lane l).state = old) (h : old ≠ new) :
    (s.changeLane l fun w => { w with state := new }) = s.enterLane l old new :=
  State.changeLane_of_ne hs rfl h rfl rfl

theorem State.stopLoopEdge_rising (s : State) (l : Lane) : s.stopLoopEdge l .rising =
    match (s.lane l).state with
    | .idle => s.enterLane l .idle .present
    | .waiting => s.modLane l fun w => { w with absence := none }
    | .present => s
    | .go => s
    | .maintenance => s
    | .fault => s := by
  unfold State.stopLoopEdge
  cases hs : (s.lane l).state with
  | idle => exact State.changeLane_state hs (by decide)
  | _ => rfl

theorem State.stopLoopEdge_falling (s : State) (l : Lane) : s.stopLoopEdge l .falling =
    match (s.lane l).state with
    | .present => s.enterLane l .present .idle
    | .fault => s.enterLane l .fault .idle
    | .waiting => s.modLane l fun w => { w with absence := some ((s.laneCfg l).absence * 1000) }
    | .idle => s
    | .go => s
    | .maintenance => s := by
  unfold State.stopLoopEdge
  cases hs : (s.lane l).state with
  | present => exact State.changeLane_state hs (by decide)
  | fault => exact State.changeLane_state hs (by decide)
  | _ => rfl

theorem State.stuckExpiry_eq (s : State) (l : Lane) : s.stuckExpiry l =
    if (s.lane l).state = .present ∧ (s.lane l).stuck = some 0 then s.enterLane l .present .fault else s :=
  ite_congr rfl (fun h => State.changeLane_state h.1 (by decide)) fun _ => rfl

end Sys2Proof.Machine

open Sys2Proof Sys2Proof.Machine

/-- Settles O42: a conditioner edge goes by the run and the configuration it finds, an edge of a stop loop by the state of
its lane, and the stuck timer by PRESENT (R126, R127, R131, R132). -/
theorem conditionersAndStopLoops : Obligations.ConditionersAndStopLoops := by
  refine ⟨fun s i n hrunning => ?_, fun s l hrunning => ⟨?_, ?_, ?_⟩⟩
  · intro c e hrun
    refine (exec_conditionerEdge ..).trans (event_after s c _ _ hrunning ?_)
    refine (State.conditionerEdge_of_run (s := s.consume c) hrun).trans (if_congr Iff.rfl ?_ rfl)
    exact congrArg (State.raise _) (edgeReaders_eq i e)
  · intro c
    exact (exec_stopLoopEdge ..).trans (event_after s c _ _ hrunning (State.stopLoopEdge_rising (s.consume c) l))
  · intro c
    exact (exec_stopLoopEdge ..).trans (event_after s c _ _ hrunning (State.stopLoopEdge_falling (s.consume c) l))
  · intro c
    exact (exec_stuckTimerExpiry ..).trans (event_after s c _ _ hrunning (State.stuckExpiry_eq (s.consume c) l))
end

section
/-! SUPPORT. The frame of the barriers and of the lanes beside their lamps: every operation that is not of the barrier or the
lane controllers leaves each of them as it was. -/

namespace Sys2Proof.Machine

/-- The barriers, and the lanes beside their lamps. -/
def State.gates (s : State) : PerBarrier BarrierWork × Bank 4 LaneWork := (s.inner.main.barriers, s.inner.main.lanes)

theorem State.gates_of_inner {s t : State} (h : t.inner = s.inner) : t.gates = s.gates :=
  congrArg (fun u : State => (u.main.barriers, u.main.lanes)) h

theorem State.bar_of_gates {s t : State} (h : t.gates = s.gates) (b : Barrier) : t.bar b = s.bar b :=
  congrArg (fun g : PerBarrier BarrierWork × Bank 4 LaneWork => g.1.get b) h

theorem State.lane_of_gates {s t : State} (h : t.gates = s.gates) (l : Lane) : (t.lane l).unlit = (s.lane l).unlit := by
  have hget : ∀ u : State, (u.lane l).unlit = u.gates.2.get l := fun u => by
    simp [State.gates, State.inner, State.lane, Vector.get_eq_getElem]
  rw [hget, hget, h]

section
variable (s : State) (r : Role)

/-! ### Rewritings of one item, deliveries and notices -/

@[simp] theorem State.gates_modRecs (f : Records → Records) : (s.modRecs f).gates = s.gates := rfl
@[simp] theorem State.gates_modArb (d : Deck) (f : Arbiter → Arbiter) : (s.modArb d f).gates = s.gates := rfl
@[simp] theorem State.gates_modEng (d : Deck) (f : Engine → Engine) : (s.modEng d f).gates = s.gates := rfl
@[simp] theorem State.gates_modWin (d : Deck) (f : WindowWork → WindowWork) : (s.modWin d f).gates = s.gates := rfl
@[simp] theorem State.gates_modChan (d : Channel) (f : ChannelWork → ChannelWork) : (s.modChan d f).gates = s.gates := rfl
@[simp] theorem State.gates_modInp (d : Input) (f : ConditionerWork → ConditionerWork) : (s.modInp d f).gates = s.gates := rfl
@[simp] theorem State.gates_modPort (d : Port) (f : PortWork → PortWork) : (s.modPort d f).gates = s.gates := rfl
@[simp] theorem State.gates_modPorts (f : PortWork → PortWork) : (s.modPorts f).gates = s.gates := rfl
@[simp] theorem State.gates_modSup (f : Supervisor → Supervisor) : (s.modSup f).gates = s.gates := rfl
@[simp] theorem State.gates_modDeckCfg (d : Deck) (f : DeckCfg → DeckCfg) : (s.modDeckCfg d f).gates = s.gates := rfl
@[simp] theorem State.gates_modChanCfg (d : Channel) (f : ChannelCfg → ChannelCfg) : (s.modChanCfg d f).gates = s.gates := rfl
@[simp] theorem State.gates_modLaneCfg (d : Lane) (f : LaneCfg → LaneCfg) : (s.modLaneCfg d f).gates = s.gates := rfl
@[simp] theorem State.gates_modBarCfg (d : Barrier) (f : BarrierCfg → BarrierCfg) : (s.modBarCfg d f).gates = s.gates := rfl
@[simp] theorem State.gates_modInpCfg (d : Input) (f : ConditionerCfg → ConditionerCfg) :
    (s.modInpCfg d f).gates = s.gates := rfl
@[simp] theorem State.gates_modPortCfg (d : Port) (f : PortCfg → PortCfg) : (s.modPortCfg d f).gates = s.gates := rfl
@[simp] theorem State.gates_modBackup (f : Backup → Backup) : (s.modBackup f).gates = s.gates := rfl
@[simp] theorem State.gates_setModeAt (r : ModeReader) (m : YardMode) : (s.setModeAt r m).gates = s.gates := rfl
@[simp] theorem State.gates_setSupplyAt (r : SupplyReader) (st : SupplyState) : (s.setSupplyAt r st).gates = s.gates := rfl
@[simp] theorem State.gates_setBoomAt (r : BarrierReader) (b : Barrier) (st : BarrierState) :
    (s.setBoomAt r b st).gates = s.gates := rfl
@[simp] theorem State.gates_seal : (s.seal).gates = s.gates := rfl
@[simp] theorem State.gates_raise (cs : List Instr) : (s.raise cs).gates = s.gates := rfl
@[simp] theorem State.gates_consume (c : Instr) : (s.consume c).gates = s.gates := rfl
@[simp] theorem State.gates_flag (f : Flag) : (s.flag f).gates = s.gates := rfl
@[simp] theorem State.gates_post (k : Block) (n : NoticeBody) (o : Option Port) : (s.post k n o).gates = s.gates := rfl

/-! ### Shared operations -/

@[simp] theorem State.gates_ite (c : Prop) [Decidable c] (t : State) :
    (if c then s else t).gates = if c then s.gates else t.gates := apply_ite State.gates c s t
@[simp] theorem State.gates_foldl {α : Type} (f : State → α → State) (h : ∀ t a, (f t a).gates = t.gates) (xs : List α) :
    (xs.foldl f s).gates = s.gates := State.foldl_keeps State.gates h xs s
@[simp] theorem State.gates_flagIf (b : Bool) (f : Flag) : (s.flagIf b f).gates = s.gates := by
  simp [State.flagIf]
@[simp] theorem State.gates_judgeLamps (l : Lane) : (s.judgeLamps l).gates = s.gates :=
  State.gates_of_inner (s.inner_judgeLamps l)
@[simp] theorem State.gates_settle (old : State) : (State.settle old s).gates = s.gates :=
  State.gates_of_inner (State.inner_settle old s)
@[simp] theorem State.gates_reply (q : Sender) (kind : Nat) (r : Reply) : (s.reply q kind r).gates = s.gates := rfl
@[simp] theorem State.gates_modLamp (l : Lane) (k : Lamp) (f : LampWork → LampWork) : (s.modLamp l k f).gates = s.gates := by
  refine State.gates_of_inner ?_
  rw [State.modLamp, State.inner_modLane]
  exact s.inner_putLane l

/-! ### Arbiters -/

@[simp] theorem State.gates_changeArb (d : Deck) (f : Arbiter → Arbiter) : (s.changeArb d f).gates = s.gates := by
  simp [State.changeArb]
@[simp] theorem State.gates_makeChoice (d : Deck) : (s.makeChoice d).gates = s.gates := by
  simp only [State.makeChoice]; (repeat' split) <;> simp
@[simp] theorem State.gates_withdrawal (d : Deck) (l : Lane) : (s.withdrawal d l).gates = s.gates := by
  unfold State.withdrawal; split <;> simp
@[simp] theorem State.gates_acceptance (d : Deck) (l : Lane) (number : Nat) : (s.acceptance d l number).gates = s.gates := by
  simp [State.acceptance]
@[simp] theorem State.gates_decline (d : Deck) (l : Lane) (number : Nat) : (s.decline d l number).gates = s.gates := by
  simp [State.decline]
@[simp] theorem State.gates_withdrawGrant (d : Deck) (cause : WithdrawCause) : (s.withdrawGrant d cause).gates = s.gates := by
  unfold State.withdrawGrant; split <;> simp
@[simp] theorem State.gates_proceedTimeout (d : Deck) : (s.proceedTimeout d).gates = s.gates := by
  simp [State.proceedTimeout]
@[simp] theorem State.gates_entryRise (d : Deck) : (s.entryRise d).gates = s.gates := by
  simp only [State.entryRise]; (repeat' split) <;> simp
@[simp] theorem State.gates_entryPassage (d : Deck) (g : Grant) : (s.entryPassage d g).gates = s.gates := by
  simp [State.entryPassage]
@[simp] theorem State.gates_intrusion (d : Deck) : (s.intrusion d).gates = s.gates := by
  simp [State.intrusion]
@[simp] theorem State.gates_entryFall (d : Deck) : (s.entryFall d).gates = s.gates := by
  simp only [State.entryFall]; (repeat' split) <;> simp
@[simp] theorem State.gates_exitFall (d : Deck) : (s.exitFall d).gates = s.gates := by
  unfold State.exitFall; split <;> simp
@[simp] theorem State.gates_modCurrent (d : Deck) (number : Nat) (f : Current → Current) :
    (s.modCurrent d number f).gates = s.gates := rfl
@[simp] theorem State.gates_exitRelease (d : Deck) (number : Option Nat) : (s.exitRelease d number).gates = s.gates := rfl
@[simp] theorem State.gates_forceExitNotice (d : Deck) (number : Nat) : (s.forceExitNotice d number).gates = s.gates := rfl
@[simp] theorem State.gates_deckEmpty (d : Deck) : (s.deckEmpty d).gates = s.gates := by
  simp [State.deckEmpty]
@[simp] theorem State.gates_barrierStateTaken (reader : BarrierReader) (b : Barrier) (st : BarrierState) :
    (s.barrierStateTaken reader b st).gates = s.gates := by
  simp only [State.barrierStateTaken]; split <;> simp
@[simp] theorem State.gates_markClosing (b : Barrier) (old : BarrierState) : (s.markClosing b old).gates = s.gates := by
  simp [State.markClosing]
@[simp] theorem gates_serveClearTailgate (deck : Nat) : (serveClearTailgate deck r s).1.gates = s.gates := by
  unfold serveClearTailgate; split <;> simp [apply_ite Prod.fst]

/-! ### Settings and readouts of barriers -/

@[simp] theorem gates_serveSetBarrier (barrier failAction motionLimit closeDelay halfPeriod : Nat) :
    (serveSetBarrier barrier failAction motionLimit closeDelay halfPeriod r s).1.gates = s.gates := by
  unfold serveSetBarrier; split <;> simp
@[simp] theorem gates_serveReadBarriers : (serveReadBarriers r s).1.gates = s.gates := rfl

/-! ### The frequency capture unit -/

@[simp] theorem State.gates_modChans (cs : List Channel) (f : ChannelWork → ChannelWork) :
    (s.modChans cs f).gates = s.gates :=
  s.gates_foldl (fun t c => t.modChan c f) (fun _ _ => rfl) cs
@[simp] theorem State.gates_openWindow (d : Deck) (boundary : Nat) : (s.openWindow d boundary).gates = s.gates := by
  simp [State.openWindow]
@[simp] theorem State.gates_maybeOpen (d : Deck) : (s.maybeOpen d).gates = s.gates := by
  simp [State.maybeOpen]
@[simp] theorem State.gates_dropCounts (d : Deck) : (s.dropCounts d).gates = s.gates := by
  simp [State.dropCounts]
@[simp] theorem State.gates_judgeChannel (d : Deck) (window : Nat) (c : Channel) :
    (s.judgeChannel d window c).gates = s.gates := by
  simp only [State.judgeChannel]; split <;> simp
@[simp] theorem State.gates_windowClose (d : Deck) : (s.windowClose d).gates = s.gates := by
  unfold State.windowClose; split <;> simp
@[simp] theorem State.gates_closeDue (d : Deck) (n : Nat) : (s.closeDue d n).gates = s.gates := by
  induction n generalizing s with
  | zero => rfl
  | succ n ih => rw [State.closeDue, ih, State.gates_windowClose]
@[simp] theorem State.gates_shortRecord (d : Deck) : (s.shortRecord d).gates = s.gates := by
  unfold State.shortRecord; split <;> simp
@[simp] theorem State.gates_shortClose (d : Deck) : (s.shortClose d).gates = s.gates := by
  rw [State.shortClose, State.gates_shortRecord, State.gates_closeDue]

/-! ### Engines, captures and calibration -/

@[simp] theorem State.gates_dropCapture (d : Deck) (reason : FailReason) : (s.dropCapture d reason).gates = s.gates := by
  unfold State.dropCapture; split <;> simp
@[simp] theorem State.gates_failCollection (d : Deck) (reason : CalFailReason) :
    (s.failCollection d reason).gates = s.gates := by
  unfold State.failCollection; split <;> simp
@[simp] theorem State.gates_refreshEngine (d : Deck) (window : Option Nat) :
    (s.refreshEngine d window).gates = s.gates := by
  simp [State.refreshEngine]
@[simp] theorem State.gates_refreshActive (d : Deck) (window : Option Nat) :
    (s.refreshActive d window).gates = s.gates := by
  simp [State.refreshActive]
@[simp] theorem State.gates_failCapture (d : Deck) (reason : FailReason) (window : Option Nat) :
    (s.failCapture d reason window).gates = s.gates := by
  simp [State.failCapture]
@[simp] theorem State.gates_changeZd (d : Deck) (delta : Int) : (s.changeZd d delta).gates = s.gates := rfl
@[simp] theorem State.gates_latchZeroLimit (d : Deck) (positive : Bool) (window : Option Nat) :
    (s.latchZeroLimit d positive window).gates = s.gates := by
  simp [State.latchZeroLimit]
@[simp] theorem State.gates_advanceCounter : s.advanceCounter.gates = s.gates := rfl
@[simp] theorem State.gates_touchDeck (old : State) (window : Option Nat) (d : Deck) :
    (State.touchDeck old s window d).gates = s.gates := by
  simp [State.touchDeck]
@[simp] theorem State.gates_metroChange (old : State) (ds : List Deck) (window : Option Nat) :
    (State.metroChange old s ds window).gates = s.gates := by
  simp [State.metroChange]
@[simp] theorem State.gates_setChange (old : State) (r : CalRequest) (ds : List Deck) (ch : Option Channel) :
    (State.setChange old s r ds ch).gates = s.gates := by
  simp [State.setChange]
@[simp] theorem gates_serveSetProceedTime (deck seconds : Nat) :
    (serveSetProceedTime deck seconds r s).1.gates = s.gates := by
  unfold serveSetProceedTime; split <;> simp
@[simp] theorem gates_serveReadDeckState (deck : Nat) : (serveReadDeckState deck r s).1.gates = s.gates := by
  unfold serveReadDeckState; split <;> simp
@[simp] theorem State.gates_storeMetrology (d : Deck) (m : Metrology) : (s.storeMetrology d m).gates = s.gates := by
  simp [State.storeMetrology]
@[simp] theorem gates_serveSetMetrology (deck mode max1 max2 e1 e2 window f sc : Nat) :
    (serveSetMetrology deck mode max1 max2 e1 e2 window f sc r s).1.gates = s.gates := by
  unfold serveSetMetrology; split <;> simp [apply_ite Prod.fst]
@[simp] theorem State.gates_writePair (r : CalRequest) (c : Channel) (f : ChannelCfg → ChannelCfg) :
    (s.writePair r c f).1.gates = s.gates := by
  simp [State.writePair, apply_ite Prod.fst]
@[simp] theorem gates_serveSetChannelFactor (channel k : Nat) :
    (serveSetChannelFactor channel k r s).1.gates = s.gates := by
  unfold serveSetChannelFactor; split <;> simp [apply_ite Prod.fst]
@[simp] theorem gates_serveSetChannelZero (channel z : Nat) : (serveSetChannelZero channel z r s).1.gates = s.gates := by
  unfold serveSetChannelZero; split <;> simp [apply_ite Prod.fst]
@[simp] theorem State.gates_startCollection (d : Deck) (k : CollectionKind) (origin : Port) :
    (s.startCollection d k origin).1.gates = s.gates := by
  unfold State.startCollection; split <;> simp
@[simp] theorem gates_serveCalZeroDeck (q : Sender) (deck : Nat) : (serveCalZeroDeck q deck r s).1.gates = s.gates := by
  unfold serveCalZeroDeck; split <;> simp
@[simp] theorem gates_serveCalSpanDeck (q : Sender) (deck : Nat) (load : Int) :
    (serveCalSpanDeck q deck load r s).1.gates = s.gates := by
  unfold serveCalSpanDeck; split <;> simp [apply_ite Prod.fst]
@[simp] theorem gates_serveAbortCalibration (deck : Nat) : (serveAbortCalibration deck r s).1.gates = s.gates := by
  unfold serveAbortCalibration; split <;> simp [apply_ite Prod.fst]
@[simp] theorem gates_serveReadCalibration (deck : Nat) : (serveReadCalibration deck r s).1.gates = s.gates := by
  unfold serveReadCalibration; split <;> simp
@[simp] theorem State.gates_takeCalSwitch : s.takeCalSwitch.gates = s.gates := by
  simp [State.takeCalSwitch]
@[simp] theorem State.gates_giveRelease (d : Deck) (n : Option Nat) : (s.giveRelease d n).gates = s.gates := rfl
@[simp] theorem gates_serveSetCaptureOptions (deck attempt n accept : Nat) :
    (serveSetCaptureOptions deck attempt n accept r s).1.gates = s.gates := by
  unfold serveSetCaptureOptions; split <;> simp
@[simp] theorem State.gates_startCapture (d : Deck) (origin : Option Port) :
    (s.startCapture d origin).gates = s.gates := by
  unfold State.startCapture; split <;> simp
@[simp] theorem gates_serveCapture (q : Sender) (deck : Nat) : (serveCapture q deck r s).1.gates = s.gates := by
  unfold serveCapture; split <;> simp [apply_ite Prod.fst]
@[simp] theorem gates_serveAbortCapture (deck : Nat) : (serveAbortCapture deck r s).1.gates = s.gates := by
  unfold serveAbortCapture; split <;> simp [apply_ite Prod.fst]
@[simp] theorem State.gates_recordsAbort (d : Deck) (number : Nat) : (s.recordsAbort d number).gates = s.gates := by
  simp [State.recordsAbort]
@[simp] theorem State.gates_attemptExpiry (d : Deck) : (s.attemptExpiry d).gates = s.gates := by
  simp only [State.attemptExpiry]; (repeat' split) <;> simp
@[simp] theorem State.gates_leaveDeckExpiry (d : Deck) : (s.leaveDeckExpiry d).gates = s.gates := by
  simp [State.leaveDeckExpiry]
@[simp] theorem State.gates_positioningEdge (d : Deck) (i : Input) (e : Edge) :
    (s.positioningEdge d i e).gates = s.gates := by
  simp only [State.positioningEdge]; (repeat' split) <;> simp
@[simp] theorem gates_serveZeroDeck (deck : Nat) : (serveZeroDeck deck r s).1.gates = s.gates := by
  simp only [serveZeroDeck]; (repeat' split) <;> simp
@[simp] theorem gates_serveReadCapture (deck : Nat) : (serveReadCapture deck r s).1.gates = s.gates := by
  unfold serveReadCapture; split <;> simp
@[simp] theorem State.gates_mapChannel (c : Channel) (m : Option Deck) (p : Edge) :
    (s.mapChannel c m p).gates = s.gates := by
  simp [State.mapChannel]
@[simp] theorem gates_serveSetChannelMap (channel map polarity : Nat) :
    (serveSetChannelMap channel map polarity r s).1.gates = s.gates := by
  unfold serveSetChannelMap; split <;> simp [apply_ite Prod.fst]
@[simp] theorem gates_serveSetChannelLimits (channel low high : Nat) :
    (serveSetChannelLimits channel low high r s).1.gates = s.gates := by
  unfold serveSetChannelLimits; split <;> simp [apply_ite Prod.fst]
@[simp] theorem gates_serveClearFaults (channel scope : Nat) :
    (serveClearFaults channel scope r s).1.gates = s.gates := by
  unfold serveClearFaults; split <;> simp
@[simp] theorem gates_serveReadChannels (deck : Nat) : (serveReadChannels deck r s).1.gates = s.gates := by
  simp only [serveReadChannels]; (repeat' split) <;> simp
@[simp] theorem State.gates_converterEdge (c : Channel) (e : Edge) : (s.converterEdge c e).gates = s.gates := by
  unfold State.converterEdge; split <;> simp

/-! ### Conditioners, lanes and lamps -/

@[simp] theorem State.gates_conditionerEdge (i : Input) : (s.conditionerEdge i).gates = s.gates := by
  simp [State.conditionerEdge]
@[simp] theorem gates_serveSetConditioner (input polarity debounce : Nat) :
    (serveSetConditioner input polarity debounce r s).1.gates = s.gates := by
  unfold serveSetConditioner; split <;> simp [apply_ite Prod.fst]
@[simp] theorem gates_serveReadInputs : (serveReadInputs r s).1.gates = s.gates := rfl
@[simp] theorem gates_serveSetLaneTimers (lane absence stuck : Nat) :
    (serveSetLaneTimers lane absence stuck r s).1.gates = s.gates := by
  unfold serveSetLaneTimers; split <;> simp
@[simp] theorem gates_serveSetLamp (lane lamp source blink stretch : Nat) :
    (serveSetLamp lane lamp source blink stretch r s).1.gates = s.gates := by
  unfold serveSetLamp; split <;> simp
@[simp] theorem gates_serveSetSignalHead (lane period : Nat) :
    (serveSetSignalHead lane period r s).1.gates = s.gates := by
  unfold serveSetSignalHead; split <;> simp
@[simp] theorem gates_serveSetLampInvert (flag : Nat) : (serveSetLampInvert flag r s).1.gates = s.gates := by
  unfold serveSetLampInvert; split <;> simp
@[simp] theorem gates_serveReadLane (lane : Nat) : (serveReadLane lane r s).1.gates = s.gates := by
  unfold serveReadLane; split <;> simp

/-! ### The supervisor -/

@[simp] theorem State.gates_changeMode (m : YardMode) (drain : Bool) : (s.changeMode m drain).gates = s.gates := rfl
@[simp] theorem State.gates_judgeDrain : s.judgeDrain.gates = s.gates := by
  simp [State.judgeDrain]
@[simp] theorem gates_serveSetYardMode (mode : Nat) : (serveSetYardMode mode r s).1.gates = s.gates := by
  simp only [serveSetYardMode]; (repeat' split) <;> simp
@[simp] theorem State.gates_modeAtCapture (d : Deck) (m : YardMode) : (s.modeAtCapture d m).gates = s.gates := by
  simp [State.modeAtCapture]
@[simp] theorem State.gates_modeTaken (r : ModeReader) (m : YardMode) : (s.modeTaken r m).gates = s.gates := by
  unfold State.modeTaken; split <;> simp
@[simp] theorem State.gates_qualify : s.qualify.gates = s.gates := by
  simp [State.qualify]
@[simp] theorem State.gates_startExpiry : s.startExpiry.gates = s.gates := by
  simp [State.startExpiry]
@[simp] theorem State.gates_enterSupplyLow : s.enterSupplyLow.gates = s.gates := by
  simp [State.enterSupplyLow]
@[simp] theorem State.gates_restoreSupply : s.restoreSupply.gates = s.gates := by
  simp [State.restoreSupply]
@[simp] theorem gates_serveYardReset (q : Sender) : (serveYardReset q r s).1.gates = s.gates := rfl
@[simp] theorem gates_serveSetAlarmMask (sources setting : Nat) :
    (serveSetAlarmMask sources setting r s).1.gates = s.gates := by
  unfold serveSetAlarmMask; split <;> simp
@[simp] theorem gates_serveReadSupervisor : (serveReadSupervisor r s).1.gates = s.gates := rfl
@[simp] theorem gates_serveListYard : (serveListYard r s).1.gates = s.gates := rfl
@[simp] theorem gates_serveReadTransaction (number : Nat) : (serveReadTransaction number r s).1.gates = s.gates := by
  unfold serveReadTransaction; split <;> simp
@[simp] theorem gates_serveFindPlate (plate : List Byte) : (serveFindPlate plate r s).1.gates = s.gates := by
  unfold serveFindPlate; split <;> simp

/-! ### The station ports -/

@[simp] theorem State.gates_judgeFrame (p : Port) (body : List Byte) : (s.judgeFrame p body).gates = s.gates := by
  simp only [State.judgeFrame]; (repeat' split) <;> simp
@[simp] theorem State.gates_frameComplete (p : Port) : (s.frameComplete p).gates = s.gates := by
  unfold State.frameComplete; split <;> simp
@[simp] theorem State.gates_character (p : Port) (c : Byte) (error : Bool) : (s.character p c error).gates = s.gates := by
  simp [State.character]
@[simp] theorem State.gates_frameSent (p : Port) : (s.frameSent p).gates = s.gates := by
  unfold State.frameSent; split <;> simp
@[simp] theorem State.gates_admitNotice (p : Port) (b : Block) : (s.admitNotice p b).gates = s.gates := rfl
@[simp] theorem gates_serveSetPortRate (q : Sender) (port rate : Nat) :
    (serveSetPortRate q port rate r s).1.gates = s.gates := by
  unfold serveSetPortRate; split <;> simp
@[simp] theorem gates_serveSetPortRole (port role : Nat) : (serveSetPortRole port role r s).1.gates = s.gates := by
  unfold serveSetPortRole; split <;> simp [apply_ite Prod.fst]
@[simp] theorem gates_serveBindKiosk (port lane : Nat) : (serveBindKiosk port lane r s).1.gates = s.gates := by
  unfold serveBindKiosk; split <;> simp [apply_ite Prod.fst]
@[simp] theorem gates_serveSetNoticeFloor (q : Sender) (floor : Nat) :
    (serveSetNoticeFloor q floor r s).1.gates = s.gates := rfl
@[simp] theorem gates_serveQuiet (q : Sender) (n : Nat) : (serveQuiet q n r s).1.gates = s.gates := rfl
@[simp] theorem gates_serveReadStatus (q : Sender) : (serveReadStatus q r s).1.gates = s.gates := rfl
@[simp] theorem gates_serveReadPorts : (serveReadPorts r s).1.gates = s.gates := rfl

/-! ### Records requests that change no record -/

@[simp] theorem gates_serveReadTare (plate : List Byte) : (serveReadTare plate r s).1.gates = s.gates := by
  unfold serveReadTare; split <;> simp
@[simp] theorem gates_serveListTares (start : Nat) : (serveListTares start r s).1.gates = s.gates := rfl
@[simp] theorem gates_serveSetTareValidity (lane days : Nat) :
    (serveSetTareValidity lane days r s).1.gates = s.gates := by
  unfold serveSetTareValidity; split <;> simp
@[simp] theorem gates_serveReadClock : (serveReadClock r s).1.gates = s.gates := rfl
@[simp] theorem gates_serveCollectNext : (serveCollectNext r s).1.gates = s.gates := by
  unfold serveCollectNext; split <;> simp
@[simp] theorem gates_serveReadTicket (number : Nat) : (serveReadTicket number r s).1.gates = s.gates := by
  unfold serveReadTicket; split <;> simp

/-! ### Windows at the engines -/

@[simp] theorem State.gates_takeWindow (w : WindowRecord) : (s.takeWindow w).1.gates = s.gates := by
  simp only [State.takeWindow]; split <;> simp [apply_ite Prod.fst]
@[simp] theorem State.gates_completeCapture (d : Deck) (c : Capture) (weight : Int) (e : Nat) (cls : WeighClass) (window : Nat) :
    (s.completeCapture d c weight e cls window).gates = s.gates := by
  simp [State.completeCapture]
@[simp] theorem State.gates_testStability (d : Deck) (c : Capture) (r : Reading) :
    (s.testStability d c r).gates = s.gates := by
  simp only [State.testStability]; (repeat' split) <;> simp
@[simp] theorem State.gates_modCapture (d : Deck) (f : Capture → Capture) : (s.modCapture d f).gates = s.gates := rfl
@[simp] theorem State.gates_offerCapture (d : Deck) (r : Reading) (marked : Bool) :
    (s.offerCapture d r marked).gates = s.gates := by
  unfold State.offerCapture; split <;> simp
@[simp] theorem State.gates_trackZero (d : Deck) (r : Reading) : (s.trackZero d r).gates = s.gates := by
  unfold State.trackZero; split <;> simp
@[simp] theorem State.gates_zeroCompletion (d : Deck) (k : Collection) (window : Nat) :
    (s.zeroCompletion d k window).gates = s.gates := by
  simp only [State.zeroCompletion, State.gates_post, State.gates_metroChange, State.gates_modEng, State.gates_modDeckCfg]
  refine s.gates_foldl _ ?_ _
  exact fun _ _ => rfl
@[simp] theorem State.gates_spanCompletion (d : Deck) (k : Collection) (load : Int) (window : Nat) :
    (s.spanCompletion d k load window).gates = s.gates := by
  simp only [State.spanCompletion, State.gates_ite, State.gates_failCollection, State.gates_post, State.gates_metroChange,
    State.gates_modEng, ite_eq_left_iff]
  refine fun _ => s.gates_foldl _ ?_ _
  exact fun _ _ => rfl
@[simp] theorem State.gates_putCollection (d : Deck) (k : Collection) : (s.putCollection d k).gates = s.gates := rfl
@[simp] theorem State.gates_offerCollection (d : Deck) (w : WindowRecord) (r : Reading) :
    (s.offerCollection d w r).gates = s.gates := by
  simp only [State.offerCollection]; (repeat' split) <;> simp
@[simp] theorem State.gates_engineWindow (w : WindowRecord) : (s.engineWindow w).gates = s.gates := by
  simp [State.engineWindow]
@[simp] theorem gates_serveSetOccupancy (deck threshold : Nat) :
    (serveSetOccupancy deck threshold r s).1.gates = s.gates := by
  unfold serveSetOccupancy; split <;> simp [apply_ite Prod.fst]
@[simp] theorem gates_serveReadDeck (deck : Nat) : (serveReadDeck deck r s).1.gates = s.gates := by
  unfold serveReadDeck; split <;> simp

/-! ### The yard records -/

@[simp] theorem State.gates_modEntry (n : Nat) (f : Entry → Entry) : (s.modEntry n f).gates = s.gates := rfl
@[simp] theorem State.gates_dropEntry (n : Nat) : (s.dropEntry n).gates = s.gates := rfl
@[simp] theorem State.gates_applyTare (w : TareWrite) : (s.applyTare w).gates = s.gates := by
  unfold State.applyTare; split <;> simp
@[simp] theorem State.gates_issue (t : Ticket) : (s.issue t).gates = s.gates := by
  simp [State.issue]
@[simp] theorem State.gates_attemptClosure (e : Entry) : (s.attemptClosure e).gates = s.gates := by
  simp only [State.attemptClosure]; (repeat' split) <;> simp
@[simp] theorem State.gates_retry : s.retry.gates = s.gates := by
  simp [State.retry]
@[simp] theorem State.gates_cancelOnDeck (e : Entry) : (s.cancelOnDeck e).gates = s.gates := by
  simp only [State.cancelOnDeck]; split <;> simp
@[simp] theorem State.gates_withdrawalReport (number : Nat) : (s.withdrawalReport number).gates = s.gates := by
  simp only [State.withdrawalReport]; (repeat' split) <;> simp
@[simp] theorem State.gates_entryPassageReport (d : Deck) (number : Nat) :
    (s.entryPassageReport d number).gates = s.gates := by
  simp only [State.entryPassageReport]; split <;> simp
@[simp] theorem State.gates_tareCompletion (e : Entry) (c : CaptureResult) : (s.tareCompletion e c).gates = s.gates := by
  simp only [State.tareCompletion]; (repeat' split) <;> simp
@[simp] theorem State.gates_afterWeighing (e : Entry) (c : CaptureResult) (p : Purpose) :
    (s.afterWeighing e c p).gates = s.gates := by
  simp only [State.afterWeighing]; split <;> simp
@[simp] theorem State.gates_captureCompletion (c : CaptureResult) : (s.captureCompletion c).gates = s.gates := by
  simp only [State.captureCompletion]; (repeat' split) <;> simp
@[simp] theorem State.gates_captureFailure (number : Nat) (reason : FailReason) :
    (s.captureFailure number reason).gates = s.gates := rfl
@[simp] theorem State.gates_exitPassageReport (number : Nat) : (s.exitPassageReport number).gates = s.gates := by
  unfold State.exitPassageReport; split <;> simp
theorem gates_onEntry (number : Nat) (f : Entry → State → State × Reply) (hf : ∀ e, (f e s).1.gates = s.gates) :
    (onEntry number f r s).1.gates = s.gates := by
  simp only [onEntry]; (repeat' split) <;> simp [hf]
@[simp] theorem gates_serveIdentify (q : Sender) (lane : Nat) (plate : List Byte) (tag : Option Nat)
    (mode account material intent priority : Nat) :
    (serveIdentify q lane plate tag mode account material intent priority r s).1.gates = s.gates := by
  simp only [serveIdentify, State.admission, State.recallEntry]; (repeat' split) <;> simp
@[simp] theorem gates_serveHold (q : Sender) (number reason : Nat) : (serveHold q number reason r s).1.gates = s.gates :=
  gates_onEntry s r number _ fun _ => by split <;> simp
@[simp] theorem gates_serveReleaseHold (number : Nat) : (serveReleaseHold number r s).1.gates = s.gates :=
  gates_onEntry s r number _ fun _ => by split <;> simp
@[simp] theorem gates_serveAmend (number : Nat) (account : Option Nat) (line : Option (Nat × Nat)) :
    (serveAmend number account line r s).1.gates = s.gates :=
  gates_onEntry s r number _ fun _ => by dsimp only; (repeat' split) <;> simp
@[simp] theorem gates_serveCancel (number : Nat) : (serveCancel number r s).1.gates = s.gates :=
  gates_onEntry s r number _ fun _ => by dsimp only; (repeat' split) <;> simp
@[simp] theorem gates_serveQuarantine (number : Nat) : (serveQuarantine number r s).1.gates = s.gates :=
  gates_onEntry s r number _ fun _ => by (repeat' split) <;> simp
@[simp] theorem gates_serveClose (number : Nat) : (serveClose number r s).1.gates = s.gates :=
  gates_onEntry s r number _ fun _ => by (repeat' split) <;> simp
@[simp] theorem gates_serveForceExit (number : Nat) : (serveForceExit number r s).1.gates = s.gates :=
  gates_onEntry s r number _ fun _ => by dsimp only; (repeat' split) <;> simp
@[simp] theorem gates_serveStoreTare (plate : List Byte) (tag : Option Nat) (weight : Int) (cls validity account : Nat) :
    (serveStoreTare plate tag weight cls validity account r s).1.gates = s.gates := by
  simp only [serveStoreTare]; (repeat' split) <;> simp
@[simp] theorem gates_serveDeleteTare (plate : List Byte) : (serveDeleteTare plate r s).1.gates = s.gates := by
  unfold serveDeleteTare; split <;> simp
@[simp] theorem gates_serveSetClock (year month day hour minute second : Nat) :
    (serveSetClock year month day hour minute second r s).1.gates = s.gates := by
  simp only [serveSetClock]; split <;> simp
@[simp] theorem gates_serveSetTicketBase (n : Nat) : (serveSetTicketBase n r s).1.gates = s.gates := by
  unfold serveSetTicketBase; (repeat' split) <;> simp
@[simp] theorem gates_serveVoidTicket (number reason : Nat) : (serveVoidTicket number reason r s).1.gates = s.gates := by
  unfold serveVoidTicket; (repeat' split) <;> simp
@[simp] theorem gates_serveConfirmCollected (n : Nat) : (serveConfirmCollected n r s).1.gates = s.gates := by
  simp only [serveConfirmCollected]; (repeat' split) <;> simp
end

end Sys2Proof.Machine
end

section
/-! SUPPORT. The law of a barrier and the law of a lane under every change that the controllers make of them (R129, R136,
R149, R165). -/

namespace Sys2Proof.Machine

/-! ### Barriers -/

section
variable {w : BarrierWork}

theorem BarrierWork.Law.cause_none (h : w.Law) (hs : w.state ≠ .fault) : w.cause = none :=
  Option.not_isSome_iff_eq_none.mp (mt h.cause.mp hs)

theorem BarrierWork.Law.latch_clear (h : w.Law) (hs : w.state ≠ .raising ∧ w.state ≠ .up) : w.latch = false :=
  Bool.eq_false_iff.mpr fun hl => (h.latch hl).elim hs.1 hs.2

/-- A change within a state keeps the law where it drops, and starts nothing, of what the state allows. -/
theorem BarrierWork.Law.within {v : BarrierWork} (h : w.Law) (hstate : v.state = w.state) (hcause : v.cause = w.cause)
    (hmotion : v.motion.isSome = w.motion.isSome) (hreversal : v.reversal = true → w.reversal = true)
    (hdelay : v.closeDelay.isSome = true → w.closeDelay.isSome = true) (hlatch : v.latch = true → w.latch = true)
    (hhalf : v.half.isSome = true → w.half.isSome = true) : v.Law where
  cause := by rw [hcause, hstate]; exact h.cause
  motion := by rw [hmotion, hstate]; exact h.motion
  reversal hv := hstate ▸ h.reversal (hreversal hv)
  closeDelay hv := hstate ▸ h.closeDelay (hdelay hv)
  latch hv := hstate ▸ h.latch (hlatch hv)
  keepalive hv := hstate ▸ h.keepalive (hhalf hv)

/-- A barrier that is in no motion, but for FAULT. -/
theorem BarrierWork.Law.of_rest (hstate : w.state = .up ∨ w.state = .down ∨ w.state = .stopped) (hcause : w.cause = none)
    (hmotion : w.motion = none) (hreversal : w.reversal = false)
    (hdelay : w.closeDelay.isSome = true → w.state = .up ∨ w.state = .stopped)
    (hlatch : w.latch = true → w.state = .up) : w.Law where
  cause := by rcases hstate with hs | hs | hs <;> simp [hs, hcause]
  motion := by rcases hstate with hs | hs | hs <;> simp [hs, hmotion]
  reversal hv := by simp [hreversal] at hv
  closeDelay := hdelay
  latch hv := .inr (hlatch hv)
  keepalive _ := by rcases hstate with hs | hs | hs <;> simp [hs]

section
variable (hcause : w.cause = none)
include hcause

theorem BarrierWork.law_raising (c : BarrierCfg) : (w.raising c).Law := by
  unfold BarrierWork.raising
  split
  · exact .of_rest (.inl rfl) hcause rfl rfl nofun fun _ => rfl
  · exact ⟨by simp [hcause], by simp [BarrierCfg.motion], fun _ => rfl, nofun, fun _ => .inl rfl, fun _ => nofun⟩

theorem BarrierWork.law_stopped (hlatch : w.latch = false) : w.stopped.Law :=
  .of_rest (.inr (.inr rfl)) hcause rfl rfl (fun _ => .inr rfl) fun h => absurd (hlatch.symm.trans h) nofun

theorem BarrierWork.law_toDown (hlatch : w.latch = false) : w.toDown.Law :=
  .of_rest (.inr (.inl rfl)) hcause rfl rfl nofun fun h => absurd (hlatch.symm.trans h) nofun

theorem BarrierWork.law_lowering (hlatch : w.latch = false) (c : BarrierCfg) : (w.lowering c).Law := by
  unfold BarrierWork.lowering
  split
  · exact law_toDown hcause hlatch
  · exact ⟨by simp [hcause], by simp [BarrierCfg.motion], nofun, nofun, by simp [hlatch], fun _ => nofun⟩

/-- A console command (R164). -/
theorem BarrierWork.law_command (c : BarrierCfg) (a : BarrierAction) : (w.command c a).Law := by
  have hheld : ({ w with latch := false, closeDelay := none, hold := .command } : BarrierWork).cause = none := hcause
  cases a with
  | raise => exact law_raising hheld c
  | lower => exact law_lowering hheld rfl c
  | stop => exact law_stopped hheld rfl

end

theorem BarrierWork.law_faulted (cause : FaultCause) : (w.faulted cause).Law :=
  ⟨by simp [BarrierWork.faulted], by simp [BarrierWork.faulted], nofun, nofun, nofun, nofun⟩

/-- Placement, but for the keepalive line, which is judged at its end (R165, R168). -/
theorem BarrierWork.law_placed (w : BarrierWork) : ({ w.placed with half := none } : BarrierWork).Law := by
  unfold BarrierWork.placed placedState
  cases w.upper <;> cases w.lower <;> exact ⟨by simp, by simp, nofun, nofun, nofun, nofun⟩

/-- A barrier as a start leaves it (R168). -/
theorem BarrierWork.law_started (w : BarrierWork) (a : FailAction) : (w.started a).Law := by
  have hplaced := w.law_placed
  unfold BarrierWork.started
  split
  · next hs =>
    have hcause : w.placed.cause = none := hplaced.cause_none (by rcases hs with hs | hs <;> simp [hs])
    split
    · exact hplaced.within rfl rfl rfl id nofun id id
    · exact (law_stopped hcause rfl).within rfl rfl rfl id nofun id nofun
  · exact hplaced.within rfl rfl rfl id nofun id id

/-- The keepalive line of a barrier that is not in FAULT may toggle (R165). -/
theorem BarrierWork.Law.setHalf (h : ({ w with half := none } : BarrierWork).Law) {t : Option Nat}
    (ht : t.isSome = true → w.state ≠ .fault) : ({ w with half := t } : BarrierWork).Law :=
  ⟨h.cause, h.motion, h.reversal, h.closeDelay, h.latch, ht⟩

theorem BarrierWork.Law.startCloseDelay (h : w.Law) (hs : w.state = .up ∨ w.state = .stopped) (t : Option Nat) :
    ({ w with closeDelay := t } : BarrierWork).Law :=
  ⟨h.cause, h.motion, h.reversal, fun _ => hs, h.latch, h.keepalive⟩

theorem BarrierWork.Law.clearLatch (h : w.Law) : ({ w with latch := false } : BarrierWork).Law :=
  h.within rfl rfl rfl id id nofun id

/-- A barrier that rises on its latch stops when the latch is cleared (R155, R156). -/
theorem BarrierWork.Law.stopOnLatch (h : w.Law) (honLatch : w.onLatch = true) :
    ({ w.stopped with latch := false } : BarrierWork).Law := by
  have hs : w.state = .raising := (w.onLatch_iff.mp honLatch).1
  exact law_stopped (w := { w with latch := false }) (h.cause_none (by rw [hs]; nofun)) rfl

theorem BarrierWork.Law.tick (h : w.Law) (upper lower : Bool) : (w.tick upper lower).Law :=
  h.within rfl rfl (by simp [BarrierWork.tick, countDown]) id (by simp [BarrierWork.tick, countDown]) id
    (by simp [BarrierWork.tick, countDown])

end

/-! ### Lanes -/

section
variable {w : LaneWork}

theorem LaneWork.law_unlit : w.unlit.Law ↔ w.Law :=
  ⟨fun h => ⟨h.request, h.grant, h.absence, h.stuck, h.filed, h.held⟩,
    fun h => ⟨h.request, h.grant, h.absence, h.stuck, h.filed, h.held⟩⟩

theorem LaneWork.Law.request_none (h : w.Law) (hs : w.state ≠ .waiting ∧ w.state ≠ .go) : w.request = none :=
  Option.not_isSome_iff_eq_none.mp fun hr => (h.request.mp hr).elim hs.1 hs.2

theorem LaneWork.Law.grant_none (h : w.Law) (hs : w.state ≠ .go) : w.grant = none :=
  Option.not_isSome_iff_eq_none.mp (mt h.grant.mp hs)

theorem LaneWork.Law.absence_none (h : w.Law) (hs : w.state ≠ .waiting) : w.absence = none :=
  Option.not_isSome_iff_eq_none.mp (mt h.absence hs)

/-- A lane enters its state with the stuck timer of that state (R129). -/
def LaneWork.entered (w : LaneWork) (c : LaneCfg) : LaneWork :=
  { w with stuck := if w.state = .present then loadStuck c else none }

theorem LaneWork.stuck_entered (w : LaneWork) (c : LaneCfg) : (w.entered c).stuck.isSome = true ↔ w.state = .present := by
  unfold LaneWork.entered loadStuck
  split <;> simp_all

/-- A lane enters a state other than WAITING and GO without request, grant and absence timer. -/
theorem LaneWork.law_entered_vacant (hrequest : w.request = none) (hgrant : w.grant = none) (habsence : w.absence = none)
    (hs : w.state ≠ .waiting ∧ w.state ≠ .go) (c : LaneCfg) : (w.entered c).Law where
  request := by simp [LaneWork.entered, hrequest, hs]
  grant := by simp [LaneWork.entered, hgrant, hs]
  absence := by simp [LaneWork.entered, habsence]
  stuck := w.stuck_entered c
  filed r hr := absurd (hrequest.symm.trans hr) nofun
  held r d hr := absurd (hrequest.symm.trans hr) nofun

/-- A lane goes from one state other than WAITING and GO to another (R131, R132, R141). -/
theorem LaneWork.Law.enter (h : w.Law) (hs : w.state ≠ .waiting ∧ w.state ≠ .go) {st : LaneState}
    (hst : st ≠ .waiting ∧ st ≠ .go) (c : LaneCfg) : (LaneWork.entered { w with state := st } c).Law :=
  law_entered_vacant (w := { w with state := st }) (h.request_none hs) (h.grant_none hs.2) (h.absence_none hs.1) hst c

/-- A lane leaves WAITING or GO without its request (R134, R135, R137, R138). -/
theorem LaneWork.law_rest {st : LaneState} (hst : st ≠ .waiting ∧ st ≠ .go) (c : LaneCfg) : ((w.rest st).entered c).Law :=
  law_entered_vacant (w := w.rest st) rfl rfl rfl hst c

/-- A feed has a deck. -/
theorem Feed.has_some (f : Feed) : f.has .a = true ∨ f.has .b = true := by cases f <;> decide

/-- A lane takes a request and is WAITING (R133). -/
theorem LaneWork.Law.file (h : w.Law) (hs : w.state ≠ .go) {f : LaneFiling} (hf : f.filed.a = true ∨ f.filed.b = true)
    (t : Option Nat) (c : LaneCfg) :
    (LaneWork.entered { w with state := .waiting, request := some f, absence := t } c).Law where
  request := by simp [LaneWork.entered]
  grant := by simp [LaneWork.entered, h.grant_none hs]
  absence _ := rfl
  stuck := LaneWork.stuck_entered _ c
  filed := by rintro _ ⟨⟩; exact hf
  held r d _ hd := absurd ((h.grant_none hs).symm.trans hd) nofun

/-- A lane accepts an offer: its request stands filed at the granting deck alone (R113, R136). -/
theorem LaneWork.law_accepted {f : LaneFiling} (hf : w.request = some f) {d : Deck} (hd : f.filed.get d = true) (c : LaneCfg) :
    (LaneWork.entered
      { w with
        state := .go, absence := none, grant := some d
        request := w.request.map fun r => { r with filed := r.filed.mod d.other fun _ => false } } c).Law where
  request := by simp [LaneWork.entered, hf]
  grant := by simp [LaneWork.entered]
  absence := nofun
  stuck := LaneWork.stuck_entered _ c
  filed := by
    rw [LaneWork.entered, hf]
    rintro _ ⟨⟩
    cases d with
    | a => exact .inl hd
    | b => exact .inr hd
  held := by
    rw [LaneWork.entered, hf]
    rintro _ _ ⟨⟩ ⟨⟩
    cases d with
    | a => exact ⟨hd, rfl⟩
    | b => exact ⟨hd, rfl⟩

/-- A WAITING lane files its request at other decks (R139). -/
theorem LaneWork.Law.refile (h : w.Law) (hs : w.state = .waiting) {f : LaneFiling}
    (hf : f.filed.a = true ∨ f.filed.b = true) : ({ w with request := some f } : LaneWork).Law where
  request := by simp [hs]
  grant := h.grant
  absence := h.absence
  stuck := h.stuck
  filed := by rintro _ ⟨⟩; exact hf
  held r d _ hd := absurd ((h.grant_none (by rw [hs]; nofun)).symm.trans hd) nofun

theorem LaneWork.Law.setAbsence (h : w.Law) {t : Option Nat} (ht : t.isSome = true → w.state = .waiting) :
    ({ w with absence := t } : LaneWork).Law :=
  ⟨h.request, h.grant, ht, h.stuck, h.filed, h.held⟩

theorem LaneWork.Law.tick (h : w.Law) (active : Bool) : (w.tick active).Law where
  request := h.request
  grant := h.grant
  absence hv := h.absence (w.absence_present_tick active ▸ hv)
  stuck := by simpa [countDown] using h.stuck
  filed := h.filed
  held := h.held

end

end Sys2Proof.Machine
end

section
/-! SUPPORT. Every operation of the barrier and of the lane controllers keeps their laws (R129, R136, R149, R165). -/

namespace Sys2Proof.Machine

theorem State.bar_changeLane (s : State) (l : Lane) (f : LaneWork → LaneWork) (b : Barrier) :
    (s.changeLane l f).bar b = s.bar b := by
  simp only [State.changeLane]
  split <;> rfl

/-- `t` holds the law of a barrier and of a lane wherever `s` does. -/
structure State.KeepsGates (s t : State) : Prop where
  bar : ∀ b, (s.bar b).Law → (t.bar b).Law
  lane : ∀ l, (s.lane l).Law → (t.lane l).Law

namespace State.KeepsGates

theorem refl (s : State) : s.KeepsGates s := ⟨fun _ => id, fun _ => id⟩

theorem trans {s t u : State} (h : s.KeepsGates t) (k : t.KeepsGates u) : s.KeepsGates u :=
  ⟨fun b => k.bar b ∘ h.bar b, fun l => k.lane l ∘ h.lane l⟩

theorem ite {s t u : State} {c : Prop} [Decidable c] (ht : c → s.KeepsGates t) (hu : ¬ c → s.KeepsGates u) :
    s.KeepsGates (if c then t else u) := by
  split
  · exact ht ‹_›
  · exact hu ‹_›

theorem ite_fst {s : State} {x y : State × Reply} {c : Prop} [Decidable c] (hx : c → s.KeepsGates x.1)
    (hy : ¬ c → s.KeepsGates y.1) : s.KeepsGates (if c then x else y).1 := by
  rw [apply_ite Prod.fst]
  exact ite hx hy

theorem foldl {α : Type} {f : State → α → State} (hf : ∀ (s : State) (a : α), s.KeepsGates (f s a)) (xs : List α)
    (s : State) : s.KeepsGates (xs.foldl f s) := by
  induction xs generalizing s with
  | nil => exact refl s
  | cons a xs ih => exact (hf s a).trans (ih _)

theorem of_lanes {s t : State} (hlane : ∀ l, (t.lane l).unlit = (s.lane l).unlit)
    (hbar : ∀ b, (s.bar b).Law → (t.bar b).Law) : s.KeepsGates t :=
  ⟨hbar, fun l h => LaneWork.law_unlit.mp (hlane l ▸ LaneWork.law_unlit.mpr h)⟩

theorem of_gates {s t : State} (h : t.gates = s.gates) : s.KeepsGates t :=
  of_lanes (State.lane_of_gates h) fun b => by rw [State.bar_of_gates h]; exact id

section
variable (s : State) (b : Barrier)

/-! ### Barriers -/

theorem modBar (f : BarrierWork → BarrierWork) (hf : (s.bar b).Law → (f (s.bar b)).Law) : s.KeepsGates (s.modBar b f) := by
  refine of_lanes (fun _ => rfl) fun c => ?_
  by_cases hc : c = b
  · rwa [hc, State.bar_modBar_self]
  · rw [State.bar_modBar_ne s b f hc]
    exact id

theorem changeBar (reason : BarrierReason) (f : BarrierWork → BarrierWork) (hf : (s.bar b).Law → (f (s.bar b)).Law) :
    s.KeepsGates (s.changeBar b reason f) := by
  refine of_lanes (State.Steady.changeBar s b reason f).lane fun c => ?_
  by_cases hc : c = b
  · rwa [hc, State.bar_changeBar]
  · rw [State.bar_changeBar_ne s reason f hc]
    exact id

theorem faultBar (cause : FaultCause) : s.KeepsGates (s.faultBar b cause) :=
  changeBar s b _ _ fun _ => BarrierWork.law_faulted cause

/-- A barrier that starts to lower is UP or STOPPED with its latch CLEAR (R158). -/
theorem lowers (h : s.mayLower b = true) :
    s.KeepsGates (s.changeBar b .closeDelay fun w => w.lowering (s.barCfg b)) := by
  obtain ⟨hs, hlatch, -⟩ := (s.mayLower_iff b).mp h
  have hfault : (s.bar b).state ≠ .fault := by rcases hs with hs | hs <;> simp [hs]
  exact changeBar s b _ _ fun hlaw => BarrierWork.law_lowering (hlaw.cause_none hfault) hlatch _

theorem dropCloseDelay : s.KeepsGates (s.modBar b fun w => { w with closeDelay := none }) :=
  modBar s b _ fun h => h.within rfl rfl rfl id nofun id id

theorem judgeLowering : s.KeepsGates (s.judgeLowering b) := by
  refine ite (fun _ => dropCloseDelay s b) fun hmay => ite (fun _ => refl s) fun _ => ?_
  have hmay : s.mayLower b = true := by simpa using hmay
  obtain ⟨hs, -⟩ := (s.mayLower_iff b).mp hmay
  exact ite (fun _ => lowers s b hmay) fun _ => modBar s b _ fun h => h.startCloseDelay hs _

theorem judgeKeepalive_law (h : ({ s.bar b with half := none } : BarrierWork).Law) : ((s.judgeKeepalive b).bar b).Law := by
  rw [State.judgeKeepalive, State.bar_modBar_self]
  refine h.setHalf fun ht hfault => ?_
  simp [State.toggles, hfault] at ht

theorem judgeKeepalive : s.KeepsGates (s.judgeKeepalive b) := by
  have hlaw : (s.bar b).Law → ((s.judgeKeepalive b).bar b).Law := fun h =>
    judgeKeepalive_law s b (h.within rfl rfl rfl id id id nofun)
  rw [State.judgeKeepalive, State.bar_modBar_self] at hlaw
  exact modBar s b _ hlaw

/-- The fail action stops a barrier or keeps it in its state, with its latch CLEAR (R156). -/
theorem failAction (hs : (s.bar b).Law → (s.bar b).state ≠ .fault) : s.KeepsGates (s.failAction b) := by
  refine changeBar s b _ _ fun h => ?_
  have hcause := h.cause_none (hs h)
  have hstopped : ({ (s.bar b).stopped with latch := false } : BarrierWork).Law :=
    BarrierWork.law_stopped (w := { s.bar b with latch := false }) hcause rfl
  split
  · split
    · exact hstopped
    · exact h.clearLatch
  · exact hstopped.within rfl rfl rfl id id id id

/-- Placement needs no law: it gives every item that the law speaks of (R168). -/
theorem place_law : ((s.place b).bar b).Law := by
  have hbar : (s.changeBar b .placement BarrierWork.placed).bar b = (s.bar b).placed := State.bar_changeBar ..
  have hplaced : ({ (s.changeBar b .placement BarrierWork.placed).bar b with half := none } : BarrierWork).Law :=
    by rw [hbar]; exact (s.bar b).law_placed
  unfold State.place
  generalize s.changeBar b .placement BarrierWork.placed = t at hplaced
  dsimp only
  by_cases hfault : (t.bar b).state = .fault
  · have hmay : ¬ t.MayLower b := by simp [State.MayLower, hfault]
    rw [if_neg (by simp [hfault])]
    refine judgeKeepalive_law _ b ?_
    rw [State.judgeLowering_not hmay, State.bar_modBar_self]
    exact hplaced.within rfl rfl rfl id nofun id id
  · have hlaw : (t.bar b).Law := hplaced.setHalf fun _ => hfault
    have hfailed : t.KeepsGates (if ((t.bar b).state = .up ∨ (t.bar b).state = .stopped) ∧ t.permissiveNow b = false then
        t.failAction b else t) := ite (fun _ => failAction t b fun _ => hfault) fun _ => refl t
    exact ((hfailed.trans (judgeLowering ..)).trans (judgeKeepalive ..)).bar b hlaw

theorem place : s.KeepsGates (s.place b) := by
  refine of_lanes (State.Steady.place s b).lane fun c h => ?_
  by_cases hc : c = b
  · rw [hc]; exact place_law s b
  · rwa [State.bar_place_ne s hc]

/-- A permissive rise raises the boom, or sets the latch of one that rises already or is UP (R154). -/
theorem permissiveRise : s.KeepsGates (s.permissiveRise b) := by
  refine ite (fun _ => refl s) fun _ => (changeBar s b _ _ fun h => ?_).trans (judgeLowering ..)
  have hcause (hs : (s.bar b).state ≠ .fault) :
      ({ s.bar b with permissive := true, latch := true, hold := .none } : BarrierWork).cause = none := h.cause_none hs
  dsimp only
  split
  · next hs => exact BarrierWork.law_raising (hcause (by rw [hs]; nofun)) _
  · next hs => exact BarrierWork.law_raising (hcause (by rw [hs]; nofun)) _
  · next hs => exact BarrierWork.law_raising (hcause (by rw [hs]; nofun)) _
  · next hs => exact ⟨h.cause, h.motion, nofun, h.closeDelay, fun _ => .inl hs, h.keepalive⟩
  · next hs => exact ⟨h.cause, h.motion, h.reversal, nofun, fun _ => .inr hs, h.keepalive⟩
  · exact h

theorem permissiveFall : s.KeepsGates (s.permissiveFall b) := by
  have hfell : s.KeepsGates (s.modBar b fun w => { w with permissive := false }) :=
    modBar s b _ fun h => h.within rfl rfl rfl id id id id
  refine ite (fun _ => refl s) fun _ => ite (fun _ => hfell) fun hlatch => ite (fun _ => ?_) fun _ => ?_
  · refine (hfell.trans (changeBar _ b _ _ fun h => ?_)).trans (judgeLowering ..)
    dsimp only
    split
    · next honLatch => exact h.stopOnLatch honLatch
    · exact h.clearLatch
  · refine (hfell.trans (failAction _ b fun h hfault => ?_)).trans (judgeLowering ..)
    rw [State.bar_modBar_self] at h hfault
    rcases h.latch (by simpa using hlatch) with hs | hs <;> exact nomatch hfault.symm.trans hs

theorem barrierLoopEdge (e : Edge) : s.KeepsGates (s.barrierLoopEdge b e) := by
  cases e with
  | rising =>
    refine (changeBar s b _ _ fun h => ?_).trans (judgeLowering ..)
    split
    · next hs =>
      have hcause : ({ s.bar b with inLoop := true, reversal := true } : BarrierWork).cause = none :=
        h.cause_none (by rw [hs]; nofun)
      exact (BarrierWork.law_raising hcause _).within rfl rfl rfl id nofun id id
    · exact h.within rfl rfl rfl id id id id
  | falling =>
    refine trans (trans (ite (fun _ => changeBar s b _ _ fun h => ?_) fun _ => refl s) (judgeLowering ..))
      (of_gates (State.gates_markClosing ..))
    dsimp only
    split
    · next honLatch => exact (h.stopOnLatch honLatch).within rfl rfl rfl id id id id
    · exact h.within rfl rfl rfl id id nofun id

theorem closeDelayExpiry : s.KeepsGates (s.closeDelayExpiry b) :=
  ite (fun _ => refl s) fun _ => ite (fun hmay => lowers s b hmay) fun _ => dropCloseDelay s b

theorem motionTimeout : s.KeepsGates (s.motionTimeout b) := ite (fun _ => faultBar ..) fun _ => refl s

/-- A limit ends a motion, or puts the barrier into FAULT (R157, R159, R161). -/
theorem limitEvent (which : LimitSwitch) : s.KeepsGates (s.limitEvent b which) := by
  cases which with
  | upper =>
    have hseen : s.KeepsGates (s.modBar b fun w => { w with upper := !w.upper, upperRun := 0 }) :=
      modBar s b _ fun h => h.within rfl rfl rfl id id id id
    refine ite (fun _ => refl s) fun _ => ite (fun _ => hseen) fun _ => ite (fun _ => hseen.trans (faultBar ..)) fun _ =>
      ite (fun _ => ite (fun _ => hseen.trans (faultBar ..)) fun _ => hseen) fun _ => ite (fun hs => ?_) fun _ => hseen
    refine (hseen.trans (changeBar _ b _ _ fun h => ?_)).trans (judgeLowering ..)
    rw [State.bar_modBar_self] at h ⊢
    exact .of_rest (.inl rfl) (h.cause_none (by rw [hs]; nofun)) rfl rfl (fun _ => .inl rfl) fun _ => rfl
  | lower =>
    have hseen : s.KeepsGates (s.modBar b fun w => { w with lower := !w.lower, lowerRun := 0 }) :=
      modBar s b _ fun h => h.within rfl rfl rfl id id id id
    refine ite (fun _ => refl s) fun _ => ite (fun _ => hseen) fun _ => ite (fun _ => hseen.trans (faultBar ..)) fun _ =>
      ite (fun _ => ite (fun _ => hseen.trans (faultBar ..)) fun _ => hseen) fun _ => ite (fun hs => ?_) fun _ => hseen
    refine hseen.trans (changeBar _ b _ _ fun h => ?_)
    rw [State.bar_modBar_self] at h ⊢
    exact BarrierWork.law_toDown (h.cause_none (by rw [hs]; nofun)) (h.latch_clear (by rw [hs]; exact ⟨nofun, nofun⟩))

theorem keepaliveToggle : s.KeepsGates (s.keepaliveToggle b) := by
  refine ite (fun htoggles => modBar s b _ fun h => ?_) fun _ => refl s
  have hs : (s.bar b).state ≠ .fault := by
    obtain ⟨-, htoggles⟩ := htoggles
    simp only [State.toggles, Bool.and_eq_true, bne_iff_ne] at htoggles
    exact htoggles.1
  exact ⟨h.cause, h.motion, h.reversal, h.closeDelay, h.latch, fun _ => hs⟩

theorem endCommandHold : s.KeepsGates (s.endCommandHold b) :=
  (modBar s b _ fun h => h.within rfl rfl rfl id id id id).trans (judgeLowering ..)

theorem firstLimits (x : Lines) : s.KeepsGates (s.firstLimits x b) :=
  ite (fun _ => refl s) fun _ => (modBar s b _ fun h => h.within rfl rfl rfl id id id id).trans (place ..)

theorem serveBarrierReset (r : Role) (barrier : Nat) : s.KeepsGates (serveBarrierReset barrier r s).1 := by
  unfold Machine.serveBarrierReset
  split
  · exact refl s
  · exact ite_fst (fun _ => refl s) fun _ => ite_fst (fun _ => refl s) fun _ => place ..

theorem serveBarrierCommand (r : Role) (barrier action : Nat) : s.KeepsGates (serveBarrierCommand barrier action r s).1 := by
  unfold Machine.serveBarrierCommand
  split
  · next b a _ _ =>
    refine ite_fst (fun _ => refl s) fun hs => ite_fst (fun _ => refl s) fun _ => ite_fst (fun _ => refl s) fun _ => ?_
    exact changeBar s b .command (fun w => w.command (s.barCfg b) a) fun h => BarrierWork.law_command (h.cause_none hs) ..
  · exact refl s

end

/-! ### Lanes -/

section
variable (s : State) (l : Lane)

theorem modLane (f : LaneWork → LaneWork) (hf : (s.lane l).Law → (f (s.lane l)).Law) : s.KeepsGates (s.modLane l f) := by
  refine ⟨fun _ => id, fun k => ?_⟩
  by_cases hk : k = l
  · rwa [hk, State.lane_modLane_self]
  · rw [State.lane_modLane_ne s l f hk]
    exact id

theorem changeLane (f : LaneWork → LaneWork) (hne : (s.lane l).state ≠ (f (s.lane l)).state)
    (hf : (s.lane l).Law → ((f (s.lane l)).entered (s.laneCfg l)).Law) : s.KeepsGates (s.changeLane l f) := by
  simp only [State.changeLane, if_neg hne]
  exact (modLane s l _ hf).trans (of_gates rfl)

/-- A lane goes from one state other than WAITING and GO to another. -/
theorem enters {old st : LaneState} (hold : (s.lane l).state = old) (hne : old ≠ st) (hs : old ≠ .waiting ∧ old ≠ .go)
    (hst : st ≠ .waiting ∧ st ≠ .go) : s.KeepsGates (s.changeLane l fun w => { w with state := st }) := by
  subst hold
  exact changeLane s l _ hne fun h => h.enter hs hst _

/-- A lane leaves WAITING or GO without its request. -/
theorem rests {st : LaneState} (hne : (s.lane l).state ≠ st) (hst : st ≠ .waiting ∧ st ≠ .go) :
    s.KeepsGates (s.changeLane l fun w => w.rest st) :=
  changeLane s l _ hne fun _ => LaneWork.law_rest hst _

theorem byLoop_vacant : s.byLoop l ≠ .waiting ∧ s.byLoop l ≠ .go := by
  unfold State.byLoop
  split <;> decide

theorem ne_byLoop {old : LaneState} (h : old ≠ .present ∧ old ≠ .idle) : old ≠ s.byLoop l := by
  unfold State.byLoop
  split
  · exact h.1
  · exact h.2

theorem restsByLoop {old : LaneState} (hs : (s.lane l).state = old) (h : old ≠ .present ∧ old ≠ .idle) :
    s.KeepsGates (s.changeLane l fun w => w.rest (s.byLoop l)) :=
  rests s l (hs ▸ ne_byLoop s l h) (byLoop_vacant s l)

theorem stopLoopEdge (e : Edge) : s.KeepsGates (s.stopLoopEdge l e) := by
  unfold State.stopLoopEdge
  split
  · next hs => exact enters s l hs (by decide) (by decide) (by decide)
  · next hs => exact enters s l hs (by decide) (by decide) (by decide)
  · exact modLane s l _ fun h => h.setAbsence nofun
  · next hs => exact modLane s l _ fun h => h.setAbsence fun _ => hs
  · next hs => exact enters s l hs (by decide) (by decide) (by decide)
  all_goals exact refl s

theorem stuckExpiry : s.KeepsGates (s.stuckExpiry l) :=
  ite (fun h => enters s l h.1 (by decide) (by decide) (by decide)) fun _ => refl s

theorem filingOrder (number : Nat) (kind : FilingKind) (priority : Nat) :
    s.KeepsGates (s.filingOrder l number kind priority) := by
  have hfile (hs : (s.lane l).state ≠ .waiting ∧ (s.lane l).state ≠ .go) (f : LaneFiling)
      (hf : f.filed.a = true ∨ f.filed.b = true) (t : Option Nat) (cs : List Instr) :
      s.KeepsGates ((s.changeLane l fun w => { w with state := .waiting, request := some f, absence := t }).raise cs) :=
    (changeLane s l _ hs.1 fun h => h.file hs.2 hf t _).trans (of_gates rfl)
  simp only [State.filingOrder]
  split
  · next hs => exact hfile (by simp [hs]) _ (Feed.has_some _) _ _
  · next hs => exact hfile (by simp [hs]) _ (Feed.has_some _) _ _
  · next hs => exact hfile (by simp [hs]) _ (Feed.has_some _) _ _
  all_goals exact of_gates rfl

theorem absenceExpiry : s.KeepsGates (s.absenceExpiry l) := by
  unfold State.absenceExpiry
  split
  · exact refl s
  · refine ite (fun hdue => ?_) fun _ => refl s
    have hs : (s.lane l).state = .waiting := ((LaneWork.offLoop_iff ..).mp hdue.1).1
    exact (rests s l (by rw [hs]; nofun) (by decide)).trans (of_gates rfl)

theorem cancelOrder (number : Nat) : s.KeepsGates (s.cancelOrder l number) := by
  simp only [State.cancelOrder]
  split
  · exact refl s
  refine ite (fun _ => refl s) fun _ => ?_
  split
  · next hs => exact (restsByLoop s l hs (by decide)).trans (of_gates rfl)
  · next hs => exact (restsByLoop s l hs (by decide)).trans (of_gates rfl)
  all_goals exact refl s

theorem offerAtLane (d : Deck) (number : Nat) : s.KeepsGates (s.offerAtLane l d number) := by
  refine ite (fun haccepts => ?_) fun _ => of_gates rfl
  obtain ⟨hs, f, hf, -, hfiled⟩ := (LaneWork.accepts_iff ..).mp haccepts
  exact (changeLane s l _ (by rw [hs]; nofun) fun _ => LaneWork.law_accepted hf hfiled _).trans (of_gates rfl)

theorem grantWithdrawn (d : Deck) (number : Nat) (cause : WithdrawCause) :
    s.KeepsGates (s.grantWithdrawn l d number cause) :=
  ite (fun h => (restsByLoop s l h.1 (by decide)).trans (of_gates rfl)) fun _ => refl s

theorem entryPassageAtLane (d : Deck) : s.KeepsGates (s.entryPassageAtLane l d) :=
  ite (fun h => restsByLoop s l h.1 (by decide)) fun _ => refl s

theorem serveSetLaneFeed (r : Role) (lane feed : Nat) : s.KeepsGates (serveSetLaneFeed lane feed r s).1 := by
  unfold Machine.serveSetLaneFeed
  split
  · refine ite_fst (fun _ => refl s) fun _ => ite_fst (fun _ => refl s) fun _ => ?_
    dsimp only
    have hfed : ∀ l f, s.KeepsGates (s.modLaneCfg l f) := fun _ _ => of_gates rfl
    split
    · next hs _ => exact ((hfed ..).trans (modLane _ _ _ fun h => h.refile hs (Feed.has_some _))).trans (of_gates rfl)
    · exact hfed ..
  · exact refl s

theorem serveSetLaneMode (r : Role) (lane mode : Nat) : s.KeepsGates (serveSetLaneMode lane mode r s).1 := by
  unfold Machine.serveSetLaneMode
  split
  · split
    · next hs => exact enters s _ hs (by decide) (by decide) (by decide)
    · next hs => exact enters s _ hs (by decide) (by decide) (by decide)
    all_goals exact refl s
  · exact ite_fst (fun hs => enters s _ hs (ne_byLoop s _ (by decide)) (by decide) (byLoop_vacant ..)) fun _ => refl s
  · exact refl s

end

end State.KeepsGates

end Sys2Proof.Machine
end

section
/-! SUPPORT. Every command keeps the laws of the barriers and of the lanes (R129, R136, R149). -/

namespace Sys2Proof.Machine

namespace State.KeepsGates

section
variable (s : State)

/-! ### Readers, requests, ticks and starts -/

theorem supplyTaken (r : SupplyReader) (st : SupplyState) : s.KeepsGates (s.supplyTaken r st) := by
  have hset : s.KeepsGates (s.setSupplyAt r st) := of_gates rfl
  cases r with
  | engine d => exact ite (fun _ => hset.trans (of_gates (by simp))) fun _ => hset
  | arbiter d => exact ite (fun _ => hset.trans (of_gates (by simp))) fun _ => hset
  | barrier b => exact hset.trans (judgeKeepalive ..)

/-- The barriers of a deck that returns to service lose a hold of COMMAND (R164). -/
theorem returnToService (d : Deck) : s.KeepsGates (s.returnToService d) := by
  have hrecover : s.KeepsGates (s.changeArb d fun a => { a with state := .recover }) := of_gates (State.gates_changeArb ..)
  have hheld := (hrecover.trans (endCommandHold _ d.entry)).trans (endCommandHold _ d.exit)
  rw [State.returnToService]
  exact hheld.trans (of_gates (by simp))

theorem serveSetDeckService (r : Role) (deck setting : Nat) : s.KeepsGates (serveSetDeckService deck setting r s).1 := by
  unfold Machine.serveSetDeckService
  split
  · exact of_gates (by split <;> simp [apply_ite Prod.fst])
  · exact ite_fst (fun _ => returnToService s _) fun _ => refl s
  · exact refl s

theorem tick (m : TickMark) (x : Lines) : s.KeepsGates (s.tick m x) := by
  have hcounted : s.KeepsGates (s.counted m x) := by
    refine ⟨fun b h => ?_, fun l h => ?_⟩
    · rw [State.bar_counted]; exact h.tick ..
    · rw [State.lane_counted]; exact h.tick _
  have hopen : s.KeepsGates (s.counted m x).openBoth := hcounted.trans (of_gates (by simp [State.openBoth]))
  rw [State.tick_eq]
  exact ite (fun _ => hopen.trans (foldl (fun t b => firstLimits t b x) _ _)) fun _ => hopen

theorem watchExpiry (x : Lines) : s.KeepsGates (s.watchExpiry x) :=
  ite (fun _ => refl s) fun _ => (tick ..).trans (of_gates rfl)

/-- A start places every barrier and leaves every lane IDLE (R148, R168). -/
theorem restart (x : Start) (cause : ResetCause) : s.KeepsGates (s.restart x cause) := by
  refine ⟨fun b _ => ?_, fun l _ => ?_⟩
  · rw [State.bar_restart]
    exact BarrierWork.law_started ..
  · rw [State.lane_restart]
    exact ⟨by simp, by simp, nofun, by simp, nofun, nofun⟩

end

/-! ### The taking of commands -/

theorem of_next {s u t : State} (h : (.next u : Outcome) = .next t) (hu : s.KeepsGates u) : s.KeepsGates t :=
  Host.Outcome.next.inj h ▸ hu

section
variable {c : Instr} {s t : State}

theorem event {f : State → State} (hc : exec c s = Machine.event c f s) (hf : ∀ s : State, s.KeepsGates (f s))
    (h : exec c s = .next t) : s.KeepsGates t := by
  refine of_next (hc.symm.trans h) (ite (fun _ => ?_) fun _ => refl s)
  have htaken : s.KeepsGates (s.consume c) := of_gates rfl
  exact (htaken.trans (hf _)).trans (of_gates (State.gates_settle ..))

theorem request {q : Sender} {f : Serve} (hc : exec c s = Machine.request c q f s)
    (hf : ∀ (r : Role) (s : State), s.KeepsGates (f r s).1) (h : exec c s = .next t) : s.KeepsGates t := by
  have hserved : ∀ (u : State) (r : Role), u.gates = s.gates → s.KeepsGates (u.serveHand q c.requestCode f r) :=
    fun u r hu => ((of_gates hu).trans (hf r u)).trans (of_gates rfl)
  refine of_next (hc.symm.trans h) (ite (fun _ => trans ?_ (of_gates (State.gates_settle ..))) fun _ => refl s)
  exact ite (fun _ => hserved _ _ rfl) fun _ => ite (fun _ => of_gates rfl) fun _ => ite (fun _ => of_gates rfl) fun _ =>
    hserved _ _ rfl

/-- An event that is not of the barriers or the lanes. -/
theorem event_framed {f : State → State} (hc : exec c s = Machine.event c f s) (hf : ∀ s : State, (f s).gates = s.gates)
    (h : exec c s = .next t) : s.KeepsGates t :=
  event hc (fun s => of_gates (hf s)) h

/-- A request that is not of the barriers or the lanes. -/
theorem request_framed {q : Sender} {f : Serve} (hc : exec c s = Machine.request c q f s)
    (hf : ∀ (r : Role) (s : State), (f r s).1.gates = s.gates) (h : exec c s = .next t) : s.KeepsGates t :=
  request hc (fun r s => of_gates (hf r s)) h

end

/-- Of the requests only those of the barriers, SET_LANE_FEED, SET_LANE_MODE and SET_DECK_SERVICE change a barrier or a lane
beside its lamps. -/
theorem exec_request (c : Instr) (hc : c.spelling.isSome = true) (s t : State) (h : exec c s = .next t) :
    s.KeepsGates t := by
  cases c with
  | barrierReset => exact request (exec_barrierReset ..) (fun r s => serveBarrierReset s r ..) h
  | barrierCommand => exact request (exec_barrierCommand ..) (fun r s => serveBarrierCommand s r ..) h
  | setDeckService => exact request (exec_setDeckService ..) (fun r s => serveSetDeckService s r ..) h
  | setLaneFeed => exact request (exec_setLaneFeed ..) (fun r s => serveSetLaneFeed s r ..) h
  | setLaneMode => exact request (exec_setLaneMode ..) (fun r s => serveSetLaneMode s r ..) h
  | identify | listYard | readTransaction | findPlate | hold | releaseHold | amend | cancelTransaction | quarantine | close
  | forceExit | storeTare | deleteTare | readTare | listTares | setTareValidity | setClock | setTicketBase | voidTicket
  | readClock | collectNext | readTicket | confirmCollected => exact request_framed rfl (by simp) h
  | setChannelMap | setChannelLimits | clearFaults | readChannels | setOccupancy | readDeck | setCaptureOptions | capture
  | abortCapture | zeroDeck | readCapture | setMetrology | setChannelFactor | setChannelZero | calZeroDeck | calSpanDeck
  | abortCalibration | readCalibration => exact request_framed rfl (by simp) h
  | setProceedTime | clearTailgate | readDeckState | setConditioner | setLaneTimers | setLamp | setSignalHead | setLampInvert
  | readInputs | readLane | setBarrier | readBarriers => exact request_framed rfl (by simp) h
  | setYardMode | yardReset | setAlarmMask | readSupervisor | setPortRole | bindKiosk | setPortRate | readPorts
  | setNoticeFloor | quiet | readStatus => exact request_framed rfl (by simp) h
  | _ => cases hc

theorem exec_event (c : Instr) (hc : c.spelling.isSome = false) (s t : State) (h : exec c s = .next t) :
    s.KeepsGates t := by
  cases c with
  | permissiveRise => exact event (exec_permissiveRise ..) (fun s => permissiveRise s ..) h
  | permissiveFall => exact event (exec_permissiveFall ..) (fun s => permissiveFall s ..) h
  | barrierLoopEdge => exact event (exec_barrierLoopEdge ..) (fun s => barrierLoopEdge s ..) h
  | closeDelayExpiry => exact event (exec_closeDelayExpiry ..) (fun s => closeDelayExpiry s ..) h
  | motionTimeout => exact event (exec_motionTimeout ..) (fun s => motionTimeout s ..) h
  | limitEvent => exact event (exec_limitEvent ..) (fun s => limitEvent s ..) h
  | keepaliveToggle => exact event (exec_keepaliveToggle ..) (fun s => keepaliveToggle s ..) h
  | supplyStateTaken => exact event (exec_supplyStateTaken ..) (fun s => supplyTaken s ..) h
  | stopLoopEdge => exact event (exec_stopLoopEdge ..) (fun s => stopLoopEdge s ..) h
  | stuckTimerExpiry => exact event (exec_stuckTimerExpiry ..) (fun s => stuckExpiry s ..) h
  | filingOrder => exact event (exec_filingOrder ..) (fun s => filingOrder s ..) h
  | absenceTimerExpiry => exact event (exec_absenceTimerExpiry ..) (fun s => absenceExpiry s ..) h
  | cancelOrder => exact event (exec_cancelOrder ..) (fun s => cancelOrder s ..) h
  | offerAtLane => exact event (exec_offerAtLane ..) (fun s => offerAtLane s ..) h
  | grantWithdrawnAtLane => exact event (exec_grantWithdrawnAtLane ..) (fun s => grantWithdrawn s ..) h
  | entryPassageAtLane => exact event (exec_entryPassageAtLane ..) (fun s => entryPassageAtLane s ..) h
  | watchExpiry => exact event (exec_watchExpiry ..) (fun s => watchExpiry s ..) h
  | yardTick x =>
    refine of_next h (ite (fun _ => ?_) fun _ => of_gates rfl)
    have htaken : s.KeepsGates (s.consume (.yardTick x)) := of_gates rfl
    exact (htaken.trans (tick ..)).trans (of_gates (State.gates_settle ..))
  | yardClockSecond => exact of_next h (of_gates rfl)
  | mainDomainStop => exact of_next h (of_gates rfl)
  | mainReset => exact of_next h (restart ..)
  | yardResetEffect => exact of_next h (ite (fun _ => restart ..) fun _ => refl s)
  | entryLoopEdgeAtArbiter d e =>
    cases e with
    | rising => exact event_framed (exec_entryLoopEdgeAtArbiter d .rising s) (by simp) h
    | falling => exact event_framed (exec_entryLoopEdgeAtArbiter d .falling s) (by simp) h
  | exitLoopEdgeAtArbiter d e =>
    cases e with
    | rising => exact event_framed (exec_exitLoopEdgeAtArbiter d .rising s) (by simp) h
    | falling => exact event_framed (exec_exitLoopEdgeAtArbiter d .falling s) (by simp) h
  | filing => exact event_framed (exec_filing ..) (by simp) h
  | withdrawal => exact event_framed (exec_withdrawal ..) (by simp) h
  | choice => exact event_framed (exec_choice ..) (by simp) h
  | acceptance => exact event_framed (exec_acceptance ..) (by simp) h
  | decline => exact event_framed (exec_decline ..) (by simp) h
  | proceedTimeout => exact event_framed (exec_proceedTimeout ..) (by simp) h
  | exitReleaseAtArbiter => exact event_framed (exec_exitReleaseAtArbiter ..) (by simp) h
  | captureCompletionAtArbiter => exact event_framed (exec_captureCompletionAtArbiter ..) (by simp) h
  | captureFailureAtArbiter => exact event_framed (exec_captureFailureAtArbiter ..) (by simp) h
  | forceExitNoticeAtArbiter => exact event_framed (exec_forceExitNoticeAtArbiter ..) (by simp) h
  | barrierStateTaken => exact event_framed (exec_barrierStateTaken ..) (by simp) h
  | deckEmpty => exact event_framed (exec_deckEmpty ..) (by simp) h
  | withdrawalReport => exact event_framed (exec_withdrawalReport ..) (by simp) h
  | entryPassageReport => exact event_framed (exec_entryPassageReport ..) (by simp) h
  | recordsCaptureCompletion => exact event_framed (exec_recordsCaptureCompletion ..) (by simp) h
  | recordsCaptureFailure => exact event_framed (exec_recordsCaptureFailure ..) (by simp) h
  | exitPassageReport => exact event_framed (exec_exitPassageReport ..) (by simp) h
  | windowClose => exact event_framed (exec_windowClose ..) (by simp) h
  | engineWindow => exact event_framed (exec_engineWindow ..) (by simp) h
  | captureStart => exact event_framed (exec_captureStart ..) (by simp) h
  | recordsAbort => exact event_framed (exec_recordsAbort ..) (by simp) h
  | captureExternalEnd => exact event_framed (exec_captureExternalEnd ..) (by simp) h
  | attemptTimerExpiry => exact event_framed (exec_attemptTimerExpiry ..) (by simp) h
  | leaveDeckTimerExpiry => exact event_framed (exec_leaveDeckTimerExpiry ..) (by simp) h
  | positioningEdge => exact event_framed (exec_positioningEdge ..) (by simp) h
  | converterEdge => exact event_framed (exec_converterEdge ..) (by simp) h
  | conditionerEdge => exact event_framed (exec_conditionerEdge ..) (by simp) h
  | stretchTimerExpiry => exact event_framed (exec_stretchTimerExpiry ..) (by simp) h
  | yardModeTaken => exact event_framed (exec_yardModeTaken ..) (by simp) h
  | drain => exact event_framed (exec_drain ..) (by simp) h
  | qualification => exact event_framed (exec_qualification ..) (by simp) h
  | startTimerExpiry => exact event_framed (exec_startTimerExpiry ..) (by simp) h
  | supplyLow => exact event_framed (exec_supplyLow ..) (by simp) h
  | supplyRestored => exact event_framed (exec_supplyRestored ..) (by simp) h
  | calSwitch => exact event_framed (exec_calSwitch ..) (by simp) h
  | frameComplete => exact event_framed (exec_frameComplete ..) (by simp) h
  | gapTimerExpiry => exact event_framed (exec_gapTimerExpiry ..) (by simp) h
  | frameSent => exact event_framed (exec_frameSent ..) (by simp) h
  | noticeAdmission => exact event_framed (exec_noticeAdmission ..) (by simp) h
  | quietTimerExpiry => exact event_framed (exec_quietTimerExpiry ..) (by simp) h
  | characterReceived => exact event_framed (exec_characterReceived ..) (by simp) h
  | _ => cases hc

/-- Every step keeps the laws of the barriers and of the lanes. -/
theorem step (s t : State) (h : Machine.step s = .next t) : s.KeepsGates t := by
  unfold Machine.step at h
  split at h
  · exact of_next h (refl s)
  · next c rest _ =>
    have htaken : s.KeepsGates { s with pending := rest } := of_gates rfl
    cases hc : c.spelling.isSome with
    | true => exact htaken.trans (exec_request c hc _ t h)
    | false => exact htaken.trans (exec_event c hc _ t h)

end State.KeepsGates

end Sys2Proof.Machine

open Sys2Proof.Machine

/-- Settles O10, by what a step keeps of the barriers and of the lanes (`State.KeepsGates.step`). -/
theorem barrierAndLaneLawsKept : Obligations.BarrierAndLaneLawsKept :=
  ⟨fun s t b hlaw h => (State.KeepsGates.step s t h).bar b hlaw,
    fun s t l hlaw h => (State.KeepsGates.step s t h).lane l hlaw⟩
end

section
/-! SUPPORT. No boom starts down while its loop is not clear: the barrier controllers lower a boom at its lowering path or at
a console command, both of which ask for a clear loop (R158, R164). -/

namespace Sys2Proof.Machine

/-! ### The barriers under the operations of the lanes -/

section
variable (s : State) (b : Barrier)

@[simp] theorem State.bar_ite (c : Prop) [Decidable c] (t : State) :
    (if c then s else t).bar b = if c then s.bar b else t.bar b := apply_ite (fun u : State => u.bar b) c s t
theorem State.bar_stopLoopEdge (l : Lane) (e : Edge) : (s.stopLoopEdge l e).bar b = s.bar b := by
  unfold State.stopLoopEdge; split <;> simp [State.bar_changeLane]
theorem State.bar_stuckExpiry (l : Lane) : (s.stuckExpiry l).bar b = s.bar b := by
  simp [State.stuckExpiry, State.bar_changeLane]
theorem State.bar_filingOrder (l : Lane) (number : Nat) (kind : FilingKind) (priority : Nat) :
    (s.filingOrder l number kind priority).bar b = s.bar b := by
  simp only [State.filingOrder]; split <;> simp [State.bar_changeLane]
theorem State.bar_absenceExpiry (l : Lane) : (s.absenceExpiry l).bar b = s.bar b := by
  unfold State.absenceExpiry; split <;> simp [State.bar_changeLane]
theorem State.bar_cancelOrder (l : Lane) (number : Nat) : (s.cancelOrder l number).bar b = s.bar b := by
  simp only [State.cancelOrder]; (repeat' split) <;> simp [State.bar_changeLane]
theorem State.bar_offerAtLane (l : Lane) (d : Deck) (number : Nat) : (s.offerAtLane l d number).bar b = s.bar b := by
  simp [State.offerAtLane, State.bar_changeLane]
theorem State.bar_grantWithdrawn (l : Lane) (d : Deck) (number : Nat) (cause : WithdrawCause) :
    (s.grantWithdrawn l d number cause).bar b = s.bar b := by
  simp [State.grantWithdrawn, State.bar_changeLane]
theorem State.bar_entryPassageAtLane (l : Lane) (d : Deck) : (s.entryPassageAtLane l d).bar b = s.bar b := by
  simp [State.entryPassageAtLane, State.bar_changeLane]
theorem bar_serveSetLaneFeed (r : Role) (lane feed : Nat) : (serveSetLaneFeed lane feed r s).1.bar b = s.bar b := by
  simp only [serveSetLaneFeed]; (repeat' split) <;> simp [State.realign]
theorem bar_serveSetLaneMode (r : Role) (lane mode : Nat) : (serveSetLaneMode lane mode r s).1.bar b = s.bar b := by
  simp only [serveSetLaneMode]; (repeat' split) <;> simp [State.bar_changeLane]

end

/-! ### The operations of the barrier controllers -/

/-- The boom loops read the same in `t` as in `s`, and a boom LOWERING in `t` was LOWERING in `s` or has its loop clear. -/
structure State.LowersClear (s t : State) : Prop where
  loop : ∀ b, t.boomClear b = s.boomClear b
  boom : ∀ b, (t.bar b).state = .lowering → (s.bar b).state = .lowering ∨ s.boomClear b = true

namespace State.LowersClear

theorem refl (s : State) : s.LowersClear s := ⟨fun _ => rfl, fun _ => .inl⟩

theorem trans {s t u : State} (h : s.LowersClear t) (k : t.LowersClear u) : s.LowersClear u :=
  ⟨fun b => (k.loop b).trans (h.loop b), fun b hu => (k.boom b hu).elim (h.boom b) fun hclear => .inr (h.loop b ▸ hclear)⟩

theorem ite {s t u : State} {c : Prop} [Decidable c] (ht : c → s.LowersClear t) (hu : ¬ c → s.LowersClear u) :
    s.LowersClear (if c then t else u) := by
  split
  · exact ht ‹_›
  · exact hu ‹_›

theorem ite_fst {s : State} {x y : State × Reply} {c : Prop} [Decidable c] (hx : c → s.LowersClear x.1)
    (hy : ¬ c → s.LowersClear y.1) : s.LowersClear (if c then x else y).1 := by
  rw [apply_ite Prod.fst]
  exact ite hx hy

theorem foldl {α : Type} {f : State → α → State} (hf : ∀ (s : State) (a : α), s.LowersClear (f s a)) (xs : List α)
    (s : State) : s.LowersClear (xs.foldl f s) := by
  induction xs generalizing s with
  | nil => exact refl s
  | cons a xs ih => exact (hf s a).trans (ih _)

theorem of_frame {s t : State} (hbar : ∀ b, t.bar b = s.bar b) (hinp : ∀ i, t.inp i = s.inp i) : s.LowersClear t :=
  ⟨fun b => by rw [State.boomClear, hinp, State.boomClear], fun b h => .inl (hbar b ▸ h)⟩

section
variable (s : State) (b : Barrier)

theorem changeBar (reason : BarrierReason) (f : BarrierWork → BarrierWork)
    (hf : (f (s.bar b)).state = .lowering → (s.bar b).state = .lowering ∨ s.boomClear b = true) :
    s.LowersClear (s.changeBar b reason f) := by
  refine ⟨(State.Steady.changeBar s b reason f).boomClear, fun c hc => ?_⟩
  by_cases hcb : c = b
  · rw [hcb] at hc ⊢
    rw [State.bar_changeBar] at hc
    exact hf hc
  · rw [State.bar_changeBar_ne s reason f hcb] at hc
    exact .inl hc

/-- A rewriting of a barrier within its state. -/
theorem modBar (f : BarrierWork → BarrierWork) (hf : (f (s.bar b)).state = (s.bar b).state) :
    s.LowersClear (s.modBar b f) := by
  refine ⟨fun _ => rfl, fun c hc => .inl ?_⟩
  by_cases hcb : c = b
  · rw [hcb] at hc ⊢
    rwa [State.bar_modBar_self, hf] at hc
  · rwa [State.bar_modBar_ne s b f hcb] at hc

theorem faultBar (cause : FaultCause) : s.LowersClear (s.faultBar b cause) := changeBar s b _ _ nofun

/-- The lowering path asks for a clear loop (R158). -/
theorem lowers (h : s.mayLower b = true) :
    s.LowersClear (s.changeBar b .closeDelay fun w => w.lowering (s.barCfg b)) := by
  obtain ⟨-, -, -, hclear⟩ := (s.mayLower_iff b).mp h
  exact changeBar s b _ _ fun _ => .inr (beq_iff_eq.mpr hclear)

theorem judgeLowering : s.LowersClear (s.judgeLowering b) :=
  ite (fun _ => modBar s b _ rfl) fun hmay => ite (fun _ => refl s) fun _ =>
    ite (fun _ => lowers s b (by simpa using hmay)) fun _ => modBar s b _ rfl

theorem judgeKeepalive : s.LowersClear (s.judgeKeepalive b) := modBar s b _ rfl

/-- The fail action stops a barrier or keeps it in its state (R156). -/
theorem failAction : s.LowersClear (s.failAction b) := by
  refine changeBar s b _ _ fun h => .inl ?_
  split at h
  · split at h
    · cases h
    · exact h
  · cases h

/-- Placement gives no motion (R168). -/
theorem placed : s.LowersClear (s.changeBar b .placement BarrierWork.placed) := by
  refine changeBar s b _ _ fun h => absurd h ?_
  unfold BarrierWork.placed placedState
  cases (s.bar b).upper <;> cases (s.bar b).lower <;> simp

theorem place : s.LowersClear (s.place b) :=
  (((placed s b).trans (ite (fun _ => failAction _ b) fun _ => refl _)).trans (judgeLowering ..)).trans (judgeKeepalive ..)

theorem raising_ne_lowering (w : BarrierWork) (c : BarrierCfg) : (w.raising c).state ≠ .lowering := by
  unfold BarrierWork.raising
  split <;> nofun

theorem permissiveRise : s.LowersClear (s.permissiveRise b) := by
  refine ite (fun _ => refl s) fun _ => (changeBar s b _ _ fun h => .inl ?_).trans (judgeLowering ..)
  dsimp only at h
  split at h
  · exact absurd h (raising_ne_lowering _ _)
  · exact absurd h (raising_ne_lowering _ _)
  · exact absurd h (raising_ne_lowering _ _)
  all_goals exact h

theorem permissiveFall : s.LowersClear (s.permissiveFall b) := by
  have hfell : s.LowersClear (s.modBar b fun w => { w with permissive := false }) := modBar s b _ rfl
  refine ite (fun _ => refl s) fun _ => ite (fun _ => hfell) fun _ => ite (fun _ => ?_) fun _ =>
    (hfell.trans (failAction ..)).trans (judgeLowering ..)
  refine (hfell.trans (changeBar _ b _ _ fun h => .inl ?_)).trans (judgeLowering ..)
  split at h
  · cases h
  · exact h

/-- A rising edge of the loop reverses the boom, the falling edge stops it (R155, R159). -/
theorem barrierLoopEdge (e : Edge) : s.LowersClear (s.barrierLoopEdge b e) := by
  cases e with
  | rising =>
    refine (changeBar s b _ _ fun h => .inl ?_).trans (judgeLowering ..)
    split at h
    · exact absurd h (raising_ne_lowering _ _)
    · exact h
  | falling =>
    have hmark : ∀ (t : State) old, t.LowersClear (t.markClosing b old) := fun t old =>
      ite (fun _ => of_frame (fun _ => rfl) fun _ => rfl) fun _ => refl t
    refine (trans (ite (fun _ => changeBar s b _ _ fun h => .inl ?_) fun _ => refl s) (judgeLowering ..)).trans (hmark ..)
    dsimp only at h
    split at h
    · cases h
    · exact h

theorem closeDelayExpiry : s.LowersClear (s.closeDelayExpiry b) :=
  ite (fun _ => refl s) fun _ => ite (fun hmay => lowers s b hmay) fun _ => modBar s b _ rfl

theorem motionTimeout : s.LowersClear (s.motionTimeout b) := ite (fun _ => faultBar ..) fun _ => refl s

theorem limitEvent (which : LimitSwitch) : s.LowersClear (s.limitEvent b which) := by
  cases which with
  | upper =>
    have hseen : s.LowersClear (s.modBar b fun w => { w with upper := !w.upper, upperRun := 0 }) := modBar s b _ rfl
    exact ite (fun _ => refl s) fun _ => ite (fun _ => hseen) fun _ => ite (fun _ => hseen.trans (faultBar ..)) fun _ =>
      ite (fun _ => ite (fun _ => hseen.trans (faultBar ..)) fun _ => hseen) fun _ =>
        ite (fun _ => (hseen.trans (changeBar _ b .limit _ (by nofun))).trans (judgeLowering ..)) fun _ => hseen
  | lower =>
    have hseen : s.LowersClear (s.modBar b fun w => { w with lower := !w.lower, lowerRun := 0 }) := modBar s b _ rfl
    exact ite (fun _ => refl s) fun _ => ite (fun _ => hseen) fun _ => ite (fun _ => hseen.trans (faultBar ..)) fun _ =>
      ite (fun _ => ite (fun _ => hseen.trans (faultBar ..)) fun _ => hseen) fun _ =>
        ite (fun _ => hseen.trans (changeBar _ b .limit _ (by nofun))) fun _ => hseen

theorem keepaliveToggle : s.LowersClear (s.keepaliveToggle b) := ite (fun _ => modBar s b _ rfl) fun _ => refl s

theorem endCommandHold : s.LowersClear (s.endCommandHold b) := (modBar s b _ rfl).trans (judgeLowering ..)

theorem firstLimits (x : Lines) : s.LowersClear (s.firstLimits x b) :=
  ite (fun _ => refl s) fun _ => (modBar s b _ rfl).trans (place ..)

theorem serveBarrierReset (r : Role) (barrier : Nat) : s.LowersClear (serveBarrierReset barrier r s).1 := by
  unfold Machine.serveBarrierReset
  split
  · exact refl s
  · exact ite_fst (fun _ => refl s) fun _ => ite_fst (fun _ => refl s) fun _ => place ..

/-- Of the console's commands only LOWER lowers, and it asks for a clear loop (R164). -/
theorem serveBarrierCommand (r : Role) (barrier action : Nat) :
    s.LowersClear (serveBarrierCommand barrier action r s).1 := by
  unfold Machine.serveBarrierCommand
  split
  · next b a _ _ =>
    refine ite_fst (fun _ => refl s) fun _ => ite_fst (fun _ => refl s) fun _ => ite_fst (fun _ => refl s) fun hloop => ?_
    refine changeBar s b .command (fun w => w.command (s.barCfg b) a) fun h => ?_
    cases a with
    | raise => exact absurd h (raising_ne_lowering _ _)
    | lower => exact .inr (by simpa using hloop)
    | stop => cases h
  · exact refl s

end

/-! ### Readers, the return of a deck to service, and the tick -/

section
variable (s : State)

theorem changeArb (d : Deck) (f : Arbiter → Arbiter) : s.LowersClear (s.changeArb d f) :=
  ite (fun _ => of_frame (fun _ => rfl) fun _ => rfl) fun _ => of_frame (fun _ => rfl) fun _ => rfl

theorem failCollection (d : Deck) (reason : CalFailReason) : s.LowersClear (s.failCollection d reason) := by
  unfold State.failCollection
  split
  · exact refl s
  · exact of_frame (fun _ => rfl) fun _ => rfl

/-- The barriers of a deck that returns to service lose a hold of COMMAND, and may begin to lower (R164). -/
theorem returnToService (d : Deck) : s.LowersClear (s.returnToService d) :=
  (((((changeArb s d _).trans (endCommandHold ..)).trans (endCommandHold ..)).trans (failCollection ..)).trans
    (ite (fun _ => changeArb ..) fun _ => refl _))

theorem serveSetDeckService (r : Role) (deck setting : Nat) : s.LowersClear (serveSetDeckService deck setting r s).1 := by
  unfold Machine.serveSetDeckService
  split
  · split
    · exact ite_fst (fun _ => refl s) fun _ => changeArb s _ fun a => { a with state := .outOfService }
    · exact changeArb s _ fun a => { a with state := .outOfService }
    · exact changeArb s _ fun a => { a with state := .outOfService }
    all_goals exact refl s
  · exact ite_fst (fun _ => returnToService s _) fun _ => refl s
  · exact refl s

/-- A tick moves no boom but by the placement of the first tick, and no debounced state (R126, R151). -/
theorem tick (m : TickMark) (x : Lines) : s.LowersClear (s.tick m x) := by
  have hdebounced : ∀ (w : ConditionerWork) raw first, (w.tick raw first).debounced = w.debounced := fun w raw first => by
    simp only [ConditionerWork.tick_eq, apply_ite ConditionerWork.debounced, ite_self]
  have hcounted : s.LowersClear (s.counted m x) :=
    ⟨fun b => by rw [State.boomClear, State.inp_counted, hdebounced, State.boomClear],
      fun b h => .inl (by rwa [State.bar_counted] at h)⟩
  have hopen := hcounted.trans (of_frame (t := (s.counted m x).openBoth) (State.bar_openBoth _) (State.inp_openBoth _))
  rw [State.tick_eq]
  exact ite (fun _ => hopen.trans (foldl (fun t b => firstLimits t b x) _ _)) fun _ => hopen

theorem supplyTaken (b : Barrier) (st : SupplyState) : s.LowersClear (s.supplyTaken (.barrier b) st) :=
  .trans (of_frame (t := s.setSupplyAt (.barrier b) st) (fun _ => rfl) fun _ => rfl) (judgeKeepalive ..)

theorem watchExpiry (x : Lines) : s.LowersClear (s.watchExpiry x) :=
  ite (fun _ => refl s) fun _ => (tick ..).trans (of_frame (t := State.post (State.modSup _ _) ..) (fun _ => rfl) fun _ => rfl)

theorem settle (old : State) : s.LowersClear (State.settle old s) := by
  refine of_frame (State.bar_of_gates (State.gates_settle s old)) fun i => ?_
  have hinner : (State.settle old s).inner.inp i = s.inner.inp i := by rw [State.inner_settle]
  exact hinner

end

end State.LowersClear

/-! ### The commands that move no boom -/

/-- The commands of the barrier controllers, and those that let a barrier judge its lowering path or place it. -/
def changesBarriers : Instr → Bool
  | .permissiveRise _ | .permissiveFall _ | .barrierLoopEdge .. | .closeDelayExpiry _ | .motionTimeout _ | .limitEvent ..
  | .keepaliveToggle _ | .supplyStateTaken (.barrier _) _ | .yardTick _ | .watchExpiry _ | .mainReset _ | .yardResetEffect _
  | .barrierReset .. | .barrierCommand .. | .setDeckService .. => true
  | _ => false

section
variable {c : Instr} {s t : State}

theorem State.bar_event {f : State → State} (hc : exec c s = event c f s) (hf : ∀ (s : State) b, (f s).bar b = s.bar b)
    (h : exec c s = .next t) (b : Barrier) : t.bar b = s.bar b := by
  rw [← Host.Outcome.next.inj (hc.symm.trans h), State.bar_ite, State.bar_of_gates (State.gates_settle ..), hf]
  exact ite_self _

theorem State.bar_request {q : Sender} {f : Serve} (hc : exec c s = request c q f s)
    (hf : ∀ (r : Role) (s : State) b, (f r s).1.bar b = s.bar b) (h : exec c s = .next t) (b : Barrier) :
    t.bar b = s.bar b := by
  have hserved : ∀ (u : State) (r : Role), (u.serveHand q c.requestCode f r).bar b = u.bar b := fun u r => hf r u b
  rw [← Host.Outcome.next.inj (hc.symm.trans h), State.bar_ite, State.bar_of_gates (State.gates_settle ..), State.takeRequest]
  simp [hserved]

theorem State.bar_event_of_gates {f : State → State} (hc : exec c s = event c f s)
    (hf : ∀ s : State, (f s).gates = s.gates) (h : exec c s = .next t) (b : Barrier) : t.bar b = s.bar b :=
  State.bar_event hc (fun s => State.bar_of_gates (hf s)) h b

theorem State.bar_request_of_gates {q : Sender} {f : Serve} (hc : exec c s = request c q f s)
    (hf : ∀ (r : Role) (s : State), (f r s).1.gates = s.gates) (h : exec c s = .next t) (b : Barrier) : t.bar b = s.bar b :=
  State.bar_request hc (fun r s => State.bar_of_gates (hf r s)) h b

end

theorem bar_exec_request (c : Instr) (hc : c.spelling.isSome = true) (hmoves : changesBarriers c = false) (s t : State)
    (h : exec c s = .next t) (b : Barrier) : t.bar b = s.bar b := by
  cases c with
  | setLaneFeed => exact State.bar_request (exec_setLaneFeed ..) (fun r s b => bar_serveSetLaneFeed s b r ..) h b
  | setLaneMode => exact State.bar_request (exec_setLaneMode ..) (fun r s b => bar_serveSetLaneMode s b r ..) h b
  | barrierReset | barrierCommand | setDeckService => cases hmoves
  | identify | listYard | readTransaction | findPlate | hold | releaseHold | amend | cancelTransaction | quarantine | close
  | forceExit | storeTare | deleteTare | readTare | listTares | setTareValidity | setClock | setTicketBase | voidTicket
  | readClock | collectNext | readTicket | confirmCollected => exact State.bar_request_of_gates rfl (by simp) h b
  | setChannelMap | setChannelLimits | clearFaults | readChannels | setOccupancy | readDeck | setCaptureOptions | capture
  | abortCapture | zeroDeck | readCapture | setMetrology | setChannelFactor | setChannelZero | calZeroDeck | calSpanDeck
  | abortCalibration | readCalibration => exact State.bar_request_of_gates rfl (by simp) h b
  | setProceedTime | clearTailgate | readDeckState | setConditioner | setLaneTimers | setLamp | setSignalHead | setLampInvert
  | readInputs | readLane | setBarrier | readBarriers => exact State.bar_request_of_gates rfl (by simp) h b
  | setYardMode | yardReset | setAlarmMask | readSupervisor | setPortRole | bindKiosk | setPortRate | readPorts
  | setNoticeFloor | quiet | readStatus => exact State.bar_request_of_gates rfl (by simp) h b
  | _ => cases hc

theorem bar_exec_event (c : Instr) (hc : c.spelling.isSome = false) (hmoves : changesBarriers c = false) (s t : State)
    (h : exec c s = .next t) (b : Barrier) : t.bar b = s.bar b := by
  cases c with
  | stopLoopEdge l e => exact State.bar_event (exec_stopLoopEdge ..) (fun s b => s.bar_stopLoopEdge b l e) h b
  | stuckTimerExpiry l => exact State.bar_event (exec_stuckTimerExpiry ..) (fun s b => s.bar_stuckExpiry b l) h b
  | filingOrder => exact State.bar_event (exec_filingOrder ..) (fun s b => s.bar_filingOrder b ..) h b
  | absenceTimerExpiry l => exact State.bar_event (exec_absenceTimerExpiry ..) (fun s b => s.bar_absenceExpiry b l) h b
  | cancelOrder => exact State.bar_event (exec_cancelOrder ..) (fun s b => s.bar_cancelOrder b ..) h b
  | offerAtLane => exact State.bar_event (exec_offerAtLane ..) (fun s b => s.bar_offerAtLane b ..) h b
  | grantWithdrawnAtLane => exact State.bar_event (exec_grantWithdrawnAtLane ..) (fun s b => s.bar_grantWithdrawn b ..) h b
  | entryPassageAtLane => exact State.bar_event (exec_entryPassageAtLane ..) (fun s b => s.bar_entryPassageAtLane b ..) h b
  | supplyStateTaken r =>
    cases r with
    | engine => exact State.bar_event_of_gates (exec_supplyStateTaken ..) (by simp [State.supplyTaken]) h b
    | arbiter => exact State.bar_event_of_gates (exec_supplyStateTaken ..) (by simp [State.supplyTaken]) h b
    | barrier => cases hmoves
  | yardClockSecond | mainDomainStop => exact Host.Outcome.next.inj h ▸ rfl
  | entryLoopEdgeAtArbiter d e =>
    cases e with
    | rising => exact State.bar_event_of_gates (exec_entryLoopEdgeAtArbiter d .rising s) (by simp) h b
    | falling => exact State.bar_event_of_gates (exec_entryLoopEdgeAtArbiter d .falling s) (by simp) h b
  | exitLoopEdgeAtArbiter d e =>
    cases e with
    | rising => exact State.bar_event_of_gates (exec_exitLoopEdgeAtArbiter d .rising s) (by simp) h b
    | falling => exact State.bar_event_of_gates (exec_exitLoopEdgeAtArbiter d .falling s) (by simp) h b
  | filing => exact State.bar_event_of_gates (exec_filing ..) (by simp) h b
  | withdrawal => exact State.bar_event_of_gates (exec_withdrawal ..) (by simp) h b
  | choice => exact State.bar_event_of_gates (exec_choice ..) (by simp) h b
  | acceptance => exact State.bar_event_of_gates (exec_acceptance ..) (by simp) h b
  | decline => exact State.bar_event_of_gates (exec_decline ..) (by simp) h b
  | proceedTimeout => exact State.bar_event_of_gates (exec_proceedTimeout ..) (by simp) h b
  | exitReleaseAtArbiter => exact State.bar_event_of_gates (exec_exitReleaseAtArbiter ..) (by simp) h b
  | captureCompletionAtArbiter => exact State.bar_event_of_gates (exec_captureCompletionAtArbiter ..) (by simp) h b
  | captureFailureAtArbiter => exact State.bar_event_of_gates (exec_captureFailureAtArbiter ..) (by simp) h b
  | forceExitNoticeAtArbiter => exact State.bar_event_of_gates (exec_forceExitNoticeAtArbiter ..) (by simp) h b
  | barrierStateTaken => exact State.bar_event_of_gates (exec_barrierStateTaken ..) (by simp) h b
  | deckEmpty => exact State.bar_event_of_gates (exec_deckEmpty ..) (by simp) h b
  | withdrawalReport => exact State.bar_event_of_gates (exec_withdrawalReport ..) (by simp) h b
  | entryPassageReport => exact State.bar_event_of_gates (exec_entryPassageReport ..) (by simp) h b
  | recordsCaptureCompletion => exact State.bar_event_of_gates (exec_recordsCaptureCompletion ..) (by simp) h b
  | recordsCaptureFailure => exact State.bar_event_of_gates (exec_recordsCaptureFailure ..) (by simp) h b
  | exitPassageReport => exact State.bar_event_of_gates (exec_exitPassageReport ..) (by simp) h b
  | windowClose => exact State.bar_event_of_gates (exec_windowClose ..) (by simp) h b
  | engineWindow => exact State.bar_event_of_gates (exec_engineWindow ..) (by simp) h b
  | captureStart => exact State.bar_event_of_gates (exec_captureStart ..) (by simp) h b
  | recordsAbort => exact State.bar_event_of_gates (exec_recordsAbort ..) (by simp) h b
  | captureExternalEnd => exact State.bar_event_of_gates (exec_captureExternalEnd ..) (by simp) h b
  | attemptTimerExpiry => exact State.bar_event_of_gates (exec_attemptTimerExpiry ..) (by simp) h b
  | leaveDeckTimerExpiry => exact State.bar_event_of_gates (exec_leaveDeckTimerExpiry ..) (by simp) h b
  | positioningEdge => exact State.bar_event_of_gates (exec_positioningEdge ..) (by simp) h b
  | converterEdge => exact State.bar_event_of_gates (exec_converterEdge ..) (by simp) h b
  | calSwitch => exact State.bar_event_of_gates (exec_calSwitch ..) (by simp) h b
  | conditionerEdge => exact State.bar_event_of_gates (exec_conditionerEdge ..) (by simp) h b
  | stretchTimerExpiry => exact State.bar_event_of_gates (exec_stretchTimerExpiry ..) (by simp) h b
  | yardModeTaken => exact State.bar_event_of_gates (exec_yardModeTaken ..) (by simp) h b
  | drain => exact State.bar_event_of_gates (exec_drain ..) (by simp) h b
  | qualification => exact State.bar_event_of_gates (exec_qualification ..) (by simp) h b
  | startTimerExpiry => exact State.bar_event_of_gates (exec_startTimerExpiry ..) (by simp) h b
  | supplyLow => exact State.bar_event_of_gates (exec_supplyLow ..) (by simp) h b
  | supplyRestored => exact State.bar_event_of_gates (exec_supplyRestored ..) (by simp) h b
  | frameComplete => exact State.bar_event_of_gates (exec_frameComplete ..) (by simp) h b
  | gapTimerExpiry => exact State.bar_event_of_gates (exec_gapTimerExpiry ..) (by simp) h b
  | frameSent => exact State.bar_event_of_gates (exec_frameSent ..) (by simp) h b
  | noticeAdmission => exact State.bar_event_of_gates (exec_noticeAdmission ..) (by simp) h b
  | quietTimerExpiry => exact State.bar_event_of_gates (exec_quietTimerExpiry ..) (by simp) h b
  | characterReceived => exact State.bar_event_of_gates (exec_characterReceived ..) (by simp) h b
  | permissiveRise | permissiveFall | barrierLoopEdge | closeDelayExpiry | motionTimeout | limitEvent | keepaliveToggle
  | yardTick | watchExpiry | mainReset | yardResetEffect => cases hmoves
  | _ => cases hc

/-! ### Every command -/

/-- No boom starts down from `s` to `t` but with its loop clear in `t`. -/
structure State.StartsDownClear (s t : State) : Prop where
  clear : ∀ b, (s.bar b).state ≠ .lowering → (t.bar b).state = .lowering → (t.inp (.boom b)).debounced = .clear

namespace State.StartsDownClear

theorem of_lowersClear {s t : State} (h : s.LowersClear t) : s.StartsDownClear t :=
  ⟨fun b hs ht => beq_iff_eq.mp ((h.loop b).trans ((h.boom b ht).resolve_left hs))⟩

/-- A command that moves no boom may change the loops. -/
theorem of_bar {s t : State} (h : ∀ b, t.bar b = s.bar b) : s.StartsDownClear t :=
  ⟨fun b hs ht => absurd (h b ▸ ht) hs⟩

theorem of_next {s u t : State} (h : (.next u : Outcome) = .next t) (hu : s.StartsDownClear u) : s.StartsDownClear t :=
  Host.Outcome.next.inj h ▸ hu

theorem ite {s t u : State} {c : Prop} [Decidable c] (ht : c → s.StartsDownClear t) (hu : ¬ c → s.StartsDownClear u) :
    s.StartsDownClear (if c then t else u) := by
  split
  · exact ht ‹_›
  · exact hu ‹_›

/-- A start leaves every boom without motion (R168). -/
theorem restart (s : State) (x : Start) (cause : ResetCause) : s.StartsDownClear (s.restart x cause) := by
  refine ⟨fun b _ h => ?_⟩
  rw [State.bar_restart] at h
  have hlaw := BarrierWork.law_started { upper := x.first.upper.get b, lower := x.first.lower.get b }
    ((s.restart x cause).barCfg b).failAction
  have hmotion : (BarrierWork.started { upper := x.first.upper.get b, lower := x.first.lower.get b }
      ((s.restart x cause).barCfg b).failAction).motion = none := by
    unfold BarrierWork.started
    split
    · cases ((s.restart x cause).barCfg b).failAction <;> rfl
    · rfl
  simpa [hmotion] using hlaw.motion.mpr (.inr h)

section
variable {c : Instr} {s t : State}

theorem event {f : State → State} (hc : exec c s = Machine.event c f s) (hf : ∀ s : State, s.LowersClear (f s))
    (h : exec c s = .next t) : s.StartsDownClear t := by
  refine of_next (hc.symm.trans h) (ite (fun _ => of_lowersClear ?_) fun _ => of_bar fun _ => rfl)
  have htaken : s.LowersClear (s.consume c) := .of_frame (fun _ => rfl) fun _ => rfl
  exact (htaken.trans (hf _)).trans (.settle ..)

theorem request {q : Sender} {f : Serve} (hc : exec c s = Machine.request c q f s)
    (hf : ∀ (r : Role) (s : State), s.LowersClear (f r s).1) (h : exec c s = .next t) : s.StartsDownClear t := by
  have hserved : ∀ (u : State) (r : Role), s.LowersClear u → s.LowersClear (u.serveHand q c.requestCode f r) :=
    fun u r hu => (hu.trans (hf r u)).trans (.of_frame (fun _ => rfl) fun _ => rfl)
  have hport : ∀ g : PortWork → PortWork, s.LowersClear (s.modPort q.port g) := fun g =>
    .of_frame (fun _ => rfl) fun _ => rfl
  refine of_next (hc.symm.trans h) (ite (fun _ => of_lowersClear (.trans ?_ (.settle ..))) fun _ => of_bar fun _ => rfl)
  exact .ite (fun _ => hserved _ _ (.of_frame (fun _ => rfl) fun _ => rfl)) fun _ => .ite (fun _ => hport _) fun _ =>
    .ite (fun _ => hport _) fun _ => hserved _ _ (hport _)

end

theorem exec_moving (c : Instr) (hc : changesBarriers c = true) (s t : State) (h : exec c s = .next t) :
    s.StartsDownClear t := by
  cases c with
  | barrierReset => exact request (exec_barrierReset ..) (fun r s => .serveBarrierReset s r _) h
  | barrierCommand => exact request (exec_barrierCommand ..) (fun r s => .serveBarrierCommand s r ..) h
  | setDeckService => exact request (exec_setDeckService ..) (fun r s => .serveSetDeckService s r ..) h
  | permissiveRise => exact event (exec_permissiveRise ..) (fun s => .permissiveRise s _) h
  | permissiveFall => exact event (exec_permissiveFall ..) (fun s => .permissiveFall s _) h
  | barrierLoopEdge => exact event (exec_barrierLoopEdge ..) (fun s => .barrierLoopEdge s ..) h
  | closeDelayExpiry => exact event (exec_closeDelayExpiry ..) (fun s => .closeDelayExpiry s _) h
  | motionTimeout => exact event (exec_motionTimeout ..) (fun s => .motionTimeout s _) h
  | limitEvent => exact event (exec_limitEvent ..) (fun s => .limitEvent s ..) h
  | keepaliveToggle => exact event (exec_keepaliveToggle ..) (fun s => .keepaliveToggle s _) h
  | supplyStateTaken r =>
    cases r with
    | engine | arbiter => cases hc
    | barrier => exact event (exec_supplyStateTaken ..) (fun s => .supplyTaken s ..) h
  | watchExpiry => exact event (exec_watchExpiry ..) (fun s => .watchExpiry s _) h
  | yardTick x =>
    refine of_next h (ite (fun _ => of_lowersClear ?_) fun _ => of_bar fun _ => rfl)
    have htaken : s.LowersClear (s.consume (.yardTick x)) := .of_frame (fun _ => rfl) fun _ => rfl
    exact (htaken.trans (.tick ..)).trans (.settle ..)
  | mainReset => exact of_next h (restart ..)
  | yardResetEffect => exact of_next h (ite (fun _ => restart ..) fun _ => of_bar fun _ => rfl)
  | _ => cases hc

theorem step (s t : State) (h : Machine.step s = .next t) : s.StartsDownClear t := by
  unfold Machine.step at h
  split at h
  · exact of_next h (of_bar fun _ => rfl)
  · next c rest _ =>
    have hof : StartsDownClear { s with pending := rest } t → s.StartsDownClear t := fun k => ⟨k.clear⟩
    cases hmoves : changesBarriers c with
    | true => exact hof (exec_moving c hmoves _ t h)
    | false =>
      cases hc : c.spelling.isSome with
      | true => exact hof (of_bar (bar_exec_request c hc hmoves _ t h))
      | false => exact hof (of_bar (bar_exec_event c hc hmoves _ t h))

end State.StartsDownClear

end Sys2Proof.Machine

open Sys2Proof.Machine

/-- Settles O11: a boom starts down on the lowering path or at a LOWER of the console, and both ask for a clear loop
(`State.StartsDownClear.step`). -/
theorem noBoomComesDownOnAVehicle : Obligations.NoBoomComesDownOnAVehicle := fun s t b h =>
  (State.StartsDownClear.step s t h).clear b
end

section
/-! SUPPORT. The permissive of a barrier: its value, its rise, its fall and the fail action (R152 to R157). -/

namespace Sys2Proof.Machine

/-! ### A barrier rewritten twice -/

section
variable {s : State} {b : Barrier}

theorem State.modBar_same {f : BarrierWork → BarrierWork} (h : f (s.bar b) = s.bar b) :
    s.modBar b f = s := by
  rw [← State.modBar_const s b f, h]
  cases b <;> rfl

theorem State.modBar_modBar (f g : BarrierWork → BarrierWork) :
    (s.modBar b f).modBar b g = s.modBar b fun w => g (f w) := by
  cases b <;> rfl

/-- A move gives a barrier anew, whatever rewriting came before. -/
theorem State.moveBar_modBar (f : BarrierWork → BarrierWork) (old : BarrierState) (new : BarrierWork)
    (reason : BarrierReason) : (s.modBar b f).moveBar b old new reason = s.moveBar b old new reason := by
  cases b <;> rfl

@[simp] theorem State.bar_moveBar (old : BarrierState) (new : BarrierWork) (reason : BarrierReason) :
    (s.moveBar b old new reason).bar b = new := by
  simp [State.moveBar]

/-- The lowering path of a barrier on its latch: its timer is dropped (R158). -/
theorem State.judgeLowering_latched (hlatch : (s.bar b).latch = true) :
    s.judgeLowering b = s.modBar b fun _ => { s.bar b with closeDelay := none } := by
  refine State.judgeLowering_not fun hmay => ?_
  obtain ⟨-, hclear, -⟩ := hmay
  exact absurd (hclear.symm.trans hlatch) nofun

end

/-! ### The permissive (R152, R153) -/

theorem State.released_iff (s : State) (d : Deck) :
    s.released d = true ↔ ∃ cur, (s.arb d).current = some cur ∧ cur.released = true := by
  simp only [State.released, Option.any_eq_true]

theorem State.permissiveNow_iff (s : State) (b : Barrier) : s.permissiveNow b = true ↔
    (s.bar b).state ≠ .fault ∧ s.supplyAt (.barrier b) = .normal ∧
      if b.isEntry then (s.arb b.deck).state = .granted ∧ s.modeAt (.entryBarrier b.deck) ≠ .closed
      else (s.arb b.deck).state = .occupied ∧ ∃ cur, (s.arb b.deck).current = some cur ∧ cur.released = true := by
  unfold State.permissiveNow
  split
  · simp only [Bool.and_eq_true, Bool.not_eq_true', bne_iff_ne, beq_iff_eq, State.not_lowAt_iff]
    tauto
  · simp only [Bool.and_eq_true, Bool.not_eq_true', bne_iff_ne, beq_iff_eq, State.not_lowAt_iff, State.released_iff]
    tauto

/-! ### The rise (R154) -/

/-- A barrier that the rise of its permissive starts up, or finds on its upper limit (R154, R157). -/
def BarrierWork.lifted (w : BarrierWork) (c : BarrierCfg) : BarrierWork :=
  { w with
    permissive := true, latch := true, hold := .none, state := if w.upper then .up else .raising, closeDelay := none
    reversal := if w.upper then false else w.reversal
    motion := if w.upper then none else some (c.motionLimit * 1000) }

theorem BarrierWork.raising_eq_lifted (w : BarrierWork) (c : BarrierCfg) :
    ({ w with permissive := true, latch := true, hold := .none } : BarrierWork).raising c = w.lifted c := by
  unfold BarrierWork.raising BarrierWork.lifted BarrierCfg.motion
  cases w.upper <;> rfl

section
variable {s : State} {b : Barrier}

theorem State.permissiveRise_none (h : s.permissiveNow b = false ∨ (s.bar b).permissive = true) :
    s.permissiveRise b = s :=
  if_pos (by rcases h with h | h <;> simp [h])

section
variable (hnow : s.permissiveNow b = true) (hlast : (s.bar b).permissive = false)
include hnow hlast

theorem State.permissiveRise_lifts (hs : (s.bar b).state ∈ [BarrierState.down, .stopped, .lowering]) :
    s.permissiveRise b = s.moveBar b (s.bar b).state ((s.bar b).lifted (s.barCfg b)) .latch := by
  have hne : (s.bar b).state ≠ ((s.bar b).lifted (s.barCfg b)).state := by
    unfold BarrierWork.lifted
    simp only [List.mem_cons, List.not_mem_nil, or_false] at hs
    rcases hs with hs | hs | hs <;> rw [hs] <;> dsimp only <;> split <;> nofun
  rw [State.permissiveRise, if_neg (by simp [hnow, hlast]), State.changeBar_of_ne _ hne]
  · rw [State.judgeLowering_latched (by rw [State.bar_moveBar]; rfl), State.modBar_same (by rw [State.bar_moveBar]; rfl)]
  · simp only [List.mem_cons, List.not_mem_nil, or_false] at hs
    rcases hs with hs | hs | hs <;> simp only [hs] <;> exact BarrierWork.raising_eq_lifted ..

theorem State.permissiveRise_raising (hs : (s.bar b).state = .raising) : s.permissiveRise b = s.modBar b fun _ =>
    { s.bar b with permissive := true, latch := true, hold := .none, reversal := false, closeDelay := none } := by
  rw [State.permissiveRise, if_neg (by simp [hnow, hlast]),
    State.changeBar_of_eq (new := { s.bar b with permissive := true, latch := true, hold := .none, reversal := false })
      (by simp only [hs]) (by rfl),
    State.judgeLowering_latched (by rw [State.bar_modBar_self]), State.bar_modBar_self, State.modBar_modBar]

theorem State.permissiveRise_up (hs : (s.bar b).state = .up) : s.permissiveRise b = s.modBar b fun _ =>
    { s.bar b with permissive := true, latch := true, hold := .none, closeDelay := none } := by
  rw [State.permissiveRise, if_neg (by simp [hnow, hlast]),
    State.changeBar_of_eq (new := { s.bar b with permissive := true, latch := true, hold := .none, closeDelay := none })
      (by simp only [hs]) (by rfl),
    State.judgeLowering_latched (by rw [State.bar_modBar_self]), State.bar_modBar_self, State.modBar_modBar]

end

/-! ### The fail action (R156) -/

theorem State.failAction_hold (hcfg : (s.barCfg b).failAction = .hold) (hs : (s.bar b).state ≠ .stopped) :
    s.failAction b = s.moveBar b (s.bar b).state
      { s.bar b with latch := false, hold := .fail, state := .stopped, motion := none, reversal := false } .failAction :=
  State.changeBar_of_ne (by simp only [hcfg, BarrierWork.stopped]) hs .failAction

theorem State.failAction_lower_raising (hcfg : (s.barCfg b).failAction = .lower) (hs : (s.bar b).state = .raising) :
    s.failAction b = s.moveBar b (s.bar b).state
      { s.bar b with latch := false, state := .stopped, motion := none, reversal := false } .failAction :=
  State.changeBar_of_ne (by simp only [hcfg, hs, if_true, BarrierWork.stopped]) (by rw [hs]; nofun) .failAction

theorem State.failAction_lower_still (hcfg : (s.barCfg b).failAction = .lower) (hs : (s.bar b).state ≠ .raising) :
    s.failAction b = s.modBar b fun _ => { s.bar b with latch := false } :=
  State.changeBar_of_eq (by simp only [hcfg, if_neg hs]) (by rfl) .failAction

/-! ### The fall (R156) -/

/-- A barrier as the fall of its permissive finds it. -/
def State.fallen (s : State) (b : Barrier) : State := s.modBar b fun w => { w with permissive := false }

theorem State.bar_fallen (s : State) (b : Barrier) : (s.fallen b).bar b = { s.bar b with permissive := false } :=
  State.bar_modBar_self ..

theorem State.permissiveFall_none (h : s.permissiveNow b = true ∨ (s.bar b).permissive = false) :
    s.permissiveFall b = s :=
  if_pos (by rcases h with h | h <;> simp [h])

section
variable (hnow : s.permissiveNow b = false) (hlast : (s.bar b).permissive = true)
include hnow hlast

theorem State.permissiveFall_unlatched (hlatch : (s.bar b).latch = false) :
    s.permissiveFall b = s.modBar b fun _ => { s.bar b with permissive := false } := by
  rw [State.permissiveFall, if_neg (by simp [hnow, hlast]), if_pos (by simp [hlatch])]
  exact (State.modBar_const s b fun w => { w with permissive := false }).symm

variable (hlatch : (s.bar b).latch = true)
include hlatch

/-- Where a vehicle is in the loop, the fall clears the latch (R155, R156). -/
theorem State.permissiveFall_vehicle (hloop : (s.bar b).inLoop = true) : s.permissiveFall b =
    ((s.fallen b).changeBar b .latchCleared fun w =>
      if w.onLatch then { w.stopped with latch := false } else { w with latch := false }).judgeLowering b := by
  rw [State.permissiveFall, if_neg (by simp [hnow, hlast]), if_neg (by simp [hlatch]), if_pos hloop]
  rfl

theorem State.permissiveFall_vehicle_stays (hloop : (s.bar b).inLoop = true)
    (hs : (s.bar b).state ≠ .raising ∨ (s.bar b).reversal = true) : s.permissiveFall b =
      (s.modBar b fun _ => { s.bar b with permissive := false, latch := false }).judgeLowering b := by
  have honLatch : ({ s.bar b with permissive := false } : BarrierWork).onLatch = false := by
    rw [Bool.eq_false_iff, Ne, BarrierWork.onLatch_iff]
    rintro ⟨hraising, -, hreversal⟩
    rcases hs with hs | hs
    · exact hs hraising
    · exact absurd (hreversal.symm.trans hs) nofun
  rw [State.permissiveFall_vehicle hnow hlast hlatch hloop,
    State.changeBar_of_eq (new := { s.bar b with permissive := false, latch := false })
      (by rw [State.bar_fallen, if_neg (by simp [honLatch])]) (by rw [State.bar_fallen]),
    State.fallen, State.modBar_modBar]

theorem State.permissiveFall_vehicle_stops (hloop : (s.bar b).inLoop = true) (hs : (s.bar b).state = .raising)
    (hreversal : (s.bar b).reversal = false) : s.permissiveFall b =
      (s.moveBar b (s.bar b).state
        { s.bar b with permissive := false, latch := false, state := .stopped, motion := none, reversal := false }
        .latchCleared).judgeLowering b := by
  have honLatch : ({ s.bar b with permissive := false } : BarrierWork).onLatch = true :=
    (BarrierWork.onLatch_iff _).mpr ⟨hs, hlatch, hreversal⟩
  rw [State.permissiveFall_vehicle hnow hlast hlatch hloop,
    State.changeBar_of_ne
      (new := { s.bar b with
        permissive := false, latch := false, state := .stopped, motion := none, reversal := false })
      (by rw [State.bar_fallen, if_pos honLatch]; rfl) (by simp [State.bar_fallen, hs]),
    State.bar_fallen, State.fallen, State.moveBar_modBar]

/-- Else the fail action is carried out (R156). -/
theorem State.permissiveFall_clear (hloop : (s.bar b).inLoop = false) :
    s.permissiveFall b = ((s.fallen b).failAction b).judgeLowering b := by
  rw [State.permissiveFall, if_neg (by simp [hnow, hlast]), if_neg (by simp [hlatch]), if_neg (by simp [hloop])]
  rfl

theorem State.permissiveFall_clear_stays (hloop : (s.bar b).inLoop = false) (hs : (s.bar b).state ≠ .raising)
    (hcfg : (s.barCfg b).failAction = .lower) : s.permissiveFall b =
      (s.modBar b fun _ => { s.bar b with permissive := false, latch := false }).judgeLowering b := by
  rw [State.permissiveFall_clear hnow hlast hlatch hloop,
    State.failAction_lower_still (s := s.fallen b) hcfg (by rwa [State.bar_fallen]), State.bar_fallen, State.fallen,
    State.modBar_modBar]

theorem State.permissiveFall_clear_stops (hloop : (s.bar b).inLoop = false) (hs : (s.bar b).state = .raising)
    (hcfg : (s.barCfg b).failAction = .lower) : s.permissiveFall b =
      (s.moveBar b (s.bar b).state
        { s.bar b with permissive := false, latch := false, state := .stopped, motion := none, reversal := false }
        .failAction).judgeLowering b := by
  rw [State.permissiveFall_clear hnow hlast hlatch hloop,
    State.failAction_lower_raising (s := s.fallen b) hcfg (by rwa [State.bar_fallen]), State.bar_fallen, State.fallen,
    State.moveBar_modBar]

theorem State.permissiveFall_clear_holds (hloop : (s.bar b).inLoop = false) (hs : (s.bar b).state ≠ .stopped)
    (hcfg : (s.barCfg b).failAction = .hold) : s.permissiveFall b =
      (s.moveBar b (s.bar b).state
        { s.bar b with
          permissive := false, latch := false, hold := .fail, state := .stopped, motion := none, reversal := false }
        .failAction).judgeLowering b := by
  rw [State.permissiveFall_clear hnow hlast hlatch hloop,
    State.failAction_hold (s := s.fallen b) hcfg (by rwa [State.bar_fallen]), State.bar_fallen, State.fallen,
    State.moveBar_modBar]

end

end

end Sys2Proof.Machine

open Sys2Proof Sys2Proof.Machine

/-- Settles O44: a rise by the state it finds, the permissive by its inputs, a fall by the latch, the passage and the fail
action; the law of the barrier gives the states in which a latch is SET. -/
theorem permissives : Obligations.Permissives := by
  refine ⟨fun s b hrun => ?_, State.permissiveNow_iff, fun s b hrun hlaw => ?_⟩
  · intro c w
    have hrise : ∀ u : State → State, (s.consume c).permissiveRise b = u (s.consume c) → exec c s = .next (s.after c u) :=
      fun u hu => (exec_permissiveRise ..).trans (event_after s c _ u hrun hu)
    refine ⟨fun h => ?_, fun hnow hlast hs => ?_, fun hnow hlast hs => ?_, fun hnow hlast hs => ?_⟩
    · exact hrise _ (State.permissiveRise_none h)
    · exact hrise _ (State.permissiveRise_lifts hnow hlast hs)
    · exact hrise _ (State.permissiveRise_raising hnow hlast hs)
    · exact hrise _ (State.permissiveRise_up hnow hlast hs)
  · intro c w
    have hfall : ∀ u : State → State, (s.consume c).permissiveFall b = u (s.consume c) → exec c s = .next (s.after c u) :=
      fun u hu => (exec_permissiveFall ..).trans (event_after s c _ u hrun hu)
    refine ⟨fun h => ?_, fun hnow hlast => ⟨fun hlatch => ?_, fun hlatch hloop hs => ?_, fun hlatch hloop hs hcfg => ?_, ?_⟩⟩
    · exact hfall _ (State.permissiveFall_none h)
    · exact hfall _ (State.permissiveFall_unlatched hnow hlast hlatch)
    · refine hfall _ (State.permissiveFall_vehicle_stays hnow hlast hlatch hloop (hs.imp_left fun hup => ?_))
      exact hup.trans_ne nofun
    · exact hfall _ (State.permissiveFall_clear_stays hnow hlast hlatch hloop (hs.trans_ne nofun) hcfg)
    · refine ⟨fun hlatch hloop hs hreversal => ?_, fun hlatch hloop hs hcfg => ?_, fun hlatch hloop hcfg => ?_⟩
      · exact hfall _ (State.permissiveFall_vehicle_stops hnow hlast hlatch hloop hs hreversal)
      · exact hfall _ (State.permissiveFall_clear_stops hnow hlast hlatch hloop hs hcfg)
      · have hstate : w.state ≠ .stopped := by rcases hlaw.latch hlatch with hs | hs <;> exact hs.trans_ne nofun
        exact hfall _ (State.permissiveFall_clear_holds hnow hlast hlatch hloop hstate hcfg)
end

section
/-! SUPPORT. The limits of a barrier, its placement, its motion timer and its keepalive line (R151, R156 to R158, R160 to R162,
R165, R166, R168). -/

namespace Sys2Proof.Machine

/-! ### A limit that a barrier has just taken (R151) -/

section
variable {s : State} {b : Barrier} {v : BarrierWork}

/-- A barrier that is rewritten within its state, and then moves. -/
theorem State.changeBar_rewritten (hv : v.state = (s.bar b).state) {f : BarrierWork → BarrierWork} {new : BarrierWork}
    (hf : f v = new) (hne : (s.bar b).state ≠ new.state) (reason : BarrierReason) :
    (s.modBar b fun _ => v).changeBar b reason f = s.moveBar b (s.bar b).state new reason := by
  rw [State.changeBar_of_ne (new := new) (by rw [State.bar_modBar_self]; exact hf)
      (by rw [State.bar_modBar_self, hv]; exact hne),
    State.bar_modBar_self, hv, State.moveBar_modBar]

theorem State.faultBar_rewritten (hv : v.state = (s.bar b).state) (hs : (s.bar b).state ≠ .fault) (cause : FaultCause) :
    (s.modBar b fun _ => v).faultBar b cause = s.moveBar b (s.bar b).state (v.faulted cause) (.fault cause) :=
  State.changeBar_rewritten hv rfl hs _

theorem State.faultBar_eq (hs : (s.bar b).state ≠ .fault) (cause : FaultCause) :
    s.faultBar b cause = s.moveBar b (s.bar b).state ((s.bar b).faulted cause) (.fault cause) :=
  State.changeBar_of_ne rfl hs _

end

section
variable (s : State) (b : Barrier)

theorem State.limitEvent_upper :
    let w := s.bar b
    let v : BarrierWork := { w with upper := !w.upper, upperRun := 0 }
    s.limitEvent b .upper = if w.upperRun < 20 then s
    else if w.state = .fault then s.modBar b fun _ => v
    else if w.upper = false ∧ w.lower = true then s.moveBar b w.state (v.faulted .bothLimits) (.fault .bothLimits)
    else if w.upper = true ∧ w.state = .up then s.moveBar b w.state (v.faulted .limitLost) (.fault .limitLost)
    else if w.upper = false ∧ w.state = .raising then
      (s.moveBar b w.state { v with state := .up, motion := none, reversal := false } .limit).judgeLowering b
    else s.modBar b fun _ => v := by
  intro w v
  have hseen : (s.modBar b fun w => { w with upper := !w.upper, upperRun := 0 }) = s.modBar b fun _ => v :=
    (State.modBar_const s b fun w => { w with upper := !w.upper, upperRun := 0 }).symm
  simp only [State.limitEvent, hseen]
  refine ite_congr rfl (fun _ => rfl) fun _ => ite_congr rfl (fun _ => rfl) fun hs => ?_
  have hfault := State.faultBar_rewritten (s := s) (b := b) (v := v) rfl hs
  refine ite_congr (by simp [w]) (fun _ => hfault _) fun _ => ?_
  by_cases hupper : w.upper = true
  · rw [if_pos hupper, if_neg (c := w.upper = false ∧ w.state = .raising) (by simp [hupper])]
    exact ite_congr (by simp [hupper, w]) (fun _ => hfault _) fun _ => rfl
  · rw [if_neg hupper, if_neg (c := w.upper = true ∧ w.state = .up) (by simp [hupper])]
    refine ite_congr (by simp [hupper, w]) (fun hraising => congrArg (State.judgeLowering · b) ?_) fun _ => rfl
    exact State.changeBar_rewritten (v := v) rfl rfl (hraising.2.trans_ne (by nofun)) _

theorem State.limitEvent_lower :
    let w := s.bar b
    let v : BarrierWork := { w with lower := !w.lower, lowerRun := 0 }
    s.limitEvent b .lower = if w.lowerRun < 20 then s
    else if w.state = .fault then s.modBar b fun _ => v
    else if w.upper = true ∧ w.lower = false then s.moveBar b w.state (v.faulted .bothLimits) (.fault .bothLimits)
    else if w.lower = true ∧ w.state = .down then s.moveBar b w.state (v.faulted .limitLost) (.fault .limitLost)
    else if w.lower = false ∧ w.state = .lowering then s.moveBar b w.state v.toDown .limit
    else s.modBar b fun _ => v := by
  intro w v
  have hseen : (s.modBar b fun w => { w with lower := !w.lower, lowerRun := 0 }) = s.modBar b fun _ => v :=
    (State.modBar_const s b fun w => { w with lower := !w.lower, lowerRun := 0 }).symm
  simp only [State.limitEvent, hseen]
  refine ite_congr rfl (fun _ => rfl) fun _ => ite_congr rfl (fun _ => rfl) fun hs => ?_
  have hfault := State.faultBar_rewritten (s := s) (b := b) (v := v) rfl hs
  refine ite_congr (by simp [w]) (fun _ => hfault _) fun _ => ?_
  by_cases hlower : w.lower = true
  · rw [if_pos hlower, if_neg (c := w.lower = false ∧ w.state = .lowering) (by simp [hlower])]
    exact ite_congr (by simp [hlower, w]) (fun _ => hfault _) fun _ => rfl
  · rw [if_neg hlower, if_neg (c := w.lower = true ∧ w.state = .down) (by simp [hlower])]
    exact ite_congr (by simp [hlower, w])
      (fun hlowering => State.changeBar_rewritten (v := v) rfl rfl (hlowering.2.trans_ne (by nofun)) _) fun _ => rfl

end

/-! ### Placement (R168) -/

/-- A change of a barrier's state is posted, flagged and delivered to its readers (R166). -/
def State.announceBar (s : State) (b : Barrier) (old new : BarrierState) (reason : BarrierReason) : State :=
  if old = new then s
  else ((s.post (.barrier b) (.barrierState b old new reason)).flag .decks).raise
    ((barrierReaders b).map fun k => .barrierStateTaken k b new)

theorem State.changeBar_eq_announceBar {s : State} {b : Barrier} {f : BarrierWork → BarrierWork} {new : BarrierWork}
    (hf : f (s.bar b) = new) (reason : BarrierReason) :
    s.changeBar b reason f = (s.modBar b fun _ => new).announceBar b (s.bar b).state new.state reason := by
  subst hf
  rfl

theorem BarrierWork.placed_eq (w : BarrierWork) : w.placed =
    { w with
      state := placedState w.upper w.lower, latch := false, hold := .none, reversal := false, closeDelay := none
      motion := none, cause := if w.upper = true ∧ w.lower = true then some .bothLimits else none } := by
  simp only [BarrierWork.placed, Bool.and_eq_true]

theorem placedState_off_lower {upper lower : Bool} :
    (placedState upper lower = .up ∨ placedState upper lower = .stopped) ↔ lower = false := by
  revert upper lower
  decide

section
variable {s : State} {b : Barrier}

/-- A barrier that is out of FAULT has the permissive that its inputs give (R152, R153). -/
theorem State.Steady.permissiveNow {t u : State} (ht : s.Steady t) (hu : s.Steady u) (htb : (t.bar b).state ≠ .fault)
    (hub : (u.bar b).state ≠ .fault) : t.permissiveNow b = u.permissiveNow b := by
  simp only [State.permissiveNow, State.released, ht.arb, hu.arb, ht.modeAt, hu.modeAt, ht.lowAt, hu.lowAt,
    bne_iff_ne.mpr htb, bne_iff_ne.mpr hub]

theorem State.bar_judgeLowering_not (h : ¬ s.MayLower b) :
    (s.judgeLowering b).bar b = { s.bar b with closeDelay := none } := by
  rw [State.judgeLowering_not h, State.bar_modBar_self]

/-- The keepalive line has its timer exactly while it toggles (R165). -/
theorem State.bar_judgeKeepalive (s : State) (b : Barrier) : (s.judgeKeepalive b).bar b =
    { s.bar b with half := if s.toggles b then (s.bar b).half <|> some (s.barCfg b).halfPeriod else none } :=
  State.bar_modBar_self ..

/-- A barrier placed by its limits, before the fail action and the lowering path (R168). -/
def State.placedByLimits (s : State) (b : Barrier) : State := s.changeBar b .placement BarrierWork.placed

theorem State.bar_placedByLimits (s : State) (b : Barrier) : (s.placedByLimits b).bar b = (s.bar b).placed :=
  State.bar_changeBar ..

theorem State.steady_placedByLimits (s : State) (b : Barrier) : s.Steady (s.placedByLimits b) :=
  State.Steady.changeBar s b .placement BarrierWork.placed

/-- A barrier is placed and then judged; a fail action of LOWER finds nothing left to do (R156, R168). -/
theorem State.place_eq (s : State) (b : Barrier) : s.place b =
    ((if (s.bar b).lower = false ∧ (s.placedByLimits b).permissiveNow b = false ∧ (s.barCfg b).failAction = .hold then
        (s.placedByLimits b).failAction b
      else s.placedByLimits b).judgeLowering b).judgeKeepalive b := by
  have hbar := s.bar_placedByLimits b
  have hcfg := (s.steady_placedByLimits b).barCfg b
  have hstate : ((s.placedByLimits b).bar b).state = .up ∨ ((s.placedByLimits b).bar b).state = .stopped ↔
      (s.bar b).lower = false := by
    rw [hbar]
    exact placedState_off_lower
  change State.judgeKeepalive (State.judgeLowering (ite _ ((s.placedByLimits b).failAction b) (s.placedByLimits b)) b) b = _
  refine congrArg (fun u => (State.judgeLowering u b).judgeKeepalive b) ((if_congr (and_congr_left' hstate) rfl rfl).trans ?_)
  cases hfail : (s.barCfg b).failAction with
  | hold =>
    simp only [and_true]
    rfl
  | lower =>
    have hstill : (s.placedByLimits b).failAction b = s.placedByLimits b := by
      rw [State.failAction_lower_still (hcfg ▸ hfail) (hbar ▸ BarrierWork.placed_not_raising _)]
      exact State.modBar_same (by rw [hbar]; rfl)
    simp only [hstill, ite_self]

/-- A placement whose lowering path finds no boom that may lower (R158, R165, R168). -/
theorem State.bar_place_still {u : State} (hu : s.place b = (u.judgeLowering b).judgeKeepalive b) (hmay : ¬ u.MayLower b) :
    ∃ half, (s.place b).bar b = { u.bar b with closeDelay := none, half := half } ∧
      ((u.bar b).state = .fault → half = none) := by
  have hbar := State.bar_judgeLowering_not hmay
  rw [hu, State.bar_judgeKeepalive, hbar]
  refine ⟨_, rfl, fun hfault => if_neg ?_⟩
  simp [State.toggles, hbar, hfault]

/-- A barrier with its lower limit ACTIVE is placed DOWN or in FAULT (R168). -/
theorem State.bar_place_lower (hlower : (s.bar b).lower = true) :
    ∃ half, (s.place b).bar b = { (s.bar b).placed with half := half } ∧ ((s.bar b).placed.state = .fault → half = none) := by
  have hbar := s.bar_placedByLimits b
  have hplace := s.place_eq b
  rw [if_neg (by simp [hlower])] at hplace
  have hstate : ¬ ((s.bar b).placed.state = .up ∨ (s.bar b).placed.state = .stopped) := by
    rw [BarrierWork.placed, placedState_off_lower, hlower]
    nofun
  obtain ⟨half, hplaced, hhalf⟩ := State.bar_place_still hplace fun hmay => hstate (hbar ▸ hmay.1)
  rw [hbar] at hplaced hhalf
  exact ⟨half, hplaced, hhalf⟩

/-- A barrier placed UP or STOPPED without its permissive is stopped by a fail action of HOLD (R156, R168). -/
theorem State.bar_place_hold (hlower : (s.bar b).lower = false)
    (hnow : (s.modBar b fun w => { w with state := .stopped }).permissiveNow b = false)
    (hcfg : (s.barCfg b).failAction = .hold) :
    ∃ half, (s.place b).bar b = { (s.bar b).placed with state := .stopped, hold := .fail, half := half } := by
  have hbar := s.bar_placedByLimits b
  have hsteady := s.steady_placedByLimits b
  have hstate : (s.bar b).placed.state = .up ∨ (s.bar b).placed.state = .stopped := placedState_off_lower.mpr hlower
  have hpermissive : (s.placedByLimits b).permissiveNow b = false := by
    rw [hsteady.permissiveNow (State.Steady.modBar s b fun w => { w with state := .stopped }), hnow]
    · rw [hbar]
      rcases hstate with hs | hs <;> rw [hs] <;> nofun
    · rw [State.bar_modBar_self]
      nofun
  have hplace := s.place_eq b
  rw [if_pos ⟨hlower, hpermissive, hcfg⟩] at hplace
  have hfailed : ((s.placedByLimits b).failAction b).bar b =
      { (s.bar b).placed with state := .stopped, hold := .fail } := by
    rw [State.failAction, State.bar_changeBar, hbar, hsteady.barCfg, hcfg]
    rfl
  obtain ⟨half, hplaced, -⟩ := State.bar_place_still hplace fun hmay => by
    obtain ⟨-, -, hhold, -⟩ := hmay
    rw [hfailed] at hhold
    cases hhold
  rw [hfailed] at hplaced
  exact ⟨half, hplaced⟩

/-! ### The motion timer and the keepalive line (R160, R165) -/

theorem State.toggles_iff (s : State) (b : Barrier) :
    s.toggles b = true ↔ (s.bar b).state ≠ .fault ∧ s.supplyAt (.barrier b) = .normal := by
  simp only [State.toggles, Bool.and_eq_true, bne_iff_ne, Bool.not_eq_true', State.not_lowAt_iff]

theorem State.motionTimeout_eq (s : State) (b : Barrier) : s.motionTimeout b =
    if (s.bar b).motion = some 0 ∧ ((s.bar b).state = .raising ∨ (s.bar b).state = .lowering) then
      s.moveBar b (s.bar b).state ((s.bar b).faulted .motionTimeout) (.fault .motionTimeout)
    else s := by
  refine ite_congr rfl (fun h => State.faultBar_eq ?_ _) fun _ => rfl
  rcases h.2 with hs | hs <;> rw [hs] <;> nofun

theorem State.keepaliveToggle_eq (s : State) (b : Barrier) : s.keepaliveToggle b =
    if (s.bar b).half = some 0 ∧ (s.bar b).state ≠ .fault ∧ s.supplyAt (.barrier b) = .normal then
      s.modBar b fun _ => { s.bar b with level := !(s.bar b).level, half := some (s.barCfg b).halfPeriod }
    else s :=
  if_congr (and_congr_right fun _ => s.toggles_iff b)
    (State.modBar_const s b fun w => { w with level := !w.level, half := some (s.barCfg b).halfPeriod }).symm rfl

theorem State.judgeKeepalive_eq (s : State) (b : Barrier) : s.judgeKeepalive b = s.modBar b fun _ =>
    { s.bar b with
      half := if (s.bar b).state ≠ .fault ∧ s.supplyAt (.barrier b) = .normal then
          some ((s.bar b).half.getD (s.barCfg b).halfPeriod)
        else none } := by
  have hhalf : (if s.toggles b then (s.bar b).half <|> some (s.barCfg b).halfPeriod else none) =
      if (s.bar b).state ≠ .fault ∧ s.supplyAt (.barrier b) = .normal then
        some ((s.bar b).half.getD (s.barCfg b).halfPeriod)
      else none := by
    refine if_congr (s.toggles_iff b) ?_ rfl
    cases (s.bar b).half <;> rfl
  rw [← hhalf]
  exact (State.modBar_const s b fun w =>
    { w with half := if s.toggles b then w.half <|> some (s.barCfg b).halfPeriod else none }).symm

end

end Sys2Proof.Machine

open Sys2Proof Sys2Proof.Machine

/-- Settles O46: a limit by the state it is taken in, placement by the limits and the fail action, and the two timers. -/
theorem limitsPlacementAndTimers : Obligations.LimitsPlacementAndTimers := by
  refine ⟨fun s b hrun => ⟨?_, ?_⟩, fun s b => ⟨by decide, ?_, ?_, ?_, ?_⟩, fun s b hrun => ⟨?_, ?_⟩⟩
  · intro c v
    exact (exec_limitEvent ..).trans (event_after s c _ _ hrun (State.limitEvent_upper (s.consume c) b))
  · intro c v
    exact (exec_limitEvent ..).trans (event_after s c _ _ hrun (State.limitEvent_lower (s.consume c) b))
  · intro move v t
    have ht : s.placedByLimits b = t := State.changeBar_eq_announceBar (s.bar b).placed_eq _
    rw [s.place_eq b, ht]
    refine congrArg (fun u => (State.judgeLowering u b).judgeKeepalive b) (ite_congr rfl (fun h => ?_) fun _ => rfl)
    have hbar : t.bar b = v := by rw [← ht, s.bar_placedByLimits b, BarrierWork.placed_eq]
    have hcfg : (t.barCfg b).failAction = .hold := by rw [← ht, (s.steady_placedByLimits b).barCfg]; exact h.2.2
    refine (State.changeBar_eq_announceBar (new := { v with state := .stopped, hold := .fail }) ?_ _).trans ?_
    · rw [hbar]
      simp only [hcfg]
      rfl
    · rw [hbar]
      rfl
  · intro hlower hupper
    obtain ⟨half, hbar, -⟩ := State.bar_place_lower hlower
    simp [hbar, BarrierWork.placed, placedState, hlower, hupper]
  · intro hlower hnow hcfg
    obtain ⟨half, hbar⟩ := State.bar_place_hold hlower hnow hcfg
    rw [hbar]
    exact ⟨rfl, rfl, rfl⟩
  · intro hlower hupper
    obtain ⟨half, hbar, hhalf⟩ := State.bar_place_lower hlower
    have hfault : (s.bar b).placed.state = .fault := by rw [BarrierWork.placed, hlower, hupper]; rfl
    simp [hbar, hhalf hfault, BarrierWork.placed, placedState, hlower, hupper]
  · intro c
    exact (exec_motionTimeout ..).trans (event_after s c _ _ hrun (State.motionTimeout_eq (s.consume c) b))
  · intro c
    refine ⟨?_, s.judgeKeepalive_eq b⟩
    exact (exec_keepaliveToggle ..).trans (event_after s c _ _ hrun (State.keepaliveToggle_eq (s.consume c) b))
end

section
/-! SUPPORT. BARRIER_RESET and BARRIER_COMMAND (R163, R164, R168). -/

namespace Sys2Proof.Machine

theorem actionOf_of_ge {n : Nat} (h : 3 ≤ n) : actionOf n = none := by
  obtain ⟨k, rfl⟩ := Nat.exists_eq_add_of_le' h; rfl

theorem actionOf_of_lt {n : Nat} (h : n < 3) : ∃ a, actionOf n = some a := by
  match n, h with
  | 0, _ => exact ⟨_, rfl⟩
  | 1, _ => exact ⟨_, rfl⟩
  | 2, _ => exact ⟨_, rfl⟩

theorem placedState_eq {upper lower : Bool} (h : ¬ (upper = true ∧ lower = true)) :
    placedState upper lower = if lower then .down else if upper then .up else .stopped := by
  cases upper <;> cases lower
  · rfl
  · rfl
  · rfl
  · exact absurd ⟨rfl, rfl⟩ h

/-- A barrier under a console command, by the number of the command (R164). -/
def BarrierWork.commanded (w : BarrierWork) (c : BarrierCfg) (action : Nat) : BarrierWork :=
  let v : BarrierWork := { w with latch := false, closeDelay := none, hold := .command }
  if action = 0 then
    if w.upper then { v with state := .up, motion := none, reversal := false }
    else { v with state := .raising, motion := some (c.motionLimit * 1000) }
  else if action = 1 then
    if w.lower then { v with state := .down, motion := none, reversal := false, hold := .none }
    else { v with state := .lowering, motion := some (c.motionLimit * 1000), reversal := false }
  else { v with state := .stopped, motion := none, reversal := false }

theorem BarrierWork.command_eq (w : BarrierWork) (c : BarrierCfg) {action : Nat} {a : BarrierAction}
    (ha : actionOf action = some a) : w.command c a = w.commanded c action := by
  match action, ha with
  | 0, rfl =>
    unfold BarrierWork.command BarrierWork.commanded BarrierWork.raising BarrierCfg.motion
    cases w.upper <;> rfl
  | 1, rfl =>
    unfold BarrierWork.command BarrierWork.commanded BarrierWork.lowering BarrierWork.toDown BarrierCfg.motion
    cases w.lower <;> rfl
  | 2, rfl => rfl

theorem actionOf_lower {action : Nat} {a : BarrierAction} (ha : actionOf action = some a) : a = .lower ↔ action = 1 := by
  match action, ha with
  | 0, rfl => decide
  | 1, rfl => decide
  | 2, rfl => decide

theorem State.changeBar_command (s : State) (b : Barrier) {action : Nat} {a : BarrierAction}
    (ha : actionOf action = some a) : (s.changeBar b .command fun w => w.command (s.barCfg b) a) =
      let new := (s.bar b).commanded (s.barCfg b) action
      let t := s.modBar b fun _ => new
      if new.state = (s.bar b).state then t
      else ((t.post (.barrier b) (.barrierState b (s.bar b).state new.state .command)).flag .decks).raise
        ((barrierReaders b).map fun x => .barrierStateTaken x b new.state) :=
  (State.changeBar_eq_announceBar (BarrierWork.command_eq _ _ ha) _).trans (if_congr eq_comm rfl rfl)

section
variable {s : State} {n : Nat} {b : Barrier} (role : Role) (hb : barrierOf n = some b)

theorem serveBarrierReset_bad (h : 4 ≤ n) : serveBarrierReset n role s = (s, .only .badArgument) := by
  simp only [serveBarrierReset, barrierOf_of_ge h]

theorem serveBarrierCommand_badBarrier (action : Nat) (h : 4 ≤ n) :
    serveBarrierCommand n action role s = (s, .only .badArgument) := by
  simp only [serveBarrierCommand, barrierOf_of_ge h]

theorem serveBarrierCommand_badAction {action : Nat} (h : 3 ≤ action) :
    serveBarrierCommand n action role s = (s, .only .badArgument) := by
  simp [serveBarrierCommand, actionOf_of_ge h]

include hb

/-- BARRIER_RESET, by its tests (R163). -/
theorem serveBarrierReset_named : serveBarrierReset n role s =
    if (s.bar b).state ≠ .fault then (s, .only .wrongState)
    else if (s.bar b).upper = true ∧ (s.bar b).lower = true then (s, .only .faultPersists)
    else (s.place b, .ok (barrierStateByte
      (if (s.bar b).lower then .down else if (s.bar b).upper then .up else .stopped))) := by
  simp only [serveBarrierReset, hb, Bool.and_eq_true]
  exact ite_congr rfl (fun _ => rfl) fun _ => ite_congr rfl (fun _ => rfl) fun h => by rw [placedState_eq h]

/-- BARRIER_COMMAND, by its tests (R164). -/
theorem serveBarrierCommand_named {action : Nat} {a : BarrierAction} (ha : actionOf action = some a) :
    serveBarrierCommand n action role s =
      if (s.bar b).state = .fault then (s, .only .wrongState)
      else if (s.arb b.deck).state ≠ .outOfService ∧ (s.bar b).state ≠ .stopped then (s, .only .wrongState)
      else if action = 1 ∧ (s.inp (.boom b)).debounced ≠ .clear then (s, .only .loopOccupied)
      else (s.changeBar b .command fun w => w.command (s.barCfg b) a, .ok) := by
  have hloop : s.boomClear b = false ↔ (s.inp (.boom b)).debounced ≠ .clear := beq_eq_false_iff_ne
  simp only [serveBarrierCommand, hb, ha, hloop, actionOf_lower ha]

end

end Sys2Proof.Machine

open Sys2Proof Sys2Proof.Machine

/-- Settles O47, test by test in the order of R163 and R164. -/
theorem barrierRequests : Obligations.BarrierRequests := by
  refine ⟨fun s q n action role hn c hc h => ?_, fun s q n b role hb => ⟨?_, fun action => ?_⟩⟩
  · simp only [List.mem_cons, List.not_mem_nil, or_false] at hc
    rcases hc with rfl | rfl
    · exact (exec_barrierReset ..).trans (request_refused s _ q _ role _ h (serveBarrierReset_bad role hn))
    · exact (exec_barrierCommand ..).trans (request_refused s _ q _ role _ h (serveBarrierCommand_badBarrier role action hn))
  · intro c h
    have hserve := serveBarrierReset_named (s := s.handed c q) role hb
    simp only [State.bar_handed] at hserve
    refine (exec_barrierReset ..).trans (request_ite (fun hs => ?_) fun hs => request_ite (fun hboth => ?_) fun hboth => ?_)
    · exact request_refused s c q _ role _ h (hserve.trans (if_pos hs))
    · exact request_refused s c q _ role _ h (hserve.trans ((if_neg hs).trans (if_pos hboth)))
    · exact request_answered s c q _ role _ _ h (hserve.trans ((if_neg hs).trans (if_neg hboth)))
  · intro c h
    refine (exec_barrierCommand ..).trans (request_ite (fun ha => ?_) fun ha => ?_)
    · exact request_refused s c q _ role _ h (serveBarrierCommand_badAction role ha)
    obtain ⟨a, ha⟩ : ∃ a, actionOf action = some a := actionOf_of_lt (not_le.mp ha)
    have hserve := serveBarrierCommand_named (s := s.handed c q) role hb ha
    rw [State.changeBar_command _ b ha] at hserve
    simp only [State.bar_handed, State.arb_handed, State.inp_handed, State.barCfg_handed] at hserve
    refine request_ite (fun hs => ?_) fun hs => request_ite (fun hdeck => ?_) fun hdeck => request_ite (fun hloop => ?_)
      fun hloop => ?_
    · exact request_refused s c q _ role _ h (hserve.trans (if_pos hs))
    · exact request_refused s c q _ role _ h (hserve.trans ((if_neg hs).trans (if_pos hdeck)))
    · exact request_refused s c q _ role _ h (hserve.trans ((if_neg hs).trans ((if_neg hdeck).trans (if_pos hloop))))
    · exact request_answered s c q _ role _ _ h
        (hserve.trans ((if_neg hs).trans ((if_neg hdeck).trans (if_neg hloop))))
end

section
/-! SUPPORT. How a step closes: every command but five leaves the alarm line and the check value as `State.settle` sets
them, and those five leave them as they should stand (R181, R182). -/

namespace Sys2Proof.Machine

/-! ### The sources of the alarm line -/

theorem Barrier.mem_all (b : Barrier) : b ∈ Barrier.all := by cases b <;> decide
theorem Deck.mem_all (d : Deck) : d ∈ Deck.all := by cases d <;> decide

theorem SourceSet.any_eq_false (x : SourceSet) : x.any = false ↔ x = {} := by simp [SourceSet.any]

/-! ### Every command but five is taken and settled, or finds nothing to take it -/

/-- The commands that close their step in a way of their own: a tick and a second also count while the main domain is
stopped, and the three others stop or start it (R38, R179, R180). -/
def closesItself : Instr → Bool
  | .yardTick _ | .yardClockSecond | .mainDomainStop | .mainReset _ | .yardResetEffect _ => true
  | _ => false

theorem exec_settles (c : Instr) (hc : closesItself c = false) (s : State) :
    ∃ u, exec c s = .next (if s.running then State.settle s u else s) := by
  cases c with
  | entryLoopEdgeAtArbiter d e => cases e <;> exact ⟨_, exec_entryLoopEdgeAtArbiter ..⟩
  | yardTick | yardClockSecond | mainDomainStop | mainReset | yardResetEffect => cases hc
  | _ => exact ⟨_, rfl⟩

/-! ### What a step leaves of the alarm line and the check value -/

/-- A step that keeps the alarm line by its sources and the check value by the backup domain. -/
structure State.KeepsLine (s t : State) : Prop where
  alarm : s.AlarmLaw → t.AlarmLaw
  check : s.CheckLaw → t.CheckLaw

namespace State.KeepsLine

theorem refl (s : State) : s.KeepsLine s := ⟨id, id⟩

theorem of_next {s u t : State} (h : (.next u : Outcome) = .next t) (hu : s.KeepsLine u) : s.KeepsLine t :=
  Host.Outcome.next.inj h ▸ hu

theorem ite {s t u : State} {c : Prop} [Decidable c] (ht : c → s.KeepsLine t) (hu : ¬ c → s.KeepsLine u) :
    s.KeepsLine (if c then t else u) := by
  split
  · next hc => exact ht hc
  · next hc => exact hu hc

theorem settle (s old new : State) : s.KeepsLine (State.settle old new) :=
  ⟨fun _ _ => State.alarm_settle old new, fun _ => State.check_settle old new⟩

/-- A start ends by judging the alarm line (R179, R182). -/
theorem restart (s : State) (x : Start) (cause : ResetCause) : s.KeepsLine (s.restart x cause) := by
  refine ⟨fun _ _ => ?_, fun _ => s.check_restart x cause⟩
  rw [State.restart_eq, State.alarming_judgeAlarm]
  exact State.alarm_judgeAlarm _

/-- The yard clock is no source of the alarm line: a count of it leaves both the line and what it goes by (R182). -/
theorem sealed (s : State) (f : Records → Records) (hlog : (f s.recs).log = s.recs.log)
    (hentries : (f s.recs).entries = s.recs.entries) : s.KeepsLine (s.modRecs f).seal := by
  have hsources : (s.modRecs f).sources = s.sources := by
    simp only [State.sources, State.recs_modRecs_self, hlog, hentries]
    rfl
  have halarming : (s.modRecs f).alarming = s.alarming := by
    rw [State.alarming, hsources]
    rfl
  refine ⟨fun h hrun => ?_, fun _ => rfl⟩
  rw [State.alarming_seal, halarming]
  exact h hrun

end State.KeepsLine

theorem Records.entries_tick (r : Records) (m : TickMark) : (r.tick m).entries = r.entries := by
  unfold Records.tick
  split
  · rfl
  split <;> rfl

theorem Records.entries_second (r : Records) : r.second.entries = r.entries := by
  unfold Records.second
  split
  · rfl
  split <;> rfl

namespace State.KeepsLine

theorem exec (c : Instr) (s t : State) (h : Machine.exec c s = .next t) : s.KeepsLine t := by
  cases hc : closesItself c with
  | false =>
    obtain ⟨u, hu⟩ := exec_settles c hc s
    exact of_next (hu.symm.trans h) (ite (fun _ => settle ..) fun _ => refl s)
  | true =>
    cases c with
    | yardTick x =>
      exact of_next h (ite (fun _ => settle ..) fun _ => sealed s _ (Records.log_tick ..) (Records.entries_tick ..))
    | yardClockSecond =>
      have htaken : s.KeepsLine (s.consume .yardClockSecond) := ⟨id, id⟩
      have hcount := sealed (s.consume .yardClockSecond) _ (Records.log_second _) (Records.entries_second _)
      exact of_next h ⟨hcount.alarm ∘ htaken.alarm, hcount.check ∘ htaken.check⟩
    | mainDomainStop => exact of_next h ⟨fun _ => nofun, id⟩
    | mainReset x => exact of_next h (restart ..)
    | yardResetEffect x => exact of_next h (ite (fun _ => restart ..) fun _ => refl s)
    | _ => cases hc

/-- Every step keeps the alarm line and the check value. -/
theorem step (s t : State) (h : Machine.step s = .next t) : s.KeepsLine t := by
  unfold Machine.step at h
  split at h
  · exact of_next h (refl s)
  · next c rest _ =>
    have hexec := exec c { s with pending := rest } t h
    exact ⟨hexec.alarm, hexec.check⟩

end State.KeepsLine

end Sys2Proof.Machine

open Sys2Proof Sys2Proof.Machine

/-- Settles O14: the sources by their definition, and the two laws by what every step keeps (`State.KeepsLine.step`). -/
theorem alarmLineFollowsItsSources : Obligations.AlarmLineFollowsItsSources := by
  refine ⟨fun s t hs h => (State.KeepsLine.step s t h).alarm hs, fun s => ?_,
    fun s t hs h => (State.KeepsLine.step s t h).check hs⟩
  refine ⟨?_, ?_, ?_, ?_, ?_, ?_, ?_, ?_, rfl, SourceSet.any_eq_false _⟩
  · simp [State.sources, Barrier.mem_all]
  · simp [State.sources, Channel.mem_all]
  · simp [State.sources]
  · simp [State.sources, State.supplyLow, State.sup]
  · simp [State.sources, Deck.mem_all]
  · exact decide_eq_true_iff
  · simp [State.sources, Deck.mem_all]
  · simp [State.sources]
end

section
/-! SUPPORT. What the readers of the supply state make of it (R115, R165, R177, R178, R193). -/

namespace Sys2Proof.Machine

/-- An engine with a capture in flight is CAPTURING (R80, R87). -/
theorem Engine.Law.capturing {g : Engine} (h : g.Law) {k : Capture} (hk : g.capture = some k) : g.state = .capturing := by
  rw [h.active (h.on_of_capture hk), Engine.activeState, hk]
  rfl

theorem State.modBar_congr (s : State) (b : Barrier) {f g : BarrierWork → BarrierWork} (h : f (s.bar b) = g (s.bar b)) :
    s.modBar b f = s.modBar b g := by
  rw [← State.modBar_const s b f, h, State.modBar_const]

section
variable (s : State) {d : Deck}

theorem State.collection_failCapture (reason : FailReason) (window : Option Nat) :
    ((s.failCapture d reason window).eng d).collection = (s.eng d).collection := by
  rw [State.failCapture, State.refreshActive]
  split
  · rw [State.eng_dropCapture]
  · simp [State.eng_dropCapture]

/-- On SUPPLY_LOW an engine fails its capture, and then its collection (R97, R193). -/
theorem State.supplyTaken_engine_low (hlaw : (s.eng d).Law) : s.supplyTaken (.engine d) .supplyLow =
    let r := s.setSupplyAt (.engine d) .supplyLow
    let t := match (s.eng d).capture with
      | none => r
      | some k => r.captureFailed d k .supply none
    match (s.eng d).collection with
    | none => t
    | some k =>
      ((t.modEng d fun g => { g with collection := none }).post (.engine d)
        (.calFailed d k.kind .supply k.windows k.origin) (some k.origin)).flag .decks := by
  let r := s.setSupplyAt (.engine d) .supplyLow
  have hcapture : r.failCapture d .supply = match (s.eng d).capture with
      | none => r
      | some k => r.captureFailed d k .supply none := by
    cases hk : (s.eng d).capture with
    | none => exact State.failCapture_none (s := r) hk (Decidable.or_iff_not_imp_left.mpr hlaw.active) .supply none
    | some k => exact State.failCapture_some (s := r) hk (hlaw.capturing hk) .supply none
  change (r.failCapture d .supply).failCollection d .supply = _
  unfold State.failCollection
  rw [State.collection_failCapture, hcapture]
  rfl

/-- On SUPPLY_LOW an arbiter withdraws a grant in its proceed interval (R115). -/
theorem State.supplyTaken_arbiter_low (hlaw : (s.arb d).Law) : s.supplyTaken (.arbiter d) .supplyLow =
    let r := s.setSupplyAt (.arbiter d) .supplyLow
    match (s.arb d).grant with
    | none => r
    | some g =>
      if g.arrived then r
      else
        ((((r.modArb d fun a => { a with state := .free, grant := none }).post (.arbiter d)
          (.deckState d .granted .free none)).flag .decks).raise
            [.grantWithdrawnAtLane g.lane d g.number .supply]).post (.arbiter d)
              (.grantWithdrawn d g.lane g.number .supply) := by
  let r := s.setSupplyAt (.arbiter d) .supplyLow
  cases hg : (s.arb d).grant with
  | none => exact if_neg fun h => hlaw.not_granted hg h.2
  | some g =>
    refine (if_pos ⟨rfl, hlaw.granted hg⟩).trans ?_
    dsimp only
    split
    · next harrived => simp [State.withdrawGrant, hg, harrived]
    · next harrived =>
      exact State.withdrawGrant_running (s := r) hlaw hg (Bool.eq_false_iff.mpr harrived) .supply

/-- A barrier's keepalive line toggles from a full half-period on NORMAL, and holds otherwise (R165, R177). -/
theorem State.supplyTaken_barrier (b : Barrier) (st : SupplyState) : s.supplyTaken (.barrier b) st =
    (s.setSupplyAt (.barrier b) st).modBar b fun w =>
      { w with half :=
          if w.state ≠ .fault ∧ st = .normal then
            (match w.half with
            | some n => some n
            | none => some (s.barCfg b).halfPeriod)
          else none } := by
  refine (State.judgeKeepalive_eq (s.setSupplyAt (.barrier b) st) b).trans (State.modBar_congr _ b ?_)
  simp only [State.bar_setSupplyAt, State.supplyAt_setSupplyAt_self, State.barCfg_setSupplyAt]
  cases (s.bar b).half <;> rfl

end

theorem State.supplyAt_setSupplyAt (s : State) (j : SupplyReader) (st : SupplyState) (k : SupplyReader) :
    (s.setSupplyAt j st).supplyAt k = if k = j then st else s.supplyAt k := by
  by_cases hk : k = j
  · subst hk
    rw [State.supplyAt_setSupplyAt_self, if_pos rfl]
  · rw [s.supplyAt_setSupplyAt_ne j st hk, if_neg hk]

end Sys2Proof.Machine

open Sys2Proof Sys2Proof.Machine

/-- Settles O49: the two monitors command by command, and the readers of the supply state one by one. -/
theorem supplyAndReferenceMonitors : Obligations.SupplyAndReferenceMonitors := by
  refine ⟨fun s hrun => ?_, fun s hrun => ?_⟩
  · intro readers
    refine ⟨?_, ?_, fun d => ?_, fun d => ?_, fun d k hk => ?_, s.supplyAt_setSupplyAt, fun b st => ?_⟩
    · exact (exec_supplyLow ..).trans (event_after s _ _ _ hrun rfl)
    · refine (exec_supplyRestored ..).trans (event_after s _ _ _ hrun (if_congr (and_congr_right fun _ => ?_) rfl rfl))
      simp only [Option.any_eq_true, decide_eq_true_eq]
      rfl
    · intro c hlaw
      exact (exec_supplyStateTaken ..).trans
        (event_after s c _ _ hrun (State.supplyTaken_engine_low (s.consume c) hlaw))
    · intro c hlaw
      exact (exec_supplyStateTaken ..).trans
        (event_after s c _ _ hrun (State.supplyTaken_arbiter_low (s.consume c) hlaw))
    · simp only [List.mem_cons, List.not_mem_nil, or_false] at hk
      rcases hk with rfl | rfl
      all_goals exact (exec_supplyStateTaken ..).trans (event_after s _ _ _ hrun rfl)
    · intro c
      exact (exec_supplyStateTaken ..).trans (event_after s c _ _ hrun (State.supplyTaken_barrier (s.consume c) b st))
  · refine ⟨fun x => ⟨fun hmonitor => ?_, fun hmonitor => ?_⟩, ?_, ?_⟩
    · exact (exec_watchExpiry ..).trans (event_after s _ _ _ hrun (if_pos hmonitor))
    · exact (exec_watchExpiry ..).trans (event_after s _ _ _ hrun (if_neg (not_not_intro hmonitor)))
    · exact (exec_qualification ..).trans (event_after s _ _ _ hrun rfl)
    · exact (exec_startTimerExpiry ..).trans (event_after s _ _ _ hrun rfl)
end

section
/-! SUPPORT. The alarm mask and the readout of the supervisor (R183, R184). -/

namespace Sys2Proof.Machine

theorem sourcesOf_eq_none_iff (n : Nat) : sourcesOf n = none ↔ n = 0 ∨ 256 ≤ n := by
  unfold sourcesOf
  split
  · next h => exact iff_of_true rfl h
  · next h => exact iff_of_false nofun h

section
variable {s : State} {sources setting : Nat} (role : Role)

theorem serveSetAlarmMask_bad (h : sources = 0 ∨ 256 ≤ sources ∨ 2 ≤ setting) :
    serveSetAlarmMask sources setting role s = (s, .only .badArgument) := by
  unfold serveSetAlarmMask
  rcases or_assoc.mpr h with hsources | hsetting
  · rw [(sourcesOf_eq_none_iff sources).mpr hsources]
  · rw [switchOf_of_ge hsetting]
    cases sourcesOf sources <;> rfl

/-- A named source is set MASKED by the setting 0 and UNMASKED by 1; any other stays as it is (R183). -/
theorem serveSetAlarmMask_named (hpos : 0 < sources) (hle : sources < 256) (hsetting : setting < 2) :
    serveSetAlarmMask sources setting role s =
      let put := fun (old : Bool) (i : Nat) => if sources.testBit i then decide (setting = 0) else old
      let m := s.backup.mask
      let new : SourceSet :=
        { barrierFault := put m.barrierFault 0, channelFault := put m.channelFault 1
          clockSubstitute := put m.clockSubstitute 2, supplyLow := put m.supplyLow 3, zeroLimit := put m.zeroLimit 4
          logNearFull := put m.logNearFull 5, tailgate := put m.tailgate 6, closurePending := put m.closurePending 7 }
      (s.modBackup fun b => { b with mask := new }, .ok (sourceSet new)) := by
  have hsources : ¬ (sources = 0 ∨ 256 ≤ sources) := by omega
  have hmasked : ∀ old bit : Bool, (if bit then true else old) = (old || bit) := by decide
  have hunmasked : ∀ old bit : Bool, (if bit then false else old) = (old && !bit) := by decide
  simp only [serveSetAlarmMask, sourcesOf, if_neg hsources, switchOf_of_lt hsetting]
  obtain rfl | rfl : setting = 0 ∨ setting = 1 := by omega
  · simp only [beq_self_eq_true, decide_true, if_true, hmasked]
    rfl
  · simp only [hunmasked, Nat.one_ne_zero, decide_false]
    rfl

end

/-- The mask stays over a start that keeps the backup domain; its loss unmasks every source (R181, R183). -/
theorem State.mask_restart (s : State) (x : Start) (cause : ResetCause) :
    (s.restart x cause).backup.mask = if s.backupOk x then s.backup.mask else {} := by
  rw [(s.steady_restart x cause).backup]
  change (s.backup.restart (s.backupOk x)).mask = _
  unfold Backup.restart
  split <;> rfl

end Sys2Proof.Machine

open Sys2Proof Sys2Proof.Machine

/-- Settles O52: the mask by the bits of the request, and the readout item by item. -/
theorem alarmMaskAndSupervisorRead : Obligations.AlarmMaskAndSupervisorRead := by
  intro s q role
  refine ⟨fun sources setting => ?_, fun x => ⟨_, rfl, s.mask_restart x _⟩, ?_⟩
  · intro c h
    refine ⟨fun hbad => ?_, fun hpos hle hsetting => ?_⟩
    · exact (exec_setAlarmMask ..).trans (request_refused s c q _ role _ h (serveSetAlarmMask_bad role hbad))
    · refine (exec_setAlarmMask ..).trans (request_answered s c q _ role _ _ h ?_)
      rw [serveSetAlarmMask_named role hpos hle hsetting, State.backup_handed]
  · intro c h
    refine ⟨if s.mode = .closing then some s.drainCondition else none, fun hmode => if_neg hmode, fun hmode => ?_, ?_⟩
    · refine ⟨_, if_pos hmode, s.drainCondition_iff.trans (and_congr_right fun _ => ?_)⟩
      exact ⟨fun ⟨ha, ha', hb, hb'⟩ d => by cases d <;> exact ⟨‹_›, ‹_›⟩,
        fun hdecks => ⟨(hdecks .a).1, (hdecks .a).2, (hdecks .b).1, (hdecks .b).2⟩⟩
    · refine (exec_readSupervisor ..).trans (request_answered s _ q _ role id _ h ?_)
      simp only [serveReadSupervisor, State.mode_handed, State.drainCondition_handed, State.sup_handed,
        State.ms_handed, State.sources_handed, State.backup_handed, State.tickSource_eq]
      rfl
end

section
/-! SUPPORT. The laws of the part right after a backup loss (R179 to R181). -/

namespace Sys2Proof.Machine

theorem Records.law_empty : ({} : Records).Law where
  table := by decide
  numbers := .nil
  plates := .nil
  store := by decide
  tarePlates := .nil
  log := by decide
  oldest := .nil
  consecutive := .nil
  next := nofun

/-- The rest of a reset: RECOVER holds no offer, no grant and no current transaction (R107, R124). -/
theorem Arbiter.law_reset : ({} : Arbiter).Law where
  offer := nofun
  grant := by decide
  current := by decide
  timer := nofun

theorem LaneWork.law_rest_idle : restLane.Law where
  request := by decide
  grant := by decide
  absence := nofun
  stuck := by decide
  filed := nofun
  held := nofun

theorem BarrierWork.law_rest_down : restBarrier.Law where
  cause := by decide
  motion := by decide
  reversal := nofun
  closeDelay := nofun
  latch := nofun
  keepalive := nofun

theorem Engine.law_reset : ({} : Engine).Law where
  active := fun h => absurd rfl h
  off := fun _ => ⟨rfl, rfl, rfl, rfl, rfl, rfl⟩

theorem PortWork.law_rest {floor : Nat} (h : floor ≤ 3) : (restPort floor).Law where
  held := fun hheld => absurd rfl hheld
  queue := Nat.zero_le _
  early := Nat.zero_le _
  number := Nat.zero_le _
  floor := h
  quiet := nofun
  errors := Nat.zero_le _

theorem State.arb_reset (d : Deck) : State.reset.arb d = {} := by cases d <;> rfl
theorem State.eng_reset (d : Deck) : State.reset.eng d = {} := by cases d <;> rfl
theorem State.bar_reset (b : Barrier) : State.reset.bar b = restBarrier := by cases b <;> rfl
theorem State.deckCfg_reset (d : Deck) : State.reset.deckCfg d = {} := by cases d <;> rfl
theorem State.lane_reset (l : Lane) : State.reset.lane l = restLane := by
  simp [State.lane, State.reset, Vector.get_eq_getElem]

/-- P0 is the console, every other port has no role yet (R197, R208). -/
theorem State.port_reset (p : Port) : State.reset.port p = restPort (if p = 0 then 1 else 3) := by
  revert p
  decide

theorem State.alarm_reset : State.reset.sup.alarm = State.reset.alarming.any := by decide

end Sys2Proof.Machine

open Sys2Proof Sys2Proof.Machine

/-- Settles O5, law by law; the supply is low and UNMASKED at a reset, so the alarm line is ASSERTED (R178, R182). -/
theorem resetIsLawful : Obligations.ResetIsLawful where
  records := Records.law_empty
  entries := fun e he => absurd he List.not_mem_nil
  arbiters := fun d => by rw [State.arb_reset]; exact Arbiter.law_reset
  lanes := fun l => by rw [State.lane_reset]; exact LaneWork.law_rest_idle
  barriers := fun b => by rw [State.bar_reset]; exact BarrierWork.law_rest_down
  engines := fun d => by rw [State.eng_reset]; exact Engine.law_reset
  zero := fun d => by rw [State.deckCfg_reset]; simp [DeckCfg.ZeroLaw, DeckCfg.zlim]
  ports := fun p => by rw [State.port_reset]; exact PortWork.law_rest (by split <;> decide)
  answers := reset_answers
  alarm := fun _ => State.alarm_reset
  check := rfl
end

section
/-! SUPPORT. Frames and answers as bytes: the check and the parts of an answer (R213, R214). -/

namespace Sys2Proof.Machine

/-! ### The check (R213) -/

theorem crc16_append (bs : List Byte) (b : Byte) : crc16 (bs ++ [b]) = crcByte (crc16 bs) b :=
  List.foldl_append

/-! ### The parts of an answer (R214) -/

/-- The number of parts that a payload of some bytes is cut into: one at least. -/
def partCount (length : Nat) : Nat := if length = 0 then 1 else (length + 234) / 235

theorem partCount_of_le {n : Nat} (h : n ≤ 235) : partCount n = 1 := by
  unfold partCount
  split <;> omega

theorem partCount_of_gt {n : Nat} (h : 235 < n) : partCount n = partCount (n - 235) + 1 := by
  unfold partCount
  rw [if_neg (by omega), if_neg (by omega)]
  omega

theorem partCount_pos (n : Nat) : 0 < partCount n := by
  unfold partCount
  split <;> omega

/-- The parts in order, each of 235 bytes but the last. -/
theorem parts_eq (n : Nat) (bs : List Byte) (h : bs.length ≤ n) :
    parts n bs = (List.range (partCount bs.length)).map fun i => (bs.drop (235 * i)).take 235 := by
  have hshort : ∀ bs : List Byte, bs.length ≤ 235 →
      [bs] = (List.range (partCount bs.length)).map fun i => (bs.drop (235 * i)).take 235 := by
    intro bs hbs
    rw [partCount_of_le hbs]
    exact congrArg (fun p => [p]) (List.take_of_length_le hbs).symm
  induction n generalizing bs with
  | zero => exact hshort bs (h.trans (Nat.zero_le _))
  | succ n ih =>
    unfold parts
    split
    · next hle => exact hshort bs hle
    · next hgt =>
      have hgt : 235 < bs.length := Nat.lt_of_not_le hgt
      have hrest := ih (bs.drop 235) (by rw [List.length_drop]; omega)
      rw [List.length_drop] at hrest
      rw [partCount_of_gt hgt, List.range_succ_eq_map, List.map_cons, List.map_map]
      refine congrArg _ (hrest.trans (List.map_congr_left fun i _ => ?_))
      rw [List.drop_drop, Function.comp_apply, Nat.mul_succ, Nat.add_comm]

/-- One part of an answer behind its first five bytes; bit 7 of the part byte stands on the final part. -/
def Answer.partFrame (a : Answer) (index : Nat) (final : Prop) [Decidable final] (part : List Byte) : List Byte :=
  frame ([0x80#8, a.tag, a.kind] ++ u8 a.code.num ++ u8 (if final then 128 + index else index) ++ part)

theorem partFrames_cons (a : Answer) (i : Nat) (p : List Byte) {ps : List (List Byte)} (h : ps ≠ []) :
    partFrames a i (p :: ps) = a.partFrame i False p :: partFrames a (i + 1) ps := by
  cases ps with
  | nil => exact absurd rfl h
  | cons q ps => rfl

theorem partFrames_map_range (a : Answer) (f : Nat → List Byte) (n i : Nat) :
    partFrames a i ((List.range (n + 1)).map f) =
      (List.range (n + 1)).map fun j => a.partFrame (i + j) (j = n) (f j) := by
  induction n generalizing f i with
  | zero => rfl
  | succ n ih =>
    have hrest : ((List.range (n + 1)).map Nat.succ).map f ≠ [] := by simp
    rw [List.range_succ_eq_map, List.map_cons, partFrames_cons a i _ hrest, List.map_map, ih, List.map_cons, List.map_map]
    refine congrArg₂ List.cons ?_ (List.map_congr_left fun j _ => ?_)
    · simp [Answer.partFrame]
    · simp [Answer.partFrame, Nat.add_assoc, Nat.add_comm 1]

theorem answerFrames_eq (a : Answer) :
    answerFrames a = (List.range (partCount a.payload.length)).map fun i =>
      a.partFrame i (i + 1 = partCount a.payload.length) ((a.payload.drop (235 * i)).take 235) := by
  obtain ⟨n, hn⟩ := Nat.exists_eq_add_of_lt (partCount_pos a.payload.length)
  rw [Nat.zero_add] at hn
  simp only [answerFrames, parts_eq _ _ (Nat.le_refl _), hn, partFrames_map_range, Nat.zero_add, Nat.add_right_cancel_iff]

end Sys2Proof.Machine
end

section
/-! SUPPORT. The types of fields and the fields of notices as bytes (R207, R214 to R216). -/

namespace Sys2Proof.Machine

/-! ### Flag sets (R215) -/

/-- The number whose bits are some flags, bit 0 for the first. -/
def flagNumber (fs : List Bool) : Nat := fs.foldr (fun b n => (if b then 1 else 0) + 2 * n) 0

theorem flagNumber_cons (b : Bool) (fs : List Bool) : flagNumber (b :: fs) = Nat.bit b (flagNumber fs) := by
  rw [Nat.bit_val, Nat.add_comm]
  cases b <;> rfl

theorem flagNumber_lt (fs : List Bool) : flagNumber fs < 2 ^ fs.length := by
  induction fs with
  | nil => decide
  | cons b fs ih =>
    rw [flagNumber_cons, Nat.bit_val, List.length_cons, Nat.pow_succ]
    cases b <;> simp only [Bool.toNat_true, Bool.toNat_false] <;> omega

theorem testBit_flagNumber (fs : List Bool) (i : Nat) : (flagNumber fs).testBit i = fs.getD i false := by
  induction fs generalizing i with
  | nil => exact Nat.zero_testBit i
  | cons b fs ih =>
    rw [flagNumber_cons]
    cases i with
    | zero => exact Nat.testBit_bit_zero b _
    | succ i => exact (Nat.testBit_bit_succ ..).trans (ih i)

/-- The sources of a set, in the order of R182. -/
def SourceSet.flags (x : SourceSet) : List Bool :=
  [x.barrierFault, x.channelFault, x.clockSubstitute, x.supplyLow, x.zeroLimit, x.logNearFull, x.tailgate, x.closurePending]

theorem sourceSet_eq (x : SourceSet) : sourceSet x = u8 (flagNumber x.flags) := rfl

theorem SourceSet.flagNumber_lt (x : SourceSet) : flagNumber x.flags < 256 :=
  lt_of_lt_of_eq (Machine.flagNumber_lt x.flags) (by norm_num [SourceSet.flags])

/-! ### Numbers (R215) -/

theorem u48_eq (n : Nat) :
    u48 n = [BitVec.ofNat 8 (n / 1099511627776), BitVec.ofNat 8 (n / 4294967296)] ++ u32 n := by
  rw [u48, u16, Nat.div_div_eq_div_mul]
  rfl

theorem s32_eq {v : Int} (hlow : -2147483648 ≤ v) (hhigh : v < 2147483648) :
    s32 v = u32 (if v < 0 then v + 4294967296 else v).toNat := by
  have hrem : v % 4294967296 = if v < 0 then v + 4294967296 else v := by
    split <;> omega
  rw [s32, if_pos ⟨hlow, hhigh⟩, hrem]

theorem u8_ite (p : Prop) [Decidable p] (m n : Nat) : u8 (if p then m else n) = if p then u8 m else u8 n :=
  apply_ite u8 p m n

/-! ### Notices (R207, R214, R216) -/

theorem optional_none {α : Type} (f : α → List Byte) : Machine.optional f none = u8 0 := rfl
theorem optional_some {α : Type} (f : α → List Byte) (a : α) : Machine.optional f (some a) = u8 1 ++ f a := rfl

theorem deckByte_eq (d : Deck) : deckByte d = if d = .a then u8 0 else u8 1 := by cases d <;> rfl

theorem originBytes_eq (o : Option Port) : originBytes o = match o with
    | none => u8 0 ++ u8 0
    | some p => u8 1 ++ u8 1 ++ u8 p.val := by
  cases o <;> rfl

end Sys2Proof.Machine
end

section
/-! SUPPORT. The transmitter of a port, and the notices that it takes (R180, R198, R200, R202, R207, R209). -/

namespace Sys2Proof.Machine

/-! ### The choice of the transmitter (R202) -/

section
variable {w : PortWork}

theorem PortWork.kick_sending {x : Sending} (h : w.sending = some x) : w.kick = w := by
  simp only [PortWork.kick, h]

/-- A free transmitter takes the oldest answer. -/
theorem PortWork.kick_answer {a : Answer} {rest : List Answer} {f : List Byte} {fs : List (List Byte)}
    (hfree : w.sending = none) (hanswers : w.answers = a :: rest) (hframes : answerFrames a = f :: fs) :
    w.kick = { w with answers := rest, sending := some { frame := f, rest := fs, answersHand := !a.early } } := by
  simp only [PortWork.kick, hfree, hanswers, hframes]

/-- With no answer the transmitter takes the oldest notice of a port that is not quiet. -/
theorem PortWork.kick_notice {n : QueuedNotice} {rest : List QueuedNotice} (hfree : w.sending = none)
    (hanswers : w.answers = []) (hheld : w.held = []) (hquiet : w.quiet = none) (hqueue : w.queue = n :: rest) :
    w.kick = { w with
      queue := rest, sending := some { frame := frame (noticeBytes n), rest := [], answersHand := false } } := by
  simp only [PortWork.kick, hfree, hanswers, hheld, hquiet, hqueue]

/-- An answer held back, a quiet port and an empty queue each leave the transmitter free. -/
theorem PortWork.kick_idle (hfree : w.sending = none) (hanswers : w.answers = [])
    (h : w.held ≠ [] ∨ w.quiet ≠ none ∨ w.queue = []) : w.kick = w := by
  simp only [PortWork.kick, hfree, hanswers]
  split
  · next hheld hquiet hqueue => simp [hheld, hquiet, hqueue] at h
  · rfl

/-! ### A frame that has been sent (R198, R200, R202, R214) -/

theorem PortWork.rateDue_iff (w : PortWork) (x : Sending) : w.rateDue x = true ↔
    w.rateWait = .frameEnd ∨ (w.rateWait = .answerEnd ∧ x.answersHand = true ∧ x.rest = []) := by
  unfold PortWork.rateDue
  cases w.rateWait <;> simp

end

theorem State.frameSent_none {s : State} {p : Port} (h : (s.port p).sending = none) : s.frameSent p = s := by
  simp only [State.frameSent, h]

/-- The frame that was on the line has been sent: the rate that waits for it, what goes out next, and the reset (R180). -/
theorem State.frameSent_some {s : State} {p : Port} {x : Sending} (h : (s.port p).sending = some x) : s.frameSent p =
    let rate := (s.portCfg p).rate
    let t := s.modPort p fun w =>
      let due := w.rateWait = .frameEnd ∨ (w.rateWait = .answerEnd ∧ x.answersHand = true ∧ x.rest = [])
      let w := if due then { w with rate := rate, rateWait := .none, receiver := .hunting } else w
      match x.rest with
      | f :: fs => { w with sending := some { x with frame := f, rest := fs } }
      | [] =>
        if x.answersHand then
          PortWork.kick { w with sending := none, hand := none, answers := w.answers ++ w.held, held := [] }
        else PortWork.kick { w with sending := none }
    if x.answersHand = true ∧ x.rest = [] ∧ s.sup.reset = .accepted p then
      t.modSup fun v => { v with reset := .due }
    else t := by
  have hreset : (x.answersHand && x.rest.isEmpty && s.sup.reset == .accepted p) = true ↔
      x.answersHand = true ∧ x.rest = [] ∧ s.sup.reset = .accepted p := by
    simp [and_assoc]
  have hrate : ∀ (w : PortWork) (rate : Nat), (if w.rateDue x then w.applyRate rate else w) =
      if w.rateWait = .frameEnd ∨ (w.rateWait = .answerEnd ∧ x.answersHand = true ∧ x.rest = []) then
        { w with rate := rate, rateWait := .none, receiver := .hunting }
      else w := fun w rate => if_congr (w.rateDue_iff x) rfl rfl
  simp only [State.frameSent, h, hrate, hreset, PortWork.sent] <;> rfl

/-! ### The admission of notices (R207) -/

theorem takeNotice_eq_none {b : Block} {ns : List Notice} (h : ∀ n ∈ ns, n.block ≠ b) : takeNotice b ns = none := by
  induction ns with
  | nil => rfl
  | cons n ns ih =>
    rw [takeNotice, if_neg (h n List.mem_cons_self), ih fun m hm => h m (List.mem_cons_of_mem n hm)]
    rfl

theorem takeNotice_append {b : Block} {n : Notice} {older newer : List Notice} (holder : ∀ m ∈ older, m.block ≠ b)
    (hn : n.block = b) : takeNotice b (older ++ n :: newer) = some (n, older ++ newer) := by
  induction older with
  | nil => exact if_pos hn
  | cons m older ih =>
    rw [List.cons_append, takeNotice, if_neg (holder m List.mem_cons_self),
      ih fun x hx => holder x (List.mem_cons_of_mem m hx)]
    rfl

theorem not_admits_iff (role : Role) (p : Port) (floor : Nat) (n : Notice) : admits role p floor n = false ↔
    role = .none ∨ (n.body.level < floor ∧ n.origin ≠ some p) := by
  simp only [admits, Bool.and_eq_false_iff, Bool.or_eq_false_iff, bne_eq_false_iff_eq, beq_eq_false_iff_ne,
    decide_eq_false_iff_not, not_le]

theorem State.modPort_congr (s : State) (p : Port) {f g : PortWork → PortWork} (h : f (s.port p) = g (s.port p)) :
    s.modPort p f = s.modPort p g := by
  unfold State.modPort
  rw [Bank.mod_congr s.main.ports p h]

theorem State.modPort_id (s : State) (p : Port) : (s.modPort p fun w => w) = s := by
  unfold State.modPort
  rw [Bank.mod_id]

section
variable {s : State} {p : Port} {b : Block}

theorem State.admitNotice_none (h : ∀ n ∈ (s.port p).incoming, n.block ≠ b) : s.admitNotice p b = s := by
  refine (s.modPort_congr p ?_).trans (s.modPort_id p)
  rw [takeNotice_eq_none h]

/-- The oldest notice of a block is dropped, queued, or lost (R207). -/
theorem State.admitNotice_some {n : Notice} {older newer : List Notice} (h : (s.port p).incoming = older ++ n :: newer)
    (holder : ∀ m ∈ older, m.block ≠ b) (hn : n.block = b) : s.admitNotice p b = s.modPort p fun w =>
      let v : PortWork := { w with incoming := older ++ newer }
      if (s.portCfg p).role = .none ∨ (n.body.level < w.floor ∧ n.origin ≠ some p) then v
      else
        let number := if w.number < 65535 then w.number + 1 else 0
        if w.queue.length < 32 then
          PortWork.kick { v with number := number, queue := w.queue ++ [{ number := number, notice := n }] }
        else { v with number := number, latch := { w.latch with noticeLost := true } } := by
  refine s.modPort_congr p ?_
  have hdrop := not_admits_iff (s.portCfg p).role p (s.port p).floor n
  rw [h, takeNotice_append holder hn]
  dsimp only
  cases hadmits : admits (s.portCfg p).role p (s.port p).floor n with
  | false => exact (if_pos (hdrop.mp hadmits)).symm
  | true => exact (if_neg (fun hd => by rw [hdrop.mpr hd] at hadmits; cases hadmits)).symm

theorem State.quietExpiry_eq : (s.modPort p PortWork.quietExpiry) =
    if (s.port p).quiet = some 0 then s.modPort p fun w => PortWork.kick { w with quiet := none } else s := by
  split
  · next h => exact s.modPort_congr p (if_pos h)
  · next h => exact (s.modPort_congr p (if_neg h)).trans (s.modPort_id p)

end

end Sys2Proof.Machine

open Sys2Proof Sys2Proof.Machine

/-- Settles O57: the bytes form by form, then the transmitter and the admission by the cases of their definitions. -/
theorem answersAndNoticesAreSent : Obligations.AnswersAndNoticesAreSent := by
  refine ⟨⟨fun body => ?_, ⟨rfl, crc16_append⟩, fun a => ?_, fun c => ?_, fun q => rfl, fun b => ?_⟩,
    ⟨fun n => ⟨rfl, rfl, rfl, u48_eq n⟩, fun v => s32_eq, fun d => rfl, fun t => rfl, fun x => ?_,
      fun x => by cases x <;> rfl, fun x => by cases x <;> rfl, fun x => by cases x <;> rfl,
      fun x => by cases x <;> rfl, fun x => by cases x <;> rfl, fun x => by cases x <;> rfl,
      fun x => by cases x <;> rfl, fun x => by cases x <;> rfl, fun x => by cases x <;> rfl,
      fun x => by cases x <;> rfl, fun x => by cases x <;> rfl, fun x => by cases x <;> rfl,
      fun x => by cases x <;> rfl, fun x => by cases x <;> rfl, fun x => by cases x <;> rfl,
      fun x => ?_, fun x => by cases x <;> rfl, fun b => ?_⟩,
    ⟨fun w x h => PortWork.kick_sending h, fun w a rest f fs => PortWork.kick_answer,
      fun w n rest => PortWork.kick_notice, fun w => PortWork.kick_idle, fun s q kind r => rfl, fun s p hrun => ?_⟩,
    fun s p hrun => ⟨fun b => ?_, ?_⟩⟩
  · rw [frame, List.append_assoc, List.append_assoc, List.singleton_append]
    rfl
  · intro n
    have hempty : a.payload = [] ↔ a.payload.length = 0 := List.length_eq_zero_iff.symm
    have hn : n = partCount a.payload.length := if_congr hempty rfl rfl
    rw [hn]
    exact answerFrames_eq a
  · cases c <;> rfl
  · cases b <;> rfl
  · refine ⟨_, x.flagNumber_lt, sourceSet_eq x, ?_⟩
    simp only [testBit_flagNumber]
    exact ⟨rfl, rfl, rfl, rfl, rfl, rfl, rfl, rfl⟩
  · cases x with
    | fault cause => cases cause <;> rfl
    | _ => rfl
  · intro deck origin window
    have hdeck : deck = deckByte := funext fun d => (deckByte_eq d).symm
    have horigin : origin = originBytes := funext fun o => (originBytes_eq o).symm
    have hwindow : window = Machine.optional u32 := funext fun o => by cases o <;> rfl
    rw [hdeck, horigin, hwindow]
    cases b with
    | closureBlocked n d r => cases d <;> rfl
    | zeroLimit | alarmLine | ticketIssued | calSwitch | calState => simp only [NoticeBody.fields, calSwitchByte, calibratedByte, u8_ite]
    | yardMode => simp only [NoticeBody.fields, boolean, u8_ite]
    | calChange r ds ch n => cases ch <;> simp [NoticeBody.fields, items, optional_none, optional_some, channelByte]
    | calDoneZero => simp [NoticeBody.fields, items, portByte]
    | calDoneSpan => simp [NoticeBody.fields, items, portByte, boolean, u8_ite]
    | calFailed d kind => cases kind <;> simp [NoticeBody.fields, portByte]
    | deckState d x y who => cases who <;> rfl
    | laneState l x y n => cases n <;> rfl
    | _ => rfl
  · intro c
    refine (exec_frameSent ..).trans (event_after s c _ _ hrun ?_)
    cases h : (s.port p).sending with
    | none => exact State.frameSent_none (s := s.consume c) h
    | some x => exact State.frameSent_some (s := s.consume c) h
  · intro c
    refine ⟨fun h => ?_, fun n older newer h holder hn => ?_⟩
    · exact (exec_noticeAdmission ..).trans (event_after s c _ _ hrun (State.admitNotice_none (s := s.consume c) h))
    · exact (exec_noticeAdmission ..).trans
        (event_after s c _ _ hrun (State.admitNotice_some (s := s.consume c) h holder hn))
  · exact (exec_quietTimerExpiry ..).trans (event_after s _ _ _ hrun State.quietExpiry_eq)
end

section
/-! SUPPORT. Requests as bytes: what is written for a list of arguments is read back from it (R205, R213, R215). -/

namespace Sys2Proof

theorem takeU32_be32 {n : Nat} (h : n < 4294967296) (rest : List Byte) : takeU32 (be32 n ++ rest) = some (n, rest) := by
  simp only [be32, List.cons_append, List.nil_append, takeU32, beNat, List.length_cons, List.length_nil, BitVec.toNat_ofNat]
  norm_num
  omega

theorem signed32_emod {i : Int} (hlow : -2147483648 ≤ i) (hhigh : i < 2147483648) :
    signed32 (i % 4294967296).toNat = i := by
  unfold signed32
  split <;> omega

/-- An argument that fits its type is read back from its bytes, whatever follows them. -/
theorem readArg_writeArg {t : ArgType} {a : Arg} (h : a.fits t = true) (rest : List Byte) :
    readArg t (writeArg a ++ rest) = some (a, rest) := by
  cases t with
  | num =>
    cases a with
    | num n =>
      have hn : n < 4294967296 := of_decide_eq_true h
      simp only [readArg, writeArg, takeU32_be32 hn, Option.map_some]
    | _ => cases h
  | weight =>
    cases a with
    | weight i =>
      simp only [Arg.fits, Bool.and_eq_true, decide_eq_true_eq] at h
      have hbytes : (i % 4294967296).toNat < 4294967296 := by omega
      simp only [readArg, writeArg, takeU32_be32 hbytes, Option.map_some, signed32_emod h.1 h.2]
    | _ => cases h
  | enum =>
    cases a with
    | enum n =>
      have hn : n < 256 := of_decide_eq_true h
      simp [readArg, writeArg, Nat.mod_eq_of_lt hn]
    | _ => cases h
  | text =>
    cases a with
    | text x =>
      have hx : x.length ≤ 12 := of_decide_eq_true h
      have hcount : x.length % 256 = x.length := Nat.mod_eq_of_lt (by omega)
      simp [readArg, writeArg, hcount, hx]
    | _ => cases h
  | optNum =>
    cases a with
    | optNum o =>
      cases o with
      | none => rfl
      | some n =>
        have hn : n < 4294967296 := of_decide_eq_true h
        simp [readArg, writeArg, takeU32_be32 hn]
    | _ => cases h
  | optPair =>
    cases a with
    | optPair o =>
      cases o with
      | none => rfl
      | some p =>
        simp only [Arg.fits, Option.all_some, Bool.and_eq_true, decide_eq_true_eq] at h
        simp [readArg, writeArg, takeU32_be32 h.1, takeU32_be32 h.2]
    | _ => cases h

theorem readArgs_writeArgs {ts : List ArgType} {as : List Arg} (h : argsFit ts as = true) :
    readArgs ts (writeArgs as) = some as := by
  induction ts generalizing as with
  | nil =>
    cases as with
    | nil => rfl
    | cons a as => cases h
  | cons t ts ih =>
    cases as with
    | nil => cases h
    | cons a as =>
      simp only [argsFit, Bool.and_eq_true] at h
      have hread := readArg_writeArg h.1 (writeArgs as)
      simp only [readArgs, writeArgs, List.flatMap_cons] at hread ih ⊢
      rw [hread, Option.bind_some, ih h.2, Option.map_some]

/-- The tests of the fields one after the other, as the well-formedness of a command lists them. -/
theorem argsFit_of_tests {ts : List ArgType} {as : List Arg} (hlength : ts.length = as.length)
    (h : (List.zipWith Arg.fits ts as).foldl and true = true) : argsFit ts as = true := by
  have hall : ∀ (bs : List Bool) (b : Bool), bs.foldl and b = (b && bs.all id) := by
    intro bs
    induction bs with
    | nil => exact fun b => (Bool.and_true b).symm
    | cons x xs ih => exact fun b => (ih _).trans (Bool.and_assoc ..)
  rw [hall, Bool.true_and] at h
  induction ts generalizing as with
  | nil =>
    cases as with
    | nil => rfl
    | cons a as => cases hlength
  | cons t ts ih =>
    cases as with
    | nil => cases hlength
    | cons a as =>
      obtain ⟨hfirst, hrest⟩ := Bool.and_eq_true_iff.mp h
      exact Bool.and_eq_true_iff.mpr ⟨hfirst, ih (Nat.succ.inj hlength) hrest⟩

/-- The arguments of a well-formed request fit the fields of its kind. -/
theorem Instr.argsFit_of_wf {c : Instr} {q : Sender} {kind : Nat} {args : List Arg} (h : c.wf = true)
    (hc : c.spelling = some (q, kind, args)) : argsFit (requestArgs kind) args = true := by
  cases c with
  | setClock q y mo d hr mi s =>
    cases hc
    simp only [Instr.wf, fitsByte, Bool.and_eq_true, decide_eq_true_eq] at h
    refine argsFit_of_tests rfl ?_
    simp only [requestArgs, List.zipWith_cons_cons, List.zipWith_nil_left, List.foldl_cons, List.foldl_nil, Arg.fits,
      Bool.and_eq_true, decide_eq_true_eq, true_and]
    omega
  | _ => cases hc <;> exact argsFit_of_tests rfl h

/-- The kind and the arguments of a request spell the request again; a year before 2000 has no byte (R213). -/
theorem buildRequest_spelling {c : Instr} {q : Sender} {kind : Nat} {args : List Arg} (h : c.wf = true)
    (hc : c.spelling = some (q, kind, args)) : buildRequest q kind args = some c := by
  cases c with
  | setClock q y mo d hr mi s =>
    cases hc
    simp only [Instr.wf, Bool.and_eq_true, decide_eq_true_eq] at h
    have hyear : 2000 + (y - 2000) = y := by omega
    simp only [buildRequest, hyear]
  | _ => cases hc <;> rfl

end Sys2Proof

open Sys2Proof

/-- Settles O15: the bytes of the arguments are read back one by one, and they spell the request again. -/
theorem requestRoundTrip : Obligations.RequestRoundTrip := by
  intro c q kind args hwf hc
  rw [decodeRequest, readArgs_writeArgs (Instr.argsFit_of_wf hwf hc), Option.bind_some]
  exact buildRequest_spelling hwf hc
end

section
/-! SUPPORT. The taking of requests: every request goes to its owning block, which answers OK, CLAMPED or STARTED or changes
nothing (R200, R201, R206), and what each role permits (R205). -/

namespace Sys2Proof.Machine

/-! ### Answers -/

/-- Whether an answer says that the request was taken as asked, with a clamped value, or with an operation begun (R206). -/
def Reply.accepts (r : Reply) : Bool := [AnswerCode.ok, .clamped, .started].contains r.code

@[simp] theorem Reply.accepts_ok (payload : List Byte) : (Reply.ok payload).accepts = true := rfl
@[simp] theorem Reply.accepts_started : (Reply.only .started).accepts = true := rfl
@[simp] theorem Reply.accepts_code_clamped (payload : List Byte) :
    ({ code := .clamped, payload := payload } : Reply).accepts = true := rfl
@[simp] theorem Reply.accepts_clamped (b : Bool) (stored : List Byte) : (Reply.clamped b stored).accepts = true := by
  cases b <;> rfl
@[simp] theorem State.accepts_counterReply (s : State) : s.counterReply.accepts = true := rfl
@[simp] theorem Reply.accepts_ite (c : Prop) [Decidable c] (r r' : Reply) :
    (if c then r else r').accepts = if c then r.accepts else r'.accepts := apply_ite Reply.accepts c r r'
@[simp] theorem accepts_identifyReply (n kind priority : Nat) (clamped : Bool) :
    (identifyReply n kind priority clamped).accepts = true := by
  cases clamped <;> rfl

/-- A block that took a state accepts its request, or leaves the state as it was. -/
def Answers (s : State) (x : State × Reply) : Prop := x.2.accepts = true ∨ x.1 = s

@[simp] theorem answers_mk (s t : State) (r : Reply) : Answers s (t, r) ↔ r.accepts = true ∨ t = s := Iff.rfl

theorem answers_onEntry {number : Nat} {f : Entry → State → State × Reply} (hf : ∀ e s, Answers s (f e s)) (role : Role)
    (s : State) : Answers s (onEntry number f role s) := by
  unfold onEntry
  split
  · exact .inr rfl
  split
  · exact .inr rfl
  · exact hf _ s

theorem answers_serveIdentify (q : Sender) (lane : Nat) (plate : List Byte) (tag : Option Nat)
    (mode account material intent priority : Nat) (role : Role) (s : State) :
    Answers s (serveIdentify q lane plate tag mode account material intent priority role s) := by
  simp only [serveIdentify, State.admission, State.recallEntry]
  (repeat' split) <;> simp

theorem answers_startCollection (s : State) (d : Deck) (k : CollectionKind) (origin : Port) :
    Answers s (s.startCollection d k origin) := by
  unfold State.startCollection
  split <;> simp

theorem answers_serveCalZeroDeck (q : Sender) (deck : Nat) (role : Role) (s : State) :
    Answers s (serveCalZeroDeck q deck role s) := by
  unfold serveCalZeroDeck
  split
  · exact .inr rfl
  · next d _ =>
    dsimp only
    split
    · next hcode => exact .inl (by simp [Reply.accepts, hcode])
    · exact answers_startCollection s d .zero q.port

theorem answers_serveCalSpanDeck (q : Sender) (deck : Nat) (load : Int) (role : Role) (s : State) :
    Answers s (serveCalSpanDeck q deck load role s) := by
  unfold serveCalSpanDeck
  split
  · exact .inr rfl
  split
  · exact .inr rfl
  · exact answers_startCollection ..

/-- Every request has an owning block that takes it, and that accepts it or changes nothing. -/
theorem exists_serve {c : Instr} {q : Sender} {kind : Nat} {args : List Arg} (hc : c.spelling = some (q, kind, args)) :
    ∃ f : Serve, (∀ role s, Answers s (f role s)) ∧ ∀ s, exec c s = request c q f s := by
  cases c with
  | identify =>
    cases hc
    exact ⟨_, answers_serveIdentify _ _ _ _ _ _ _ _ _, fun s => rfl⟩
  | calZeroDeck =>
    cases hc
    exact ⟨_, answers_serveCalZeroDeck _ _, fun s => rfl⟩
  | calSpanDeck =>
    cases hc
    exact ⟨_, answers_serveCalSpanDeck _ _ _, fun s => rfl⟩
  | hold | releaseHold | amend | cancelTransaction | quarantine | close | forceExit =>
    cases hc
    refine ⟨_, answers_onEntry fun e s => ?_, fun s => rfl⟩
    (repeat' split) <;> simp
  | listYard | readTransaction | findPlate =>
    cases hc
    refine ⟨_, fun role s => ?_, fun s => rfl⟩
    simp only [serveListYard, serveReadTransaction, serveFindPlate]
    (repeat' split) <;> simp
  | storeTare | deleteTare | readTare | listTares | setTareValidity | setClock | setTicketBase | voidTicket | readClock
  | collectNext | readTicket | confirmCollected =>
    cases hc
    refine ⟨_, fun role s => ?_, fun s => rfl⟩
    simp only [serveStoreTare, serveDeleteTare, serveReadTare, serveListTares, serveSetTareValidity, serveSetClock,
      serveSetTicketBase, serveVoidTicket, serveReadClock, serveCollectNext, serveReadTicket, serveConfirmCollected]
    (repeat' split) <;> simp
  | setChannelMap | setChannelLimits | clearFaults | readChannels | setOccupancy | readDeck | setCaptureOptions | capture
  | abortCapture | zeroDeck | readCapture =>
    cases hc
    refine ⟨_, fun role s => ?_, fun s => rfl⟩
    simp only [serveSetChannelMap, serveSetChannelLimits, serveClearFaults, serveReadChannels, serveSetOccupancy,
      serveReadDeck, serveSetCaptureOptions, serveCapture, serveAbortCapture, serveZeroDeck, serveReadCapture]
    (repeat' split) <;> simp
  | setProceedTime | clearTailgate | setDeckService | readDeckState | setConditioner | setLaneTimers | setLaneFeed
  | setLaneMode | setLamp | setSignalHead | setLampInvert | readInputs | readLane =>
    cases hc
    refine ⟨_, fun role s => ?_, fun s => rfl⟩
    simp only [serveSetProceedTime, serveClearTailgate, serveSetDeckService, serveReadDeckState, serveSetConditioner,
      serveSetLaneTimers, serveSetLaneFeed, serveSetLaneMode, serveSetLamp, serveSetSignalHead, serveSetLampInvert,
      serveReadInputs, serveReadLane]
    (repeat' split) <;> simp
  | setBarrier | barrierReset | barrierCommand | readBarriers | setYardMode | yardReset | setAlarmMask | readSupervisor =>
    cases hc
    refine ⟨_, fun role s => ?_, fun s => rfl⟩
    simp only [serveSetBarrier, serveBarrierReset, serveBarrierCommand, serveReadBarriers, serveSetYardMode,
      serveYardReset, serveSetAlarmMask, serveReadSupervisor]
    (repeat' split) <;> simp
  | setMetrology | setChannelFactor | setChannelZero | abortCalibration | readCalibration =>
    cases hc
    refine ⟨_, fun role s => ?_, fun s => rfl⟩
    simp only [serveSetMetrology, serveSetChannelFactor, serveSetChannelZero,
      serveAbortCalibration, serveReadCalibration, State.writePair]
    (repeat' split) <;> simp
  | setPortRole | bindKiosk | setPortRate | readPorts | setNoticeFloor | quiet | readStatus =>
    cases hc
    refine ⟨_, fun role s => ?_, fun s => rfl⟩
    simp only [serveSetPortRole, serveBindKiosk, serveSetPortRate, serveReadPorts, serveSetNoticeFloor, serveQuiet,
      serveReadStatus]
    (repeat' split) <;> simp
  | _ => cases hc

/-! ### Requests that are judged at their port (R200, R205) -/

theorem Instr.requestCode_of_spelling {c : Instr} {q : Sender} {kind : Nat} {args : List Arg}
    (hc : c.spelling = some (q, kind, args)) : c.requestCode = kind := by
  rw [Instr.requestCode, hc]
  rfl

section
variable {s : State} {c : Instr} {q : Sender} (f : Serve) (hrun : s.running = true) (hc : c ∉ s.main.raised)
include hrun hc

/-- A request that its port has not handed on finds another one in hand. -/
theorem request_busy (hbusy : (s.port q.port).hand.isSome = true) : request c q f s =
    .next (State.settle s (s.modPort q.port fun p => p.early q.tag (BitVec.ofNat 8 c.requestCode) .portBusy)) := by
  simp [request, hrun, State.takeRequest, hc, hbusy]

/-- A request that its port has not handed on is not permitted to the role of its port. -/
theorem request_forbidden (hfree : (s.port q.port).hand = none)
    (hrole : permitted (s.portCfg q.port).role q.port c.requestCode = false) : request c q f s =
    .next (State.settle s (s.modPort q.port fun p => p.early q.tag (BitVec.ofNat 8 c.requestCode) .notPermitted)) := by
  simp [request, hrun, State.takeRequest, hc, hfree, hrole]
end

theorem PortWork.unanswered_iff (w : PortWork) :
    w.unanswered = true ↔ ∃ h, w.hand = some h ∧ h.answered = false := by
  simp [PortWork.unanswered, Option.any_eq_true]

theorem PortWork.earlyWaiting_eq (w : PortWork) :
    w.earlyWaiting = (w.answers.filter Answer.early).length + (w.held.filter Answer.early).length := by
  rw [PortWork.earlyWaiting, List.filter_append, List.length_append]

/-- An answer of steps 1 to 4 of R200: an overrun, held back, or the newest of those that wait. -/
theorem PortWork.early_eq (w : PortWork) (tag kind : Byte) (code : AnswerCode) : w.early tag kind code =
    if w.earlyWaiting < 4 then
      let a : Answer := { tag := tag, kind := kind, code := code, payload := [], early := true }
      if w.unanswered then PortWork.kick { w with held := w.held ++ [a] }
      else PortWork.kick { w with answers := w.answers ++ [a] }
    else { w with errors := if w.errors < 65535 then w.errors + 1 else w.errors } := by
  unfold PortWork.early PortWork.give
  simp only [apply_ite PortWork.kick]
  rfl

end Sys2Proof.Machine

open Sys2Proof Sys2Proof.Machine

/-- Settles O1: `step` reads the front of the queue, or finds it empty. -/
theorem stepTakesTheFront : Obligations.StepTakesTheFront :=
  ⟨fun s c rest h => by simp only [step, h], fun s h => by simp only [step, h]⟩

/-- Settles O16: the owning blocks by `exists_serve`, the judging at the port by what `request` does, and the table kind by
kind. -/
theorem requestsAreAnswered : Obligations.RequestsAreAnswered := by
  refine ⟨fun c q kind args role s hc htaken => ?_, fun c q kind args s hc hrun hraised => ⟨⟨fun hbusy => ?_, fun hfree hrole => ?_⟩, fun p code => ?_⟩,
    fun c q kind args role p hc => ?_⟩
  · obtain ⟨f, hanswers, hexec⟩ := exists_serve hc
    rcases hanswers role (s.handed c q) with haccepts | hsame
    · refine ⟨fun t => (f role t).1, (f role (s.handed c q)).2, ?_, .inl (by simpa [Reply.accepts] using haccepts)⟩
      exact (hexec s).trans (request_answered s c q f role _ _ htaken rfl)
    · refine ⟨id, (f role (s.handed c q)).2, ?_, .inr fun _ => rfl⟩
      exact (hexec s).trans (request_answered s c q f role id _ htaken (Prod.ext hsame rfl))
  · obtain ⟨f, -, hexec⟩ := exists_serve hc
    rw [hexec, request_busy f hrun hraised hbusy, Instr.requestCode_of_spelling hc]
  · obtain ⟨f, -, hexec⟩ := exists_serve hc
    rw [← Instr.requestCode_of_spelling hc] at hrole ⊢
    rw [hexec, request_forbidden f hrun hraised hfree hrole]
  · rw [PortWork.early_eq, PortWork.earlyWaiting_eq]
    simp only [PortWork.unanswered_iff]
  · cases role with
    | none => rfl
    | kiosk => cases c <;> cases hc <;> rfl
    | office => cases c <;> cases hc <;> rfl
    | console =>
      cases c with
      | setPortRole | bindKiosk | setPortRate =>
        cases hc
        exact Bool.or_false _
      | _ => cases hc <;> exact Bool.or_true _
end

section
/-! SUPPORT. The frame of the station ports: every operation that is not of the ports leaves each port but its change latch
and the notices on their way, and hands no request to a block. -/

namespace Sys2Proof.Machine

/-- The requests among some commands. -/
def requestsIn (cs : List Instr) : List Instr := cs.filter fun c => c.spelling.isSome

@[simp] theorem requestsIn_nil : requestsIn [] = [] := rfl
@[simp] theorem requestsIn_append (cs ds : List Instr) : requestsIn (cs ++ ds) = requestsIn cs ++ requestsIn ds :=
  List.filter_append ..
@[simp] theorem requestsIn_map {α : Type} (f : α → Instr) (xs : List α) :
    requestsIn (xs.map f) = (xs.filter fun x => (f x).spelling.isSome).map f := List.filter_map ..
@[simp] theorem requestsIn_flatMap {α : Type} (f : α → List Instr) (xs : List α) :
    requestsIn (xs.flatMap f) = xs.flatMap fun x => requestsIn (f x) := List.filter_flatMap ..
@[simp] theorem requestsIn_ite (c : Prop) [Decidable c] (cs ds : List Instr) :
    requestsIn (if c then cs else ds) = if c then requestsIn cs else requestsIn ds := apply_ite requestsIn c cs ds
@[simp] theorem requestsIn_cons (c : Instr) (cs : List Instr) :
    requestsIn (c :: cs) = if c.spelling.isSome then c :: requestsIn cs else requestsIn cs := List.filter_cons

/-- The station ports without their change latches and without the notices on their way to them, and the requests that wait
for their blocks. -/
def State.stations (s : State) : (Port → PortWork) × List Instr :=
  (fun p => (s.port p).bare, requestsIn s.main.raised)

theorem State.stations_eq {s t : State} (hport : ∀ p, (t.port p).bare = (s.port p).bare)
    (hraised : t.main.raised = s.main.raised) : t.stations = s.stations :=
  Prod.ext (funext hport) (congrArg requestsIn hraised)

section
variable (s : State) (r : Role)

/-! ### Rewritings of one item, deliveries and notices -/

@[simp] theorem State.stations_modRecs (f : Records → Records) : (s.modRecs f).stations = s.stations := rfl
@[simp] theorem State.stations_modArb (d : Deck) (f : Arbiter → Arbiter) : (s.modArb d f).stations = s.stations := rfl
@[simp] theorem State.stations_modEng (d : Deck) (f : Engine → Engine) : (s.modEng d f).stations = s.stations := rfl
@[simp] theorem State.stations_modWin (d : Deck) (f : WindowWork → WindowWork) : (s.modWin d f).stations = s.stations := rfl
@[simp] theorem State.stations_modChan (d : Channel) (f : ChannelWork → ChannelWork) : (s.modChan d f).stations = s.stations := rfl
@[simp] theorem State.stations_modBar (d : Barrier) (f : BarrierWork → BarrierWork) : (s.modBar d f).stations = s.stations := rfl
@[simp] theorem State.stations_modLane (d : Lane) (f : LaneWork → LaneWork) : (s.modLane d f).stations = s.stations := rfl
@[simp] theorem State.stations_modInp (d : Input) (f : ConditionerWork → ConditionerWork) : (s.modInp d f).stations = s.stations := rfl
@[simp] theorem State.stations_modSup (f : Supervisor → Supervisor) : (s.modSup f).stations = s.stations := rfl
@[simp] theorem State.stations_modDeckCfg (d : Deck) (f : DeckCfg → DeckCfg) : (s.modDeckCfg d f).stations = s.stations := rfl
@[simp] theorem State.stations_modChanCfg (d : Channel) (f : ChannelCfg → ChannelCfg) : (s.modChanCfg d f).stations = s.stations := rfl
@[simp] theorem State.stations_modLaneCfg (d : Lane) (f : LaneCfg → LaneCfg) : (s.modLaneCfg d f).stations = s.stations := rfl
@[simp] theorem State.stations_modBarCfg (d : Barrier) (f : BarrierCfg → BarrierCfg) : (s.modBarCfg d f).stations = s.stations := rfl
@[simp] theorem State.stations_modInpCfg (d : Input) (f : ConditionerCfg → ConditionerCfg) :
    (s.modInpCfg d f).stations = s.stations := rfl
@[simp] theorem State.stations_modPortCfg (d : Port) (f : PortCfg → PortCfg) : (s.modPortCfg d f).stations = s.stations := rfl
@[simp] theorem State.stations_modBackup (f : Backup → Backup) : (s.modBackup f).stations = s.stations := rfl
@[simp] theorem State.stations_setModeAt (r : ModeReader) (m : YardMode) : (s.setModeAt r m).stations = s.stations := rfl
@[simp] theorem State.stations_setSupplyAt (r : SupplyReader) (st : SupplyState) : (s.setSupplyAt r st).stations = s.stations := rfl
@[simp] theorem State.stations_setBoomAt (r : BarrierReader) (b : Barrier) (st : BarrierState) :
    (s.setBoomAt r b st).stations = s.stations := rfl
@[simp] theorem State.stations_seal : (s.seal).stations = s.stations := rfl

/-- Events that blocks raise are no requests. -/
@[simp] theorem State.stations_raise (cs : List Instr) (h : requestsIn cs = []) : (s.raise cs).stations = s.stations :=
  Prod.ext rfl ((requestsIn_append ..).trans ((congrArg _ h).trans (List.append_nil _)))
@[simp] theorem State.stations_flag (f : Flag) : (s.flag f).stations = s.stations :=
  State.stations_eq (fun p => by simp [PortWork.bare]) rfl
@[simp] theorem State.stations_post (k : Block) (n : NoticeBody) (o : Option Port) : (s.post k n o).stations = s.stations :=
  State.stations_eq (fun p => by simp [PortWork.bare]) rfl

/-! ### Shared operations -/

@[simp] theorem State.stations_ite (c : Prop) [Decidable c] (t : State) :
    (if c then s else t).stations = if c then s.stations else t.stations := apply_ite State.stations c s t
@[simp] theorem State.stations_foldl {α : Type} (f : State → α → State) (h : ∀ t a, (f t a).stations = t.stations) (xs : List α) :
    (xs.foldl f s).stations = s.stations := State.foldl_keeps State.stations h xs s
@[simp] theorem State.stations_flagIf (b : Bool) (f : Flag) : (s.flagIf b f).stations = s.stations := by
  simp [State.flagIf]
@[simp] theorem State.stations_judgeLamps (l : Lane) : (s.judgeLamps l).stations = s.stations := rfl
@[simp] theorem State.stations_settle (old : State) : (State.settle old s).stations = s.stations :=
  State.stations_eq (State.bare_settle old s) (congrArg (fun t : State => t.main.raised) (State.inner_settle old s) :)
@[simp] theorem State.stations_modLamp (l : Lane) (k : Lamp) (f : LampWork → LampWork) : (s.modLamp l k f).stations = s.stations := rfl

@[simp] theorem State.stations_changeLane (l : Lane) (f : LaneWork → LaneWork) :
    (s.changeLane l f).stations = s.stations := by
  simp [State.changeLane]

/-! ### Arbiters -/

@[simp] theorem State.stations_changeArb (d : Deck) (f : Arbiter → Arbiter) : (s.changeArb d f).stations = s.stations := by
  simp [State.changeArb]
@[simp] theorem State.stations_makeChoice (d : Deck) : (s.makeChoice d).stations = s.stations := by
  simp only [State.makeChoice]; (repeat' split) <;> simp [Instr.spelling]
@[simp] theorem State.stations_withdrawal (d : Deck) (l : Lane) : (s.withdrawal d l).stations = s.stations := by
  unfold State.withdrawal; split <;> simp
@[simp] theorem State.stations_acceptance (d : Deck) (l : Lane) (number : Nat) : (s.acceptance d l number).stations = s.stations := by
  simp [State.acceptance, Instr.spelling]
@[simp] theorem State.stations_decline (d : Deck) (l : Lane) (number : Nat) : (s.decline d l number).stations = s.stations := by
  simp [State.decline]
@[simp] theorem State.stations_withdrawGrant (d : Deck) (cause : WithdrawCause) : (s.withdrawGrant d cause).stations = s.stations := by
  unfold State.withdrawGrant; split <;> simp [Instr.spelling]
@[simp] theorem State.stations_proceedTimeout (d : Deck) : (s.proceedTimeout d).stations = s.stations := by
  simp [State.proceedTimeout]
@[simp] theorem State.stations_entryRise (d : Deck) : (s.entryRise d).stations = s.stations := by
  simp only [State.entryRise]; (repeat' split) <;> simp [Instr.spelling]
@[simp] theorem State.stations_entryPassage (d : Deck) (g : Grant) : (s.entryPassage d g).stations = s.stations := by
  simp [State.entryPassage, Instr.spelling]
@[simp] theorem State.stations_intrusion (d : Deck) : (s.intrusion d).stations = s.stations := by
  simp [State.intrusion]
@[simp] theorem State.stations_entryFall (d : Deck) : (s.entryFall d).stations = s.stations := by
  simp only [State.entryFall]; (repeat' split) <;> simp
@[simp] theorem State.stations_exitFall (d : Deck) : (s.exitFall d).stations = s.stations := by
  unfold State.exitFall; split <;> simp [Instr.spelling]
@[simp] theorem State.stations_modCurrent (d : Deck) (number : Nat) (f : Current → Current) :
    (s.modCurrent d number f).stations = s.stations := rfl
@[simp] theorem State.stations_exitRelease (d : Deck) (number : Option Nat) : (s.exitRelease d number).stations = s.stations := rfl
@[simp] theorem State.stations_forceExitNotice (d : Deck) (number : Nat) : (s.forceExitNotice d number).stations = s.stations := rfl
@[simp] theorem State.stations_deckEmpty (d : Deck) : (s.deckEmpty d).stations = s.stations := by
  simp [State.deckEmpty]
@[simp] theorem State.stations_barrierStateTaken (reader : BarrierReader) (b : Barrier) (st : BarrierState) :
    (s.barrierStateTaken reader b st).stations = s.stations := by
  simp only [State.barrierStateTaken]; split <;> simp
@[simp] theorem State.stations_markClosing (b : Barrier) (old : BarrierState) : (s.markClosing b old).stations = s.stations := by
  simp [State.markClosing]
@[simp] theorem stations_serveClearTailgate (deck : Nat) : (serveClearTailgate deck r s).1.stations = s.stations := by
  unfold serveClearTailgate; split <;> simp [apply_ite Prod.fst]

/-! ### Barriers -/

@[simp] theorem State.stations_changeBar (b : Barrier) (reason : BarrierReason) (f : BarrierWork → BarrierWork) :
    (s.changeBar b reason f).stations = s.stations := by
  simp [State.changeBar, Instr.spelling]
@[simp] theorem State.stations_faultBar (b : Barrier) (cause : FaultCause) : (s.faultBar b cause).stations = s.stations := by
  simp [State.faultBar]
@[simp] theorem State.stations_judgeLowering (b : Barrier) : (s.judgeLowering b).stations = s.stations := by
  simp [State.judgeLowering]
@[simp] theorem State.stations_judgeKeepalive (b : Barrier) : (s.judgeKeepalive b).stations = s.stations := rfl
@[simp] theorem State.stations_failAction (b : Barrier) : (s.failAction b).stations = s.stations := by
  simp [State.failAction]
@[simp] theorem State.stations_place (b : Barrier) : (s.place b).stations = s.stations := by
  simp [State.place]
@[simp] theorem State.stations_permissiveRise (b : Barrier) : (s.permissiveRise b).stations = s.stations := by
  simp [State.permissiveRise]
@[simp] theorem State.stations_permissiveFall (b : Barrier) : (s.permissiveFall b).stations = s.stations := by
  simp [State.permissiveFall]
@[simp] theorem State.stations_barrierLoopEdge (b : Barrier) (e : Edge) : (s.barrierLoopEdge b e).stations = s.stations := by
  unfold State.barrierLoopEdge; split <;> simp
@[simp] theorem State.stations_closeDelayExpiry (b : Barrier) : (s.closeDelayExpiry b).stations = s.stations := by
  simp [State.closeDelayExpiry]
@[simp] theorem State.stations_motionTimeout (b : Barrier) : (s.motionTimeout b).stations = s.stations := by
  simp [State.motionTimeout]
@[simp] theorem State.stations_limitEvent (b : Barrier) (which : LimitSwitch) :
    (s.limitEvent b which).stations = s.stations := by
  unfold State.limitEvent; split <;> simp
@[simp] theorem State.stations_keepaliveToggle (b : Barrier) : (s.keepaliveToggle b).stations = s.stations := by
  simp [State.keepaliveToggle]
@[simp] theorem stations_serveSetBarrier (barrier failAction motionLimit closeDelay halfPeriod : Nat) :
    (serveSetBarrier barrier failAction motionLimit closeDelay halfPeriod r s).1.stations = s.stations := by
  unfold serveSetBarrier; split <;> simp
@[simp] theorem stations_serveBarrierReset (barrier : Nat) : (serveBarrierReset barrier r s).1.stations = s.stations := by
  unfold serveBarrierReset; split <;> simp [apply_ite Prod.fst]
@[simp] theorem stations_serveBarrierCommand (barrier action : Nat) :
    (serveBarrierCommand barrier action r s).1.stations = s.stations := by
  unfold serveBarrierCommand; split <;> simp [apply_ite Prod.fst]

/-! ### The frequency capture unit -/

@[simp] theorem State.stations_modChans (cs : List Channel) (f : ChannelWork → ChannelWork) :
    (s.modChans cs f).stations = s.stations :=
  s.stations_foldl (fun t c => t.modChan c f) (fun _ _ => rfl) cs
@[simp] theorem State.stations_openWindow (d : Deck) (boundary : Nat) : (s.openWindow d boundary).stations = s.stations := by
  simp [State.openWindow]
@[simp] theorem State.stations_maybeOpen (d : Deck) : (s.maybeOpen d).stations = s.stations := by
  simp [State.maybeOpen]
@[simp] theorem State.stations_dropCounts (d : Deck) : (s.dropCounts d).stations = s.stations := by
  simp [State.dropCounts]
@[simp] theorem State.stations_judgeChannel (d : Deck) (window : Nat) (c : Channel) :
    (s.judgeChannel d window c).stations = s.stations := by
  simp only [State.judgeChannel]; split <;> simp
@[simp] theorem State.stations_windowClose (d : Deck) : (s.windowClose d).stations = s.stations := by
  unfold State.windowClose; split <;> simp [Instr.spelling]
@[simp] theorem State.stations_closeDue (d : Deck) (n : Nat) : (s.closeDue d n).stations = s.stations := by
  induction n generalizing s with
  | zero => rfl
  | succ n ih => rw [State.closeDue, ih, State.stations_windowClose]
@[simp] theorem State.stations_shortRecord (d : Deck) : (s.shortRecord d).stations = s.stations := by
  unfold State.shortRecord; split <;> simp [Instr.spelling]
@[simp] theorem State.stations_shortClose (d : Deck) : (s.shortClose d).stations = s.stations := by
  rw [State.shortClose, State.stations_shortRecord, State.stations_closeDue]

/-! ### Engines, captures and calibration -/

@[simp] theorem State.stations_dropCapture (d : Deck) (reason : FailReason) : (s.dropCapture d reason).stations = s.stations := by
  unfold State.dropCapture; split <;> simp [Instr.spelling]
@[simp] theorem State.stations_failCollection (d : Deck) (reason : CalFailReason) :
    (s.failCollection d reason).stations = s.stations := by
  unfold State.failCollection; split <;> simp
@[simp] theorem State.stations_refreshEngine (d : Deck) (window : Option Nat) :
    (s.refreshEngine d window).stations = s.stations := by
  simp [State.refreshEngine]
@[simp] theorem State.stations_refreshActive (d : Deck) (window : Option Nat) :
    (s.refreshActive d window).stations = s.stations := by
  simp [State.refreshActive]
@[simp] theorem State.stations_failCapture (d : Deck) (reason : FailReason) (window : Option Nat) :
    (s.failCapture d reason window).stations = s.stations := by
  simp [State.failCapture]
@[simp] theorem State.stations_changeZd (d : Deck) (delta : Int) : (s.changeZd d delta).stations = s.stations := rfl
@[simp] theorem State.stations_latchZeroLimit (d : Deck) (positive : Bool) (window : Option Nat) :
    (s.latchZeroLimit d positive window).stations = s.stations := by
  simp [State.latchZeroLimit]
@[simp] theorem State.stations_advanceCounter : s.advanceCounter.stations = s.stations := rfl
@[simp] theorem State.stations_touchDeck (old : State) (window : Option Nat) (d : Deck) :
    (State.touchDeck old s window d).stations = s.stations := by
  simp [State.touchDeck]
@[simp] theorem State.stations_metroChange (old : State) (ds : List Deck) (window : Option Nat) :
    (State.metroChange old s ds window).stations = s.stations := by
  simp [State.metroChange]
@[simp] theorem State.stations_setChange (old : State) (r : CalRequest) (ds : List Deck) (ch : Option Channel) :
    (State.setChange old s r ds ch).stations = s.stations := by
  simp [State.setChange]
@[simp] theorem stations_serveSetProceedTime (deck seconds : Nat) :
    (serveSetProceedTime deck seconds r s).1.stations = s.stations := by
  unfold serveSetProceedTime; split <;> simp
@[simp] theorem stations_serveReadDeckState (deck : Nat) : (serveReadDeckState deck r s).1.stations = s.stations := by
  unfold serveReadDeckState; split <;> simp
@[simp] theorem State.stations_storeMetrology (d : Deck) (m : Metrology) : (s.storeMetrology d m).stations = s.stations := by
  simp [State.storeMetrology]
@[simp] theorem stations_serveSetMetrology (deck mode max1 max2 e1 e2 window f sc : Nat) :
    (serveSetMetrology deck mode max1 max2 e1 e2 window f sc r s).1.stations = s.stations := by
  unfold serveSetMetrology; split <;> simp [apply_ite Prod.fst]
@[simp] theorem State.stations_writePair (r : CalRequest) (c : Channel) (f : ChannelCfg → ChannelCfg) :
    (s.writePair r c f).1.stations = s.stations := by
  simp [State.writePair, apply_ite Prod.fst]
@[simp] theorem stations_serveSetChannelFactor (channel k : Nat) :
    (serveSetChannelFactor channel k r s).1.stations = s.stations := by
  unfold serveSetChannelFactor; split <;> simp [apply_ite Prod.fst]
@[simp] theorem stations_serveSetChannelZero (channel z : Nat) : (serveSetChannelZero channel z r s).1.stations = s.stations := by
  unfold serveSetChannelZero; split <;> simp [apply_ite Prod.fst]
@[simp] theorem State.stations_startCollection (d : Deck) (k : CollectionKind) (origin : Port) :
    (s.startCollection d k origin).1.stations = s.stations := by
  unfold State.startCollection; split <;> simp
@[simp] theorem stations_serveCalZeroDeck (q : Sender) (deck : Nat) : (serveCalZeroDeck q deck r s).1.stations = s.stations := by
  unfold serveCalZeroDeck; split <;> simp
@[simp] theorem stations_serveCalSpanDeck (q : Sender) (deck : Nat) (load : Int) :
    (serveCalSpanDeck q deck load r s).1.stations = s.stations := by
  unfold serveCalSpanDeck; split <;> simp [apply_ite Prod.fst]
@[simp] theorem stations_serveAbortCalibration (deck : Nat) : (serveAbortCalibration deck r s).1.stations = s.stations := by
  unfold serveAbortCalibration; split <;> simp [apply_ite Prod.fst]
@[simp] theorem stations_serveReadCalibration (deck : Nat) : (serveReadCalibration deck r s).1.stations = s.stations := by
  unfold serveReadCalibration; split <;> simp
@[simp] theorem State.stations_takeCalSwitch : s.takeCalSwitch.stations = s.stations := by
  simp [State.takeCalSwitch]
@[simp] theorem State.stations_giveRelease (d : Deck) (n : Option Nat) : (s.giveRelease d n).stations = s.stations := by
  simp [State.giveRelease, Instr.spelling]
@[simp] theorem stations_serveSetCaptureOptions (deck attempt n accept : Nat) :
    (serveSetCaptureOptions deck attempt n accept r s).1.stations = s.stations := by
  unfold serveSetCaptureOptions; split <;> simp
@[simp] theorem State.stations_startCapture (d : Deck) (origin : Option Port) :
    (s.startCapture d origin).stations = s.stations := by
  unfold State.startCapture; split <;> simp
@[simp] theorem stations_serveCapture (q : Sender) (deck : Nat) : (serveCapture q deck r s).1.stations = s.stations := by
  unfold serveCapture; split <;> simp [apply_ite Prod.fst]
@[simp] theorem stations_serveAbortCapture (deck : Nat) : (serveAbortCapture deck r s).1.stations = s.stations := by
  unfold serveAbortCapture; split <;> simp [apply_ite Prod.fst]
@[simp] theorem State.stations_recordsAbort (d : Deck) (number : Nat) : (s.recordsAbort d number).stations = s.stations := by
  simp [State.recordsAbort]
@[simp] theorem State.stations_attemptExpiry (d : Deck) : (s.attemptExpiry d).stations = s.stations := by
  simp only [State.attemptExpiry]; (repeat' split) <;> simp
@[simp] theorem State.stations_leaveDeckExpiry (d : Deck) : (s.leaveDeckExpiry d).stations = s.stations := by
  simp [State.leaveDeckExpiry]
@[simp] theorem State.stations_positioningEdge (d : Deck) (i : Input) (e : Edge) :
    (s.positioningEdge d i e).stations = s.stations := by
  simp only [State.positioningEdge]; (repeat' split) <;> simp
@[simp] theorem stations_serveZeroDeck (deck : Nat) : (serveZeroDeck deck r s).1.stations = s.stations := by
  simp only [serveZeroDeck]; (repeat' split) <;> simp
@[simp] theorem stations_serveReadCapture (deck : Nat) : (serveReadCapture deck r s).1.stations = s.stations := by
  unfold serveReadCapture; split <;> simp
@[simp] theorem State.stations_mapChannel (c : Channel) (m : Option Deck) (p : Edge) :
    (s.mapChannel c m p).stations = s.stations := by
  simp [State.mapChannel]
@[simp] theorem stations_serveSetChannelMap (channel map polarity : Nat) :
    (serveSetChannelMap channel map polarity r s).1.stations = s.stations := by
  unfold serveSetChannelMap; split <;> simp [apply_ite Prod.fst]
@[simp] theorem stations_serveSetChannelLimits (channel low high : Nat) :
    (serveSetChannelLimits channel low high r s).1.stations = s.stations := by
  unfold serveSetChannelLimits; split <;> simp [apply_ite Prod.fst]
@[simp] theorem stations_serveClearFaults (channel scope : Nat) :
    (serveClearFaults channel scope r s).1.stations = s.stations := by
  unfold serveClearFaults; split <;> simp
@[simp] theorem stations_serveReadChannels (deck : Nat) : (serveReadChannels deck r s).1.stations = s.stations := by
  simp only [serveReadChannels]; (repeat' split) <;> simp
@[simp] theorem State.stations_converterEdge (c : Channel) (e : Edge) : (s.converterEdge c e).stations = s.stations := by
  unfold State.converterEdge; split <;> simp

/-! ### Conditioners, lanes and lamps -/

@[simp] theorem requestsIn_edgeReaders (i : Input) (e : Edge) : requestsIn (edgeReaders i e) = [] := by
  cases i with
  | boom b => cases b <;> rfl
  | _ => rfl
@[simp] theorem State.stations_conditionerEdge (i : Input) : (s.conditionerEdge i).stations = s.stations := by
  simp [State.conditionerEdge]
@[simp] theorem stations_serveSetConditioner (input polarity debounce : Nat) :
    (serveSetConditioner input polarity debounce r s).1.stations = s.stations := by
  unfold serveSetConditioner; split <;> simp [apply_ite Prod.fst]
@[simp] theorem stations_serveReadInputs : (serveReadInputs r s).1.stations = s.stations := rfl
@[simp] theorem State.stations_stopLoopEdge (l : Lane) (e : Edge) : (s.stopLoopEdge l e).stations = s.stations := by
  unfold State.stopLoopEdge; split <;> simp
@[simp] theorem State.stations_stuckExpiry (l : Lane) : (s.stuckExpiry l).stations = s.stations := by
  simp [State.stuckExpiry]
@[simp] theorem State.stations_filingOrder (l : Lane) (number : Nat) (kind : FilingKind) (priority : Nat) :
    (s.filingOrder l number kind priority).stations = s.stations := by
  simp only [State.filingOrder]; split <;> simp [Instr.spelling]
@[simp] theorem State.stations_absenceExpiry (l : Lane) : (s.absenceExpiry l).stations = s.stations := by
  unfold State.absenceExpiry; split <;> simp [Instr.spelling]
@[simp] theorem State.stations_cancelOrder (l : Lane) (number : Nat) : (s.cancelOrder l number).stations = s.stations := by
  simp only [State.cancelOrder]; (repeat' split) <;> simp [Instr.spelling]
@[simp] theorem State.stations_offerAtLane (l : Lane) (d : Deck) (number : Nat) :
    (s.offerAtLane l d number).stations = s.stations := by
  simp [State.offerAtLane, Instr.spelling]
@[simp] theorem State.stations_grantWithdrawn (l : Lane) (d : Deck) (number : Nat) (cause : WithdrawCause) :
    (s.grantWithdrawn l d number cause).stations = s.stations := by
  simp [State.grantWithdrawn, Instr.spelling]
@[simp] theorem State.stations_entryPassageAtLane (l : Lane) (d : Deck) : (s.entryPassageAtLane l d).stations = s.stations := by
  simp [State.entryPassageAtLane]
@[simp] theorem stations_serveSetLaneTimers (lane absence stuck : Nat) :
    (serveSetLaneTimers lane absence stuck r s).1.stations = s.stations := by
  unfold serveSetLaneTimers; split <;> simp
@[simp] theorem State.stations_realign (l : Lane) (r : LaneFiling) (f : Feed) : (s.realign l r f).stations = s.stations := by
  simp [State.realign, Instr.spelling]
@[simp] theorem stations_serveSetLaneFeed (lane feed : Nat) : (serveSetLaneFeed lane feed r s).1.stations = s.stations := by
  simp only [serveSetLaneFeed]; (repeat' split) <;> simp
@[simp] theorem stations_serveSetLaneMode (lane mode : Nat) : (serveSetLaneMode lane mode r s).1.stations = s.stations := by
  simp only [serveSetLaneMode]; (repeat' split) <;> simp
@[simp] theorem stations_serveSetLamp (lane lamp source blink stretch : Nat) :
    (serveSetLamp lane lamp source blink stretch r s).1.stations = s.stations := by
  unfold serveSetLamp; split <;> simp
@[simp] theorem stations_serveSetSignalHead (lane period : Nat) :
    (serveSetSignalHead lane period r s).1.stations = s.stations := by
  unfold serveSetSignalHead; split <;> simp
@[simp] theorem stations_serveSetLampInvert (flag : Nat) : (serveSetLampInvert flag r s).1.stations = s.stations := by
  unfold serveSetLampInvert; split <;> simp
@[simp] theorem stations_serveReadLane (lane : Nat) : (serveReadLane lane r s).1.stations = s.stations := by
  unfold serveReadLane; split <;> simp

/-! ### The supervisor -/

@[simp] theorem State.stations_changeMode (m : YardMode) (drain : Bool) : (s.changeMode m drain).stations = s.stations := by
  simp [State.changeMode, Instr.spelling]
@[simp] theorem State.stations_judgeDrain : s.judgeDrain.stations = s.stations := by
  simp [State.judgeDrain]
@[simp] theorem stations_serveSetYardMode (mode : Nat) : (serveSetYardMode mode r s).1.stations = s.stations := by
  simp only [serveSetYardMode]; (repeat' split) <;> simp
@[simp] theorem State.stations_modeAtCapture (d : Deck) (m : YardMode) : (s.modeAtCapture d m).stations = s.stations := by
  simp [State.modeAtCapture]
@[simp] theorem State.stations_modeTaken (r : ModeReader) (m : YardMode) : (s.modeTaken r m).stations = s.stations := by
  unfold State.modeTaken; split <;> simp
@[simp] theorem State.stations_qualify : s.qualify.stations = s.stations := by
  simp [State.qualify]
@[simp] theorem State.stations_startExpiry : s.startExpiry.stations = s.stations := by
  simp [State.startExpiry]
@[simp] theorem State.stations_enterSupplyLow : s.enterSupplyLow.stations = s.stations := by
  simp [State.enterSupplyLow, Instr.spelling]
@[simp] theorem State.stations_restoreSupply : s.restoreSupply.stations = s.stations := by
  simp [State.restoreSupply, Instr.spelling]
@[simp] theorem stations_serveYardReset (q : Sender) : (serveYardReset q r s).1.stations = s.stations := rfl
@[simp] theorem stations_serveSetAlarmMask (sources setting : Nat) :
    (serveSetAlarmMask sources setting r s).1.stations = s.stations := by
  unfold serveSetAlarmMask; split <;> simp
@[simp] theorem stations_serveReadSupervisor : (serveReadSupervisor r s).1.stations = s.stations := rfl
@[simp] theorem stations_serveListYard : (serveListYard r s).1.stations = s.stations := rfl
@[simp] theorem stations_serveReadTransaction (number : Nat) : (serveReadTransaction number r s).1.stations = s.stations := by
  unfold serveReadTransaction; split <;> simp
@[simp] theorem stations_serveFindPlate (plate : List Byte) : (serveFindPlate plate r s).1.stations = s.stations := by
  unfold serveFindPlate; split <;> simp

/-! ### Records requests that change no record -/

@[simp] theorem stations_serveReadTare (plate : List Byte) : (serveReadTare plate r s).1.stations = s.stations := by
  unfold serveReadTare; split <;> simp
@[simp] theorem stations_serveListTares (start : Nat) : (serveListTares start r s).1.stations = s.stations := rfl
@[simp] theorem stations_serveSetTareValidity (lane days : Nat) :
    (serveSetTareValidity lane days r s).1.stations = s.stations := by
  unfold serveSetTareValidity; split <;> simp
@[simp] theorem stations_serveReadClock : (serveReadClock r s).1.stations = s.stations := rfl
@[simp] theorem stations_serveCollectNext : (serveCollectNext r s).1.stations = s.stations := by
  unfold serveCollectNext; split <;> simp
@[simp] theorem stations_serveReadTicket (number : Nat) : (serveReadTicket number r s).1.stations = s.stations := by
  unfold serveReadTicket; split <;> simp

/-! ### Windows at the engines -/

@[simp] theorem State.stations_takeWindow (w : WindowRecord) : (s.takeWindow w).1.stations = s.stations := by
  simp only [State.takeWindow]; split <;> simp [apply_ite Prod.fst]
@[simp] theorem State.stations_completeCapture (d : Deck) (c : Capture) (weight : Int) (e : Nat) (cls : WeighClass) (window : Nat) :
    (s.completeCapture d c weight e cls window).stations = s.stations := by
  simp [State.completeCapture, Instr.spelling]
@[simp] theorem State.stations_testStability (d : Deck) (c : Capture) (r : Reading) :
    (s.testStability d c r).stations = s.stations := by
  simp only [State.testStability]; (repeat' split) <;> simp
@[simp] theorem State.stations_modCapture (d : Deck) (f : Capture → Capture) : (s.modCapture d f).stations = s.stations := rfl
@[simp] theorem State.stations_offerCapture (d : Deck) (r : Reading) (marked : Bool) :
    (s.offerCapture d r marked).stations = s.stations := by
  unfold State.offerCapture; split <;> simp
@[simp] theorem State.stations_trackZero (d : Deck) (r : Reading) : (s.trackZero d r).stations = s.stations := by
  unfold State.trackZero; split <;> simp
@[simp] theorem State.stations_zeroCompletion (d : Deck) (k : Collection) (window : Nat) :
    (s.zeroCompletion d k window).stations = s.stations := by
  simp only [State.zeroCompletion, State.stations_post, State.stations_metroChange, State.stations_modEng, State.stations_modDeckCfg]
  refine s.stations_foldl _ ?_ _
  exact fun _ _ => rfl
@[simp] theorem State.stations_spanCompletion (d : Deck) (k : Collection) (load : Int) (window : Nat) :
    (s.spanCompletion d k load window).stations = s.stations := by
  simp only [State.spanCompletion, State.stations_ite, State.stations_failCollection, State.stations_post, State.stations_metroChange,
    State.stations_modEng, ite_eq_left_iff]
  refine fun _ => s.stations_foldl _ ?_ _
  exact fun _ _ => rfl
@[simp] theorem State.stations_putCollection (d : Deck) (k : Collection) : (s.putCollection d k).stations = s.stations := rfl
@[simp] theorem State.stations_offerCollection (d : Deck) (w : WindowRecord) (r : Reading) :
    (s.offerCollection d w r).stations = s.stations := by
  simp only [State.offerCollection]; (repeat' split) <;> simp
@[simp] theorem State.stations_engineWindow (w : WindowRecord) : (s.engineWindow w).stations = s.stations := by
  simp [State.engineWindow]
@[simp] theorem stations_serveSetOccupancy (deck threshold : Nat) :
    (serveSetOccupancy deck threshold r s).1.stations = s.stations := by
  unfold serveSetOccupancy; split <;> simp [apply_ite Prod.fst]
@[simp] theorem stations_serveReadDeck (deck : Nat) : (serveReadDeck deck r s).1.stations = s.stations := by
  unfold serveReadDeck; split <;> simp

/-! ### The yard records -/

@[simp] theorem State.stations_modEntry (n : Nat) (f : Entry → Entry) : (s.modEntry n f).stations = s.stations := rfl
@[simp] theorem State.stations_dropEntry (n : Nat) : (s.dropEntry n).stations = s.stations := rfl
@[simp] theorem State.stations_applyTare (w : TareWrite) : (s.applyTare w).stations = s.stations := by
  unfold State.applyTare; split <;> simp
@[simp] theorem State.stations_issue (t : Ticket) : (s.issue t).stations = s.stations := by
  simp [State.issue]
@[simp] theorem State.stations_attemptClosure (e : Entry) : (s.attemptClosure e).stations = s.stations := by
  simp only [State.attemptClosure]; (repeat' split) <;> simp
@[simp] theorem State.stations_retry : s.retry.stations = s.stations := by
  simp [State.retry]
@[simp] theorem State.stations_cancelOnDeck (e : Entry) : (s.cancelOnDeck e).stations = s.stations := by
  simp only [State.cancelOnDeck]; split <;> simp [Instr.spelling]
@[simp] theorem State.stations_withdrawalReport (number : Nat) : (s.withdrawalReport number).stations = s.stations := by
  simp only [State.withdrawalReport]; (repeat' split) <;> simp
@[simp] theorem State.stations_entryPassageReport (d : Deck) (number : Nat) :
    (s.entryPassageReport d number).stations = s.stations := by
  simp only [State.entryPassageReport]; split <;> simp
@[simp] theorem State.stations_tareCompletion (e : Entry) (c : CaptureResult) : (s.tareCompletion e c).stations = s.stations := by
  simp only [State.tareCompletion]; (repeat' split) <;> simp
@[simp] theorem State.stations_afterWeighing (e : Entry) (c : CaptureResult) (p : Purpose) :
    (s.afterWeighing e c p).stations = s.stations := by
  simp only [State.afterWeighing]; split <;> simp
@[simp] theorem State.stations_captureCompletion (c : CaptureResult) : (s.captureCompletion c).stations = s.stations := by
  simp only [State.captureCompletion]; (repeat' split) <;> simp
@[simp] theorem State.stations_captureFailure (number : Nat) (reason : FailReason) :
    (s.captureFailure number reason).stations = s.stations := rfl
@[simp] theorem State.stations_exitPassageReport (number : Nat) : (s.exitPassageReport number).stations = s.stations := by
  unfold State.exitPassageReport; split <;> simp
theorem stations_onEntry (number : Nat) (f : Entry → State → State × Reply) (hf : ∀ e, (f e s).1.stations = s.stations) :
    (onEntry number f r s).1.stations = s.stations := by
  simp only [onEntry]; (repeat' split) <;> simp [hf]
@[simp] theorem stations_serveIdentify (q : Sender) (lane : Nat) (plate : List Byte) (tag : Option Nat)
    (mode account material intent priority : Nat) :
    (serveIdentify q lane plate tag mode account material intent priority r s).1.stations = s.stations := by
  simp only [serveIdentify, State.admission, State.recallEntry]; (repeat' split) <;> simp [Instr.spelling]
@[simp] theorem stations_serveHold (q : Sender) (number reason : Nat) : (serveHold q number reason r s).1.stations = s.stations :=
  stations_onEntry s r number _ fun _ => by split <;> simp
@[simp] theorem stations_serveReleaseHold (number : Nat) : (serveReleaseHold number r s).1.stations = s.stations :=
  stations_onEntry s r number _ fun _ => by split <;> simp
@[simp] theorem stations_serveAmend (number : Nat) (account : Option Nat) (line : Option (Nat × Nat)) :
    (serveAmend number account line r s).1.stations = s.stations :=
  stations_onEntry s r number _ fun _ => by dsimp only; (repeat' split) <;> simp
@[simp] theorem stations_serveCancel (number : Nat) : (serveCancel number r s).1.stations = s.stations :=
  stations_onEntry s r number _ fun _ => by dsimp only; (repeat' split) <;> simp [Instr.spelling]
@[simp] theorem stations_serveQuarantine (number : Nat) : (serveQuarantine number r s).1.stations = s.stations :=
  stations_onEntry s r number _ fun _ => by (repeat' split) <;> simp
@[simp] theorem stations_serveClose (number : Nat) : (serveClose number r s).1.stations = s.stations :=
  stations_onEntry s r number _ fun _ => by (repeat' split) <;> simp
@[simp] theorem stations_serveForceExit (number : Nat) : (serveForceExit number r s).1.stations = s.stations :=
  stations_onEntry s r number _ fun _ => by dsimp only; (repeat' split) <;> simp [Instr.spelling]
@[simp] theorem stations_serveStoreTare (plate : List Byte) (tag : Option Nat) (weight : Int) (cls validity account : Nat) :
    (serveStoreTare plate tag weight cls validity account r s).1.stations = s.stations := by
  simp only [serveStoreTare]; (repeat' split) <;> simp
@[simp] theorem stations_serveDeleteTare (plate : List Byte) : (serveDeleteTare plate r s).1.stations = s.stations := by
  unfold serveDeleteTare; split <;> simp
@[simp] theorem stations_serveSetClock (year month day hour minute second : Nat) :
    (serveSetClock year month day hour minute second r s).1.stations = s.stations := by
  simp only [serveSetClock]; split <;> simp
@[simp] theorem stations_serveSetTicketBase (n : Nat) : (serveSetTicketBase n r s).1.stations = s.stations := by
  unfold serveSetTicketBase; (repeat' split) <;> simp
@[simp] theorem stations_serveVoidTicket (number reason : Nat) : (serveVoidTicket number reason r s).1.stations = s.stations := by
  unfold serveVoidTicket; (repeat' split) <;> simp
@[simp] theorem stations_serveConfirmCollected (n : Nat) : (serveConfirmCollected n r s).1.stations = s.stations := by
  simp only [serveConfirmCollected]; (repeat' split) <;> simp

/-! ### Readers of the supply state, service, ticks and starts -/

@[simp] theorem State.stations_judgeAlarm : s.judgeAlarm.stations = s.stations :=
  State.stations_eq s.bare_judgeAlarm (congrArg (fun t : State => t.main.raised) s.inner_judgeAlarm :)
@[simp] theorem State.stations_supplyTaken (x : SupplyReader) (st : SupplyState) :
    (s.supplyTaken x st).stations = s.stations := by
  simp only [State.supplyTaken]; split <;> simp
@[simp] theorem State.stations_endCommandHold (b : Barrier) : (s.endCommandHold b).stations = s.stations := by
  simp [State.endCommandHold]
@[simp] theorem State.stations_returnToService (d : Deck) : (s.returnToService d).stations = s.stations := by
  simp [State.returnToService]
@[simp] theorem stations_serveSetDeckService (deck setting : Nat) :
    (serveSetDeckService deck setting r s).1.stations = s.stations := by
  simp only [serveSetDeckService]; (repeat' split) <;> simp
@[simp] theorem State.stations_firstLimits (x : Lines) (b : Barrier) : (s.firstLimits x b).stations = s.stations := by
  simp [State.firstLimits]
@[simp] theorem State.stations_openBoth : s.openBoth.stations = s.stations := by
  simp [State.openBoth]
@[simp] theorem State.stations_startEngine (d : Deck) : (s.startEngine d).stations = s.stations := rfl
@[simp] theorem State.stations_calLost (old : State) (d : Deck) : (s.calLost old d).stations = s.stations := by
  simp [State.calLost]
@[simp] theorem State.stations_startLamps (l : Lane) : (s.startLamps l).stations = s.stations := rfl
@[simp] theorem State.stations_takeBooms : s.takeBooms.stations = s.stations := rfl

/-- A start leaves the ports as its begin sets them, and no request waits (R212). -/
theorem State.stations_restart (x : Start) (cause : ResetCause) :
    (s.restart x cause).stations = (s.begun x cause).stations := by
  rw [State.restart_eq, State.stations_judgeAlarm, State.stations_foldl _ _ State.stations_startLamps,
    State.stations_takeBooms, State.barriersPlaced, State.stations_foldl _ _ State.stations_place, State.decksStarted,
    State.stations_foldl _ _ fun _ _ => by simp]

end

end Sys2Proof.Machine
end

section
/-! SUPPORT. The laws of one station port under what it does: what its transmitter takes, the answers that it is given, and the
frames that it has sent (R197, R200, R202, R207, R209). -/

namespace Sys2Proof.Machine

/-! ### The answers of one port -/

/-- The answers of one port, where some requests of its wait for their blocks: it has its answer to the request in hand exactly
when that request is answered, its answers held back are of steps 1 to 4 of R200, and the requests that wait are the one in
hand without an answer. -/
structure PortWork.AnswersLaw (w : PortWork) (waiting : Nat) : Prop where
  own : (w.answers.filter fun a => !a.early).length + (if w.sending.any Sending.answersHand then 1 else 0) =
    if w.hand.any InHand.answered then 1 else 0
  held : ∀ a ∈ w.held, a.early = true
  handed : waiting = if w.unanswered then 1 else 0

/-- The requests of a port among some commands. -/
def requestsFrom (p : Port) (cs : List Instr) : Nat := cs.countP fun c => c.spelling.any fun x => x.1.port == p

theorem State.answersLaw_iff (s : State) :
    s.AnswersLaw ↔ ∀ p, (s.port p).AnswersLaw (requestsFrom p s.main.raised) := by
  simp only [requestsFrom, List.countP_eq_length_filter]
  exact ⟨fun h p => ⟨h.own p, h.held p, h.handed p⟩, fun h => ⟨fun p => (h p).own, fun p => (h p).held, fun p => (h p).handed⟩⟩

section
variable {w : PortWork} {n : Nat}

theorem PortWork.AnswersLaw.unanswered (h : w.AnswersLaw 1) : w.unanswered = true := by
  by_contra hw
  have := h.handed
  rw [if_neg hw] at this
  cases this

theorem PortWork.AnswersLaw.waiting_of_free (h : w.AnswersLaw n) (hfree : w.hand = none) : n = 0 := by
  rw [h.handed, PortWork.unanswered, hfree]
  rfl

/-- A request in hand that its block has not answered has no answer among those of its port. -/
theorem PortWork.AnswersLaw.no_own (h : w.AnswersLaw n) (hw : w.hand.any InHand.answered = false) :
    (w.answers.filter fun a => !a.early) = [] ∧ w.sending.any Sending.answersHand = false := by
  have hown := h.own
  rw [hw, if_neg Bool.false_ne_true, Nat.add_eq_zero_iff, List.length_eq_zero_iff] at hown
  exact ⟨hown.1, by simpa using hown.2⟩

theorem PortWork.answered_of_unanswered (hw : w.unanswered = true) : w.hand.any InHand.answered = false := by
  obtain ⟨h, hhand, hanswered⟩ := w.unanswered_iff.mp hw
  rw [hhand]
  exact hanswered

/-! ### What the transmitter takes (R202) -/

theorem answerFrames_ne_nil (a : Answer) : answerFrames a ≠ [] := by
  rw [answerFrames_eq, ne_eq, List.map_eq_nil_iff, List.range_eq_nil]
  exact (partCount_pos _).ne'

/-- A transmitter begins nothing, the oldest answer, or a notice. -/
theorem PortWork.kick_cases (w : PortWork) : w.kick = w ∨
    (∃ a rest f fs, w.sending = none ∧ w.answers = a :: rest ∧
      w.kick = { w with answers := rest, sending := some { frame := f, rest := fs, answersHand := !a.early } }) ∨
    ∃ q rest f, w.sending = none ∧ w.queue = q :: rest ∧
      w.kick = { w with queue := rest, sending := some { frame := f, rest := [], answersHand := false } } := by
  unfold PortWork.kick
  split
  · exact .inl rfl
  · next hfree =>
    split
    · next a rest hanswers =>
      split
      · next f fs _ => exact .inr (.inl ⟨a, rest, f, fs, hfree, hanswers, rfl⟩)
      · next hnil => exact absurd hnil (answerFrames_ne_nil a)
    · split
      · next q rest _ _ hqueue => exact .inr (.inr ⟨q, rest, _, hfree, hqueue, rfl⟩)
      · exact .inl rfl

theorem PortWork.Law.kick (h : w.Law) : w.kick.Law := by
  rcases w.kick_cases with hkick | ⟨a, rest, f, fs, -, hanswers, hkick⟩ | ⟨q, rest, f, -, hqueue, hkick⟩
  · rwa [hkick]
  · rw [hkick]
    refine { h with early := le_trans ?_ h.early }
    rw [PortWork.earlyWaiting, PortWork.earlyWaiting, hanswers]
    exact ((List.sublist_cons_self a (rest ++ w.held)).filter _).length_le
  · rw [hkick]
    have hqueue := hqueue ▸ h.queue
    exact { h with queue := le_trans (Nat.le_succ _) hqueue }

theorem PortWork.AnswersLaw.kick (h : w.AnswersLaw n) : w.kick.AnswersLaw n := by
  rcases w.kick_cases with hkick | ⟨a, rest, f, fs, hfree, hanswers, hkick⟩ | ⟨q, rest, f, hfree, hqueue, hkick⟩
  · rwa [hkick]
  · rw [hkick]
    refine { h with own := Eq.trans ?_ h.own }
    rw [hfree, hanswers]
    cases hearly : a.early <;> simp [hearly]
  · rw [hkick]
    refine { h with own := Eq.trans ?_ h.own }
    rw [hfree]
    rfl

/-! ### Answers -/

theorem satInc_le {k : Nat} (h : k ≤ 65535) : satInc k ≤ 65535 := by
  unfold satInc Config.u16Max
  split <;> omega

theorem PortWork.Law.early_answer (h : w.Law) (tag kind : Byte) (code : AnswerCode) : (w.early tag kind code).Law := by
  rw [PortWork.early_eq]
  split
  · next hroom =>
    dsimp only
    split
    · next hw =>
      refine PortWork.Law.kick { h with held := fun _ => hw, early := le_trans (le_of_eq ?_) hroom }
      simp [PortWork.earlyWaiting, Nat.add_assoc]
    · refine PortWork.Law.kick { h with held := h.held, early := le_trans (le_of_eq ?_) hroom }
      simp [PortWork.earlyWaiting, Nat.add_assoc]
  · exact { h with errors := satInc_le h.errors }

theorem PortWork.AnswersLaw.early_answer (h : w.AnswersLaw n) (tag kind : Byte) (code : AnswerCode) :
    (w.early tag kind code).AnswersLaw n := by
  rw [PortWork.early_eq]
  split
  · dsimp only
    split
    · refine PortWork.AnswersLaw.kick { h with held := fun a ha => ?_ }
      rcases List.mem_append.mp ha with ha | ha
      · exact h.held a ha
      · rw [List.mem_singleton.mp ha]
    · refine PortWork.AnswersLaw.kick { h with own := Eq.trans ?_ h.own }
      simp
  · exact { h with }

theorem PortWork.Law.answer (h : w.Law) {a : Answer} (ha : a.early = false) : (w.answer a).Law := by
  refine PortWork.Law.kick { h with held := nofun, early := le_trans (le_of_eq ?_) h.early }
  simp [PortWork.earlyWaiting, ha]

/-- A block answers the request in hand, which waits for it no longer. -/
theorem PortWork.AnswersLaw.answer (h : w.AnswersLaw 1) {a : Answer} (ha : a.early = false) : (w.answer a).AnswersLaw 0 := by
  have hheld : (w.held.filter fun a => !a.early) = [] := by simpa using h.held
  obtain ⟨hnone, hsending⟩ := h.no_own (PortWork.answered_of_unanswered h.unanswered)
  obtain ⟨k, hhand, -⟩ := w.unanswered_iff.mp h.unanswered
  refine PortWork.AnswersLaw.kick ⟨?_, nofun, ?_⟩
  · simp [hnone, hheld, ha, hsending, hhand]
  · simp [PortWork.unanswered, hhand]

/-- A request is taken into the hand of a port that holds none. -/
theorem PortWork.AnswersLaw.take_hand (h : w.AnswersLaw n) (hfree : w.hand = none) (tag : Byte) (role : Role) :
    ({ w with hand := some { tag := tag, role := role } } : PortWork).AnswersLaw 1 := by
  refine ⟨h.own.trans ?_, h.held, rfl⟩
  rw [hfree]
  rfl

theorem PortWork.Law.take_hand (h : w.Law) (tag : Byte) (role : Role) :
    ({ w with hand := some { tag := tag, role := role } } : PortWork).Law :=
  { h with held := fun _ => rfl }

/-! ### Frames that have been sent -/

theorem PortWork.Law.sent (h : w.Law) (x : Sending) : (w.sent x).Law := by
  unfold PortWork.sent
  split
  · exact { h with }
  split
  · refine PortWork.Law.kick { h with held := absurd rfl, early := le_trans (le_of_eq ?_) h.early }
    simp [PortWork.earlyWaiting]
  · exact PortWork.Law.kick { h with }

/-- The last part of the answer to the request in hand ends that request; any other frame leaves it as it was. -/
theorem PortWork.AnswersLaw.sent (h : w.AnswersLaw n) {x : Sending} (hx : w.sending = some x) : (w.sent x).AnswersLaw n := by
  have hown := h.own
  rw [hx, Option.any_some] at hown
  unfold PortWork.sent
  split
  · exact { h with own := hown }
  split
  · next hends =>
    rw [if_pos hends] at hown
    have hanswered : w.hand.any InHand.answered = true := by
      by_contra hno
      rw [if_neg hno] at hown
      cases hown
    rw [if_pos hanswered, Nat.add_eq_right, List.length_eq_zero_iff] at hown
    refine PortWork.AnswersLaw.kick ⟨?_, nofun, h.handed.trans ?_⟩
    · have hheld : (w.held.filter fun a => !a.early) = [] := by simpa using h.held
      simp [hown, hheld]
    · have hnot : ¬ w.unanswered = true := fun hw => by
        rw [PortWork.answered_of_unanswered hw] at hanswered
        cases hanswered
      exact if_neg hnot
  · next hother =>
    refine PortWork.AnswersLaw.kick { h with own := Eq.trans ?_ hown }
    rw [if_neg hother]
    rfl

theorem PortWork.Law.applyRate (h : w.Law) (rate : Nat) : (w.applyRate rate).Law := { h with }
theorem PortWork.AnswersLaw.applyRate (h : w.AnswersLaw n) (rate : Nat) : (w.applyRate rate).AnswersLaw n := { h with }

/-! ### Reception, notices and the tick -/

theorem PortWork.Law.discard (h : w.Law) : w.discard.Law := { h with errors := satInc_le h.errors }
theorem PortWork.AnswersLaw.discard (h : w.AnswersLaw n) : w.discard.AnswersLaw n := { h with }

/-- A character leaves a port as it was, has its frame discarded, or changes its receiver alone (R199). -/
theorem PortWork.take_cases (w : PortWork) (c : Byte) (error : Bool) :
    w.take c error = w.discard ∨ ∃ r, w.take c error = { w with receiver := r } := by
  unfold PortWork.take
  split
  · split
    · exact .inr ⟨_, rfl⟩
    · exact .inr ⟨w.receiver, rfl⟩
  split
  · exact .inl rfl
  split
  · exact .inl rfl
  · exact .inr ⟨_, rfl⟩

theorem PortWork.Law.take (h : w.Law) (c : Byte) (error : Bool) : (w.take c error).Law := by
  rcases w.take_cases c error with htake | ⟨r, htake⟩
  · rw [htake]; exact h.discard
  · rw [htake]; exact { h with }

theorem PortWork.AnswersLaw.take (h : w.AnswersLaw n) (c : Byte) (error : Bool) : (w.take c error).AnswersLaw n := by
  rcases w.take_cases c error with htake | ⟨r, htake⟩
  · rw [htake]; exact h.discard
  · rw [htake]; exact { h with }

theorem PortWork.gapExpiry_cases (w : PortWork) : w.gapExpiry = w ∨ w.gapExpiry = w.discard := by
  unfold PortWork.gapExpiry
  split
  · exact .inl rfl
  split
  · exact .inr rfl
  · exact .inl rfl

theorem PortWork.Law.gapExpiry (h : w.Law) : w.gapExpiry.Law := by
  rcases w.gapExpiry_cases with hgap | hgap
  · rwa [hgap]
  · rw [hgap]; exact h.discard

theorem PortWork.AnswersLaw.gapExpiry (h : w.AnswersLaw n) : w.gapExpiry.AnswersLaw n := by
  rcases w.gapExpiry_cases with hgap | hgap
  · rwa [hgap]
  · rw [hgap]; exact h.discard

theorem PortWork.Law.enqueue (h : w.Law) (x : Notice) : (w.enqueue x).Law := by
  have hnumber : (if w.number < 65535 then w.number + 1 else 0) ≤ 65535 := by split <;> omega
  unfold PortWork.enqueue
  dsimp only
  split
  · next hroom =>
    refine PortWork.Law.kick { h with number := hnumber, queue := ?_ }
    rw [List.length_append]
    exact hroom
  · exact { h with number := hnumber }

theorem PortWork.AnswersLaw.enqueue (h : w.AnswersLaw n) (x : Notice) : (w.enqueue x).AnswersLaw n := by
  unfold PortWork.enqueue
  dsimp only
  split
  · exact PortWork.AnswersLaw.kick { h with }
  · exact { h with }

theorem PortWork.Law.quietExpiry (h : w.Law) : w.quietExpiry.Law := by
  unfold PortWork.quietExpiry
  split
  · exact PortWork.Law.kick { h with quiet := nofun }
  · exact h

theorem PortWork.AnswersLaw.quietExpiry (h : w.AnswersLaw n) : w.quietExpiry.AnswersLaw n := by
  unfold PortWork.quietExpiry
  split
  · exact PortWork.AnswersLaw.kick { h with }
  · exact h

theorem PortWork.Law.tick (h : w.Law) : w.tick.Law := by
  refine { h with quiet := fun k hk => ?_ }
  obtain ⟨m, hm, rfl⟩ := Option.map_eq_some_iff.mp hk
  exact (Nat.sub_le m 1).trans (h.quiet m hm)

theorem PortWork.AnswersLaw.tick (h : w.AnswersLaw n) : w.tick.AnswersLaw n := { h with }

/-! ### A port without its change latch and the notices on their way to it, and a port at rest -/

theorem PortWork.law_bare : w.bare.Law ↔ w.Law := ⟨fun h => { h with }, fun h => { h with }⟩
theorem PortWork.answersLaw_bare : w.bare.AnswersLaw n ↔ w.AnswersLaw n := ⟨fun h => { h with }, fun h => { h with }⟩

theorem defaultFloor_le (r : Role) : defaultFloor r ≤ 3 := by cases r <;> decide

theorem PortWork.law_started {floor rate : Nat} (h : floor ≤ 3) : ({ floor := floor, rate := rate } : PortWork).Law where
  held := fun hheld => absurd rfl hheld
  queue := Nat.zero_le _
  early := Nat.zero_le _
  number := Nat.zero_le _
  floor := h
  quiet := nofun
  errors := Nat.zero_le _

theorem PortWork.answersLaw_started (floor rate : Nat) : ({ floor := floor, rate := rate } : PortWork).AnswersLaw 0 :=
  ⟨rfl, nofun, rfl⟩

/-! ### The answers that wait (R197) -/

/-- Of the answers that wait at most one is to the request in hand. -/
theorem PortWork.AnswersLaw.own_waiting_le (h : w.AnswersLaw n) : ((w.answers ++ w.held).filter fun a => !a.early).length ≤ 1 := by
  have hheld : (w.held.filter fun a => !a.early) = [] := by simpa using h.held
  have hown : (w.answers.filter fun a => !a.early).length ≤ 1 :=
    (Nat.le_add_right _ _).trans (h.own.le.trans (by split <;> decide))
  rwa [List.filter_append, hheld, List.append_nil]

theorem PortWork.AnswersLaw.waiting_le (h : w.AnswersLaw n) (hlaw : w.Law) : (w.answers ++ w.held).length ≤ 5 := by
  have hearly := hlaw.early
  have hown := h.own_waiting_le
  rw [PortWork.earlyWaiting] at hearly
  rw [List.length_eq_length_filter_add Answer.early]
  omega

end

end Sys2Proof.Machine
end

section
/-! SUPPORT. Every command keeps the laws of the station ports: the owning blocks leave the answers of the ports and the
requests that wait alone, and the taking of a request ends with the answer to it (R197, R200, R202, R207, R209). -/

namespace Sys2Proof.Machine

/-! ### Requests that wait -/

theorem requestsFrom_requestsIn (p : Port) (cs : List Instr) : requestsFrom p (requestsIn cs) = requestsFrom p cs := by
  rw [requestsFrom, requestsIn, List.countP_filter]
  refine List.countP_congr fun c _ => ?_
  cases c.spelling <;> simp

theorem requestsFrom_append (p : Port) (cs ds : List Instr) :
    requestsFrom p (cs ++ ds) = requestsFrom p cs + requestsFrom p ds := List.countP_append

theorem requestsFrom_erase_event (p : Port) {c : Instr} (hc : c.spelling = none) (cs : List Instr) :
    requestsFrom p (cs.erase c) = requestsFrom p cs := by
  rw [requestsFrom, List.countP_erase, hc]
  simp [requestsFrom]

section
variable (p : Port) {c : Instr} {q : Sender} {kind : Nat} {args : List Arg} (hc : c.spelling = some (q, kind, args))
include hc

theorem requestsFrom_cons (cs : List Instr) :
    requestsFrom p (c :: cs) = requestsFrom p cs + if p = q.port then 1 else 0 := by
  rw [requestsFrom, List.countP_cons, hc]
  simp only [Option.any_some, beq_iff_eq, eq_comm (a := q.port)]
  rfl

theorem requestsFrom_request : requestsFrom p [c] = if p = q.port then 1 else 0 :=
  (requestsFrom_cons p hc []).trans (Nat.zero_add _)

/-- A request that is taken waits at its own port no longer. -/
theorem requestsFrom_erase_request {cs : List Instr} (hmem : c ∈ cs) :
    requestsFrom p cs = requestsFrom p (cs.erase c) + if p = q.port then 1 else 0 :=
  ((List.perm_cons_erase hmem).countP_eq _).trans (requestsFrom_cons p hc _)

end

/-- A request is of the sender that it is built for. -/
theorem spelling_of_build {q : Sender} {code : Nat} {args : List Arg} {c : Instr} (h : buildRequest q code args = some c) :
    ∃ kind as, c.spelling = some (q, kind, as) := by
  unfold buildRequest at h
  (repeat' split at h) <;> cases h <;> exact ⟨_, _, rfl⟩

theorem spelling_of_decode {q : Sender} {code : Nat} {payload : List Byte} {c : Instr}
    (h : decodeRequest q code payload = some c) : ∃ kind as, c.spelling = some (q, kind, as) := by
  obtain ⟨args, -, hbuild⟩ := Option.bind_eq_some_iff.mp h
  exact spelling_of_build hbuild

/-! ### What leaves the answers and the requests alone -/

/-- In `t` the same requests wait for their blocks as in `s`, and each port keeps its laws, whatever waits for it. -/
structure State.KeepsPorts (s t : State) : Prop where
  waiting : ∀ p, requestsFrom p t.main.raised = requestsFrom p s.main.raised
  law : ∀ p, (s.port p).Law → (t.port p).Law
  answers : ∀ p n, (s.port p).AnswersLaw n → (t.port p).AnswersLaw n

namespace State.KeepsPorts

theorem refl (s : State) : s.KeepsPorts s := ⟨fun _ => rfl, fun _ => id, fun _ _ => id⟩

theorem trans {s t u : State} (h : s.KeepsPorts t) (k : t.KeepsPorts u) : s.KeepsPorts u :=
  ⟨fun p => (k.waiting p).trans (h.waiting p), fun p => k.law p ∘ h.law p, fun p n => k.answers p n ∘ h.answers p n⟩

theorem ite {s t u : State} {c : Prop} [Decidable c] (ht : c → s.KeepsPorts t) (hu : ¬ c → s.KeepsPorts u) :
    s.KeepsPorts (if c then t else u) := by
  split
  · exact ht ‹_›
  · exact hu ‹_›

theorem of_stations {s t : State} (h : t.stations = s.stations) : s.KeepsPorts t := by
  have hport : ∀ p, (t.port p).bare = (s.port p).bare := fun p => congrFun (congrArg Prod.fst h) p
  refine ⟨fun p => ?_, fun p hlaw => ?_, fun p n hlaw => ?_⟩
  · rw [← requestsFrom_requestsIn, ← requestsFrom_requestsIn p s.main.raised]
    exact congrArg (requestsFrom p) (congrArg Prod.snd h)
  · exact PortWork.law_bare.mp (hport p ▸ PortWork.law_bare.mpr hlaw)
  · exact PortWork.answersLaw_bare.mp (hport p ▸ PortWork.answersLaw_bare.mpr hlaw)

theorem consume_event (s : State) {c : Instr} (hc : c.spelling = none) : s.KeepsPorts (s.consume c) :=
  ⟨fun p => requestsFrom_erase_event p hc _, fun _ => id, fun _ _ => id⟩

theorem modPort (s : State) (p : Port) (f : PortWork → PortWork) (hlaw : (s.port p).Law → (f (s.port p)).Law)
    (hanswers : ∀ n, (s.port p).AnswersLaw n → (f (s.port p)).AnswersLaw n) : s.KeepsPorts (s.modPort p f) := by
  refine ⟨fun _ => rfl, fun x => ?_, fun x n => ?_⟩
  · by_cases hx : x = p
    · rwa [hx, State.port_modPort_self]
    · rw [State.port_modPort_ne s p f hx]
      exact id
  · by_cases hx : x = p
    · rw [hx, State.port_modPort_self]
      exact hanswers n
    · rw [State.port_modPort_ne s p f hx]
      exact id

/-! ### The operations of the ports -/

section
variable (s : State) (p : Port)

theorem early (tag kind : Byte) (code : AnswerCode) : s.KeepsPorts (s.modPort p fun w => w.early tag kind code) :=
  modPort s p _ (fun h => h.early_answer ..) fun _ h => h.early_answer ..

theorem discard : s.KeepsPorts (s.modPort p PortWork.discard) := modPort s p _ PortWork.Law.discard fun _ h => h.discard

theorem gapExpiry : s.KeepsPorts (s.modPort p PortWork.gapExpiry) := modPort s p _ PortWork.Law.gapExpiry fun _ h => h.gapExpiry

theorem quietExpiry : s.KeepsPorts (s.modPort p PortWork.quietExpiry) :=
  modPort s p _ PortWork.Law.quietExpiry fun _ h => h.quietExpiry

theorem take (c : Byte) (error : Bool) : s.KeepsPorts (s.modPort p fun w => w.take c error) :=
  modPort s p _ (fun h => h.take ..) fun _ h => h.take ..

theorem admitNotice (b : Block) : s.KeepsPorts (s.admitNotice p b) := by
  refine modPort s p _ (fun h => ?_) fun n h => ?_
  · split
    · exact h
    · next x rest _ =>
      have hrest : ({ s.port p with incoming := rest } : PortWork).Law := { h with }
      dsimp only
      split
      · exact hrest.enqueue x
      · exact hrest
  · split
    · exact h
    · next x rest _ =>
      have hrest : ({ s.port p with incoming := rest } : PortWork).AnswersLaw n := { h with }
      dsimp only
      split
      · exact hrest.enqueue x
      · exact hrest

theorem frameSent : s.KeepsPorts (s.frameSent p) := by
  unfold State.frameSent
  split
  · exact refl s
  · next x hx =>
    have hsent : s.KeepsPorts (s.modPort p fun w =>
        (if w.rateDue x then w.applyRate (s.portCfg p).rate else w).sent x) := by
      refine modPort s p _ (fun h => ?_) fun n h => ?_
      · split
        · exact (h.applyRate _).sent x
        · exact h.sent x
      · split
        · exact (h.applyRate _).sent hx
        · exact h.sent hx
    exact ite (fun _ => hsent.trans (of_stations rfl)) fun _ => hsent

theorem counted (m : TickMark) (x : Lines) : s.KeepsPorts (s.counted m x) := by
  refine ⟨fun _ => rfl, fun p h => ?_, fun p n h => ?_⟩
  · rw [State.port_counted]; exact h.tick
  · rw [State.port_counted]; exact h.tick

theorem tick (m : TickMark) (x : Lines) : s.KeepsPorts (s.tick m x) := by
  rw [State.tick_eq]
  have hcounted := counted s m x
  generalize s.counted m x = t at hcounted ⊢
  refine hcounted.trans (of_stations ?_)
  rw [State.stations_ite, State.stations_foldl _ _ fun t b => t.stations_firstLimits x b, State.stations_openBoth, ite_self]

theorem watchExpiry (x : Lines) : s.KeepsPorts (s.watchExpiry x) :=
  ite (fun _ => refl s) fun _ => (tick ..).trans (of_stations ((State.stations_post ..).trans (State.stations_modSup ..)))

/-! ### The requests of the ports (R198, R203, R204, R208 to R211) -/

variable (r : Role) (q : Sender)

theorem serveSetPortRate (port rate : Nat) : s.KeepsPorts (serveSetPortRate q port rate r s).1 := by
  unfold Machine.serveSetPortRate
  split
  · exact refl s
  · next x _ =>
    have hcfg : s.KeepsPorts (s.modPortCfg x fun c => { c with rate := nearestRate rate }) := of_stations rfl
    refine (hcfg.trans (modPort _ x _ (fun h => ?_) fun n h => ?_)).trans (of_stations (State.stations_flag ..))
    · split
      · exact { h with }
      split
      · exact h.applyRate _
      · exact { h with }
    · split
      · exact { h with }
      split
      · exact h.applyRate _
      · exact { h with }

/-- A port that becomes NONE loses its queue and its quiet timer (R203). -/
theorem serveSetPortRole (port role : Nat) : s.KeepsPorts (serveSetPortRole port role r s).1 := by
  unfold Machine.serveSetPortRole
  split
  · next x y _ _ =>
    rw [apply_ite Prod.fst, apply_ite Prod.fst]
    refine ite (fun _ => refl s) fun _ => ite (fun _ => refl s) fun _ => ?_
    have hcfg : s.KeepsPorts (s.modPortCfg x fun c => { c with role := y, binding := none }) := of_stations rfl
    refine (hcfg.trans (modPort _ x _ (fun h => ?_) fun n h => { h with })).trans (of_stations (State.stations_flag ..))
    refine { h with floor := defaultFloor_le y, queue := ?_, quiet := ?_ }
    · split
      · exact Nat.zero_le _
      · exact h.queue
    · split
      · nofun
      · exact h.quiet
  · exact refl s

theorem serveBindKiosk (port lane : Nat) : s.KeepsPorts (serveBindKiosk port lane r s).1 := by
  refine of_stations ?_
  unfold Machine.serveBindKiosk
  (repeat' split) <;> simp

theorem serveSetNoticeFloor (floor : Nat) : s.KeepsPorts (serveSetNoticeFloor q floor r s).1 :=
  modPort s q.port _ (fun h => { h with floor := (clampNat_zero 3 floor).trans_le (min_le_right ..) }) fun _ h => { h with }

theorem serveQuiet (tenths : Nat) : s.KeepsPorts (serveQuiet q tenths r s).1 := by
  refine modPort s q.port _ (fun h => { h with quiet := fun k hk => ?_ }) fun _ h => { h with }
  split at hk
  · cases hk
  · cases hk
    have hmax : clampNat 0 65535 tenths ≤ 65535 := (clampNat_zero _ tenths).trans_le (min_le_right ..)
    exact Nat.mul_le_mul_right 100 hmax

theorem serveReadStatus : s.KeepsPorts (serveReadStatus q r s).1 :=
  modPort s q.port _ (fun h => { h with }) fun _ h => { h with }

end

end State.KeepsPorts

/-! ### What keeps the laws of the ports -/

/-- Each port keeps its laws from `s` to `t`, with the requests that wait for it in each. -/
structure State.KeepsPortLaws (s t : State) : Prop where
  law : ∀ p, (s.port p).Law → (t.port p).Law
  answers : ∀ p, (s.port p).AnswersLaw (requestsFrom p s.main.raised) → (t.port p).AnswersLaw (requestsFrom p t.main.raised)

theorem State.KeepsPorts.laws {s t : State} (h : s.KeepsPorts t) : s.KeepsPortLaws t :=
  ⟨h.law, fun p => by rw [h.waiting p]; exact h.answers p _⟩

namespace State.KeepsPortLaws

theorem refl (s : State) : s.KeepsPortLaws s := (KeepsPorts.refl s).laws

theorem trans {s t u : State} (h : s.KeepsPortLaws t) (k : t.KeepsPortLaws u) : s.KeepsPortLaws u :=
  ⟨fun p => k.law p ∘ h.law p, fun p => k.answers p ∘ h.answers p⟩

theorem ite {s t u : State} {c : Prop} [Decidable c] (ht : c → s.KeepsPortLaws t) (hu : ¬ c → s.KeepsPortLaws u) :
    s.KeepsPortLaws (if c then t else u) := by
  split
  · exact ht ‹_›
  · exact hu ‹_›

theorem of_stations {s t : State} (h : t.stations = s.stations) : s.KeepsPortLaws t := (KeepsPorts.of_stations h).laws

theorem settle (s t : State) : t.KeepsPortLaws (State.settle s t) := of_stations (State.stations_settle ..)

theorem of_next {s u t : State} (h : (.next u : Outcome) = .next t) (hu : s.KeepsPortLaws u) : s.KeepsPortLaws t :=
  Host.Outcome.next.inj h ▸ hu

end State.KeepsPortLaws

/-! ### Requests in hand -/

/-- Each port keeps its laws from `s` to `t`, where a request of port `q` is in hand without an answer and waits no longer
(R200). -/
structure State.HandsOn (s : State) (q : Port) (t : State) : Prop where
  law : ∀ p, (s.port p).Law → (t.port p).Law
  answers : ∀ p, (s.port p).AnswersLaw (requestsFrom p s.main.raised) →
    (t.port p).AnswersLaw (requestsFrom p t.main.raised + if p = q then 1 else 0)

namespace State.HandsOn

/-- A port that holds no request takes one into its hand. -/
theorem take_hand {s : State} {q : Port} (hfree : (s.port q).hand = none) (tag : Byte) (role : Role) :
    s.HandsOn q (s.modPort q fun w => { w with hand := some { tag := tag, role := role } }) := by
  refine ⟨fun p h => ?_, fun p h => ?_⟩
  · by_cases hp : p = q
    · rw [hp] at h
      rw [hp, State.port_modPort_self]
      exact h.take_hand tag role
    · rwa [State.port_modPort_ne s q _ hp]
  · by_cases hp : p = q
    · rw [hp] at h
      rw [hp, if_pos rfl, State.raised_modPort, State.port_modPort_self, h.waiting_of_free hfree]
      exact h.take_hand hfree tag role
    · rw [if_neg hp]
      rwa [State.port_modPort_ne s q _ hp]

section
variable {s t u : State} {q : Sender} {c : Instr} {kind : Nat} {args : List Arg}

/-- A request that waits for its block is the one in hand at its port. -/
theorem consume (hc : c.spelling = some (q, kind, args)) (hmem : c ∈ s.main.raised) : s.HandsOn q.port (s.consume c) :=
  ⟨fun _ => id, fun p h => requestsFrom_erase_request p hc hmem ▸ h⟩

theorem trans {p : Port} (h : s.HandsOn p t) (k : t.KeepsPorts u) : s.HandsOn p u :=
  ⟨fun p => k.law p ∘ h.law p, fun p hs => by rw [k.waiting p]; exact k.answers p _ (h.answers p hs)⟩

/-- The request in hand waits for its block. -/
theorem raise (h : s.HandsOn q.port t) (hc : c.spelling = some (q, kind, args)) : s.KeepsPortLaws (t.raise [c]) := by
  refine ⟨h.law, fun p hs => ?_⟩
  rw [State.raised_raise_self, requestsFrom_append, requestsFrom_request p hc]
  exact h.answers p hs

/-- The block answers the request in hand. -/
theorem reply (h : s.HandsOn q.port t) (code : Nat) (x : Reply) : s.KeepsPortLaws (t.reply q code x) := by
  refine ⟨fun p hs => ?_, fun p hs => ?_⟩
  · have hlaw := h.law p hs
    by_cases hp : p = q.port
    · rw [hp] at hlaw
      rw [hp, State.reply, State.port_modPort_self]
      exact hlaw.answer rfl
    · rwa [State.reply, State.port_modPort_ne t q.port _ hp]
  · have hanswers := h.answers p hs
    have hlone := hanswers.handed.trans_le (show _ ≤ 1 by split <;> decide)
    by_cases hp : p = q.port
    · rw [if_pos hp] at hanswers hlone
      have hzero : requestsFrom p t.main.raised = 0 := Nat.le_zero.mp (Nat.le_of_succ_le_succ hlone)
      rw [State.reply, State.raised_modPort, hzero]
      rw [hzero, hp] at hanswers
      rw [hp, State.port_modPort_self]
      exact hanswers.answer rfl
    · rw [if_neg hp] at hanswers
      rwa [State.reply, State.port_modPort_ne t q.port _ hp]

end

end State.HandsOn

namespace State.KeepsPortLaws

theorem frameComplete (s : State) (p : Port) : s.KeepsPortLaws (s.frameComplete p) := by
  have hjudge : ∀ (t : State) (body : List Byte), t.KeepsPortLaws (t.judgeFrame p body) := fun t body => by
    unfold State.judgeFrame
    split
    · next kind tag payload =>
      refine ite (fun _ => (KeepsPorts.early ..).laws) fun hfree => ite (fun _ => (KeepsPorts.early ..).laws) fun _ =>
        ite (fun _ => (KeepsPorts.early ..).laws) fun _ => ?_
      split
      · exact (KeepsPorts.early ..).laws
      · next c hdecode =>
        obtain ⟨code, args, hc⟩ := spelling_of_decode hdecode
        exact HandsOn.raise (q := { port := p, tag := tag }) (HandsOn.take_hand (by simpa using hfree) ..) hc
    · exact refl t
  have hhunting : s.KeepsPorts (s.modPort p fun w => { w with receiver := .hunting }) :=
    KeepsPorts.modPort s p _ (fun h => { h with }) fun _ h => { h with }
  unfold State.frameComplete
  split
  · exact refl s
  · exact ite (fun _ => refl s) fun _ => ite (fun _ => (KeepsPorts.discard ..).laws) fun _ => hhunting.laws.trans (hjudge ..)

theorem character (s : State) (p : Port) (c : Byte) (error : Bool) : s.KeepsPortLaws (s.character p c error) :=
  (frameComplete s p).trans (KeepsPorts.take ..).laws

/-- A start leaves every port at rest, and no request waits (R212). -/
theorem restart (s : State) (x : Start) (cause : ResetCause) : s.KeepsPortLaws (s.restart x cause) := by
  have hbegun : s.KeepsPortLaws (s.begun x cause) := by
    refine ⟨fun p _ => ?_, fun p _ => ?_⟩
    · rw [State.port_begun]
      exact PortWork.law_started (defaultFloor_le _)
    · rw [State.port_begun]
      exact PortWork.answersLaw_started ..
  exact hbegun.trans (of_stations (State.stations_restart ..))

/-! ### The taking of commands -/

section
variable {c : Instr} {s t : State}

theorem event {f : State → State} (hevent : c.spelling = none) (hc : exec c s = Machine.event c f s)
    (hf : ∀ s : State, s.KeepsPortLaws (f s)) (h : exec c s = .next t) : s.KeepsPortLaws t := by
  refine of_next (hc.symm.trans h) (ite (fun _ => ?_) fun _ => refl s)
  exact ((KeepsPorts.consume_event s hevent).laws.trans (hf _)).trans (settle ..)

/-- A request is answered at its port, by its block or by the port itself. -/
theorem request {q : Sender} {kind : Nat} {args : List Arg} {f : Serve} (hspelling : c.spelling = some (q, kind, args))
    (hc : exec c s = Machine.request c q f s) (hf : ∀ (r : Role) (s : State), s.KeepsPorts (f r s).1)
    (h : exec c s = .next t) : s.KeepsPortLaws t := by
  have hserved : ∀ (u : State) (r : Role), s.HandsOn q.port u → s.KeepsPortLaws (u.serveHand q c.requestCode f r) :=
    fun u r hu => (hu.trans (hf r u)).reply ..
  refine of_next (hc.symm.trans h) (ite (fun _ => trans ?_ (settle ..)) fun _ => refl s)
  exact ite (fun hmem => hserved _ _ (HandsOn.consume hspelling (List.contains_iff_mem.mp hmem))) fun _ =>
    ite (fun _ => (KeepsPorts.early ..).laws) fun hfree => ite (fun _ => (KeepsPorts.early ..).laws) fun _ =>
    hserved _ _ (HandsOn.take_hand (by simpa using hfree) ..)

/-- An event that is not of the ports. -/
theorem event_framed {f : State → State} (hevent : c.spelling = none) (hc : exec c s = Machine.event c f s)
    (hf : ∀ s : State, (f s).stations = s.stations) (h : exec c s = .next t) : s.KeepsPortLaws t :=
  event hevent hc (fun s => of_stations (hf s)) h

/-- A request that is not of the ports. -/
theorem request_framed {q : Sender} {kind : Nat} {args : List Arg} {f : Serve} (hspelling : c.spelling = some (q, kind, args))
    (hc : exec c s = Machine.request c q f s) (hf : ∀ (r : Role) (s : State), (f r s).1.stations = s.stations)
    (h : exec c s = .next t) : s.KeepsPortLaws t :=
  request hspelling hc (fun r s => KeepsPorts.of_stations (hf r s)) h

end

/-- Of the requests only those of the ports change more of a port than its answers. -/
theorem exec_request (c : Instr) (hc : c.spelling.isSome = true) (s t : State) (h : exec c s = .next t) :
    s.KeepsPortLaws t := by
  cases c with
  | setPortRole => exact request rfl (exec_setPortRole ..) (fun r s => KeepsPorts.serveSetPortRole s r ..) h
  | bindKiosk => exact request rfl (exec_bindKiosk ..) (fun r s => KeepsPorts.serveBindKiosk s r ..) h
  | setPortRate => exact request rfl (exec_setPortRate ..) (fun r s => KeepsPorts.serveSetPortRate s r ..) h
  | setNoticeFloor => exact request rfl (exec_setNoticeFloor ..) (fun r s => KeepsPorts.serveSetNoticeFloor s r ..) h
  | quiet => exact request rfl (exec_quiet ..) (fun r s => KeepsPorts.serveQuiet s r ..) h
  | readStatus => exact request rfl (exec_readStatus ..) (fun r s => KeepsPorts.serveReadStatus s r ..) h
  | readPorts | readBarriers => exact request_framed rfl rfl (fun _ _ => rfl) h
  | identify | listYard | readTransaction | findPlate | hold | releaseHold | amend | cancelTransaction | quarantine | close
  | forceExit | storeTare | deleteTare | readTare | listTares | setTareValidity | setClock | setTicketBase | voidTicket
  | readClock | collectNext | readTicket | confirmCollected => exact request_framed rfl rfl (by simp) h
  | setChannelMap | setChannelLimits | clearFaults | readChannels | setOccupancy | readDeck | setCaptureOptions | capture
  | abortCapture | zeroDeck | readCapture | setMetrology | setChannelFactor | setChannelZero | calZeroDeck | calSpanDeck
  | abortCalibration | readCalibration => exact request_framed rfl rfl (by simp) h
  | setProceedTime | clearTailgate | setDeckService | readDeckState | setConditioner | setLaneTimers | setLaneFeed
  | setLaneMode | setLamp | setSignalHead | setLampInvert | readInputs | readLane => exact request_framed rfl rfl (by simp) h
  | setBarrier | barrierReset | barrierCommand | setYardMode | yardReset | setAlarmMask | readSupervisor =>
    exact request_framed rfl rfl (by simp) h
  | _ => cases hc

theorem exec_event (c : Instr) (hc : c.spelling = none) (s t : State) (h : exec c s = .next t) : s.KeepsPortLaws t := by
  cases c with
  | frameComplete => exact event hc (exec_frameComplete ..) (fun s => frameComplete s ..) h
  | characterReceived => exact event hc (exec_characterReceived ..) (fun s => character s ..) h
  | gapTimerExpiry => exact event hc (exec_gapTimerExpiry ..) (fun s => (KeepsPorts.gapExpiry s ..).laws) h
  | frameSent => exact event hc (exec_frameSent ..) (fun s => (KeepsPorts.frameSent s ..).laws) h
  | noticeAdmission => exact event hc (exec_noticeAdmission ..) (fun s => (KeepsPorts.admitNotice s ..).laws) h
  | quietTimerExpiry => exact event hc (exec_quietTimerExpiry ..) (fun s => (KeepsPorts.quietExpiry s ..).laws) h
  | watchExpiry => exact event hc (exec_watchExpiry ..) (fun s => (KeepsPorts.watchExpiry s ..).laws) h
  | yardTick x =>
    refine of_next h (ite (fun _ => ?_) fun _ => of_stations rfl)
    exact ((KeepsPorts.consume_event s hc).laws.trans (KeepsPorts.tick ..).laws).trans (settle ..)
  | yardClockSecond => exact of_next h ((KeepsPorts.consume_event s hc).laws.trans (of_stations rfl))
  | mainDomainStop => exact of_next h (of_stations rfl)
  | mainReset => exact of_next h (restart ..)
  | yardResetEffect => exact of_next h (ite (fun _ => restart ..) fun _ => refl s)
  | entryLoopEdgeAtArbiter d e =>
    cases e with
    | rising => exact event_framed hc (exec_entryLoopEdgeAtArbiter d .rising s) (by simp) h
    | falling => exact event_framed hc (exec_entryLoopEdgeAtArbiter d .falling s) (by simp) h
  | exitLoopEdgeAtArbiter d e =>
    cases e with
    | rising => exact event_framed hc (exec_exitLoopEdgeAtArbiter d .rising s) (by simp) h
    | falling => exact event_framed hc (exec_exitLoopEdgeAtArbiter d .falling s) (by simp) h
  | filing => exact event_framed hc (exec_filing ..) (by simp) h
  | withdrawal => exact event_framed hc (exec_withdrawal ..) (by simp) h
  | choice => exact event_framed hc (exec_choice ..) (by simp) h
  | acceptance => exact event_framed hc (exec_acceptance ..) (by simp) h
  | decline => exact event_framed hc (exec_decline ..) (by simp) h
  | proceedTimeout => exact event_framed hc (exec_proceedTimeout ..) (by simp) h
  | exitReleaseAtArbiter => exact event_framed hc (exec_exitReleaseAtArbiter ..) (by simp) h
  | captureCompletionAtArbiter => exact event_framed hc (exec_captureCompletionAtArbiter ..) (by simp) h
  | captureFailureAtArbiter => exact event_framed hc (exec_captureFailureAtArbiter ..) (by simp) h
  | forceExitNoticeAtArbiter => exact event_framed hc (exec_forceExitNoticeAtArbiter ..) (by simp) h
  | barrierStateTaken => exact event_framed hc (exec_barrierStateTaken ..) (by simp) h
  | deckEmpty => exact event_framed hc (exec_deckEmpty ..) (by simp) h
  | permissiveRise => exact event_framed hc (exec_permissiveRise ..) (by simp) h
  | permissiveFall => exact event_framed hc (exec_permissiveFall ..) (by simp) h
  | barrierLoopEdge => exact event_framed hc (exec_barrierLoopEdge ..) (by simp) h
  | closeDelayExpiry => exact event_framed hc (exec_closeDelayExpiry ..) (by simp) h
  | motionTimeout => exact event_framed hc (exec_motionTimeout ..) (by simp) h
  | limitEvent => exact event_framed hc (exec_limitEvent ..) (by simp) h
  | keepaliveToggle => exact event_framed hc (exec_keepaliveToggle ..) (by simp) h
  | stopLoopEdge => exact event_framed hc (exec_stopLoopEdge ..) (by simp) h
  | stuckTimerExpiry => exact event_framed hc (exec_stuckTimerExpiry ..) (by simp) h
  | filingOrder => exact event_framed hc (exec_filingOrder ..) (by simp) h
  | absenceTimerExpiry => exact event_framed hc (exec_absenceTimerExpiry ..) (by simp) h
  | cancelOrder => exact event_framed hc (exec_cancelOrder ..) (by simp) h
  | offerAtLane => exact event_framed hc (exec_offerAtLane ..) (by simp) h
  | grantWithdrawnAtLane => exact event_framed hc (exec_grantWithdrawnAtLane ..) (by simp) h
  | entryPassageAtLane => exact event_framed hc (exec_entryPassageAtLane ..) (by simp) h
  | stretchTimerExpiry => exact event_framed hc (exec_stretchTimerExpiry ..) (by simp) h
  | withdrawalReport => exact event_framed hc (exec_withdrawalReport ..) (by simp) h
  | entryPassageReport => exact event_framed hc (exec_entryPassageReport ..) (by simp) h
  | recordsCaptureCompletion => exact event_framed hc (exec_recordsCaptureCompletion ..) (by simp) h
  | recordsCaptureFailure => exact event_framed hc (exec_recordsCaptureFailure ..) (by simp) h
  | exitPassageReport => exact event_framed hc (exec_exitPassageReport ..) (by simp) h
  | windowClose => exact event_framed hc (exec_windowClose ..) (by simp) h
  | engineWindow => exact event_framed hc (exec_engineWindow ..) (by simp) h
  | captureStart => exact event_framed hc (exec_captureStart ..) (by simp) h
  | recordsAbort => exact event_framed hc (exec_recordsAbort ..) (by simp) h
  | captureExternalEnd => exact event_framed hc (exec_captureExternalEnd ..) (by simp) h
  | attemptTimerExpiry => exact event_framed hc (exec_attemptTimerExpiry ..) (by simp) h
  | leaveDeckTimerExpiry => exact event_framed hc (exec_leaveDeckTimerExpiry ..) (by simp) h
  | positioningEdge => exact event_framed hc (exec_positioningEdge ..) (by simp) h
  | converterEdge => exact event_framed hc (exec_converterEdge ..) (by simp) h
  | conditionerEdge => exact event_framed hc (exec_conditionerEdge ..) (by simp) h
  | yardModeTaken => exact event_framed hc (exec_yardModeTaken ..) (by simp) h
  | drain => exact event_framed hc (exec_drain ..) (by simp) h
  | qualification => exact event_framed hc (exec_qualification ..) (by simp) h
  | startTimerExpiry => exact event_framed hc (exec_startTimerExpiry ..) (by simp) h
  | supplyLow => exact event_framed hc (exec_supplyLow ..) (by simp) h
  | supplyRestored => exact event_framed hc (exec_supplyRestored ..) (by simp) h
  | calSwitch => exact event_framed hc (exec_calSwitch ..) (by simp) h
  | supplyStateTaken => exact event_framed hc (exec_supplyStateTaken ..) (by simp) h
  | _ => cases hc

/-- Every step keeps the laws of the ports. -/
theorem step (s t : State) (h : Machine.step s = .next t) : s.KeepsPortLaws t := by
  unfold Machine.step at h
  split at h
  · exact of_next h (refl s)
  · next c rest _ =>
    have htaken : s.KeepsPortLaws { s with pending := rest } := of_stations rfl
    cases hc : c.spelling with
    | none => exact htaken.trans (exec_event c hc _ t h)
    | some x => exact htaken.trans (exec_request c (hc ▸ rfl) _ t h)

end State.KeepsPortLaws

end Sys2Proof.Machine

open Sys2Proof.Machine

/-- Settles O13, by what a step keeps of the ports (`State.KeepsPortLaws.step`). -/
theorem portLawKept : Obligations.PortLawKept := by
  refine ⟨fun s t p hlaw h => (State.KeepsPortLaws.step s t h).law p hlaw, fun s t hlaw h => ?_, fun s p hanswers hlaw => ?_⟩
  · rw [State.answersLaw_iff] at hlaw ⊢
    exact fun p => (State.KeepsPortLaws.step s t h).answers p (hlaw p)
  · have hport := s.answersLaw_iff.mp hanswers p
    exact ⟨hport.waiting_le hlaw, hport.own_waiting_le⟩
end

section
/-! SUPPORT. The requests of the station ports: roles, bindings and rates, and what stands at a port while its request is in
hand (R198, R203, R204, R208 to R211). -/

namespace Sys2Proof.Machine

/-! ### Operands -/

theorem portOf_of_ge {n : Nat} (h : 6 ≤ n) : portOf n = none := dif_neg (Nat.not_lt.mpr h)

theorem roleOf_of_ge {n : Nat} (h : 4 ≤ n) : roleOf n = none := by
  match n, h with
  | _ + 4, _ => rfl

theorem bindingOf_of_ge {n : Nat} (h : 4 ≤ n) (hall : n ≠ 4294967295) : bindingOf n = none := by
  rw [bindingOf, Config.namedChoice, if_neg hall, laneOf_of_ge h, Option.map_none]

theorem bindingOf_lane (l : Lane) : bindingOf l.val = some (some l) := by
  have hl := l.isLt
  rw [bindingOf, Config.namedChoice, if_neg (by omega), laneOf_of_lt hl, Option.map_some]

/-- Floor 3 for role NONE is the model's choice (R208, log 28). -/
theorem defaultFloor_eq (r : Role) : defaultFloor r = if r = .console then 1 else if r = .office then 2 else 3 := by
  cases r <;> rfl

/-- A value that has a highest one alone is stored as it came, or as that (R208, R209). -/
theorem Reply.clamped_most (most n : Nat) (bytes : Nat → List Byte) :
    Reply.clamped (clampNat 0 most n != n) (bytes (clampNat 0 most n)) =
      if n ≤ most then .ok else { code := .clamped, payload := bytes most } := by
  rw [clampNat_zero, min_def]
  split
  · rw [bne_self_eq_false]
    rfl
  · next h =>
    have hne : most ≠ n := fun he => h he.ge
    rw [bne_iff_ne.mpr hne]
    rfl

/-- Tenths of a second as ticks (R209). -/
theorem quiet_clamped (n : Nat) :
    (if clampNat 0 Config.quietMax n = 0 then none else some (clampNat 0 Config.quietMax n * 100)) =
      if n = 0 then none else some (if n ≤ 65535 then n * 100 else 6553500) := by
  rw [clampNat_zero, min_def, Config.quietMax]
  by_cases hn : n ≤ 65535
  · rw [if_pos hn, if_pos hn]
  · have hpos : n ≠ 0 := by omega
    rw [if_neg hn, if_neg hn, if_neg hpos]
    rfl

/-! ### A port with its request in hand -/

section
variable (s : State) (c : Instr) (q : Sender) (p : Port)

theorem State.port_handed_eq : ∃ hand, (s.handed c q).port p = { s.port p with hand := hand } := by
  rw [State.port_handed]
  split
  · next h =>
    obtain ⟨-, rfl⟩ := h
    exact ⟨_, rfl⟩
  · exact ⟨_, rfl⟩

theorem State.sending_handed : ((s.handed c q).port p).sending = (s.port p).sending := by
  obtain ⟨hand, hport⟩ := s.port_handed_eq c q p
  rw [hport]

theorem State.portLine_handed : (s.handed c q).portLine p = s.portLine p := by
  obtain ⟨hand, hport⟩ := s.port_handed_eq c q p
  rw [State.portLine, State.portLine, hport, State.portCfg_handed]

end

/-! ### The nearest rate (R198) -/

/-- A rate is preferred to another where it lies nearer to the rate asked for, or as near and higher. -/
def Preferred (asked a b : Nat) : Prop := rateGap a asked < rateGap b asked ∨ (rateGap a asked = rateGap b asked ∧ b ≤ a)

section
variable {asked a b c : Nat}

theorem Preferred.refl (asked a : Nat) : Preferred asked a a := .inr ⟨rfl, le_rfl⟩

theorem Preferred.trans (h : Preferred asked a b) (k : Preferred asked b c) : Preferred asked a c := by
  unfold Preferred at *
  omega

/-- Of two rates in order, the choice keeps the higher where they lie equally near. -/
theorem preferred_choice (hle : a ≤ b) :
    Preferred asked (if rateGap b asked ≤ rateGap a asked then b else a) a ∧
      Preferred asked (if rateGap b asked ≤ rateGap a asked then b else a) b := by
  unfold Preferred
  split <;> omega

theorem preferred_iff : Preferred asked a b ↔ |(a : Int) - asked| < |(b : Int) - asked| ∨
    (|(a : Int) - asked| = |(b : Int) - asked| ∧ b ≤ a) := by
  have hgap : ∀ x : Nat, |(x : Int) - asked| = (rateGap x asked : Nat) := fun x => by
    rw [Int.abs_eq_natAbs, rateGap]
    omega
  rw [hgap, hgap, Nat.cast_lt, Nat.cast_inj]
  rfl

/-- The choice along rising rates is one of them, and preferred to each. -/
theorem preferred_foldl {xs : List Nat} (h : (a :: xs).Pairwise (· ≤ ·)) :
    let r := xs.foldl (fun best x => if rateGap x asked ≤ rateGap best asked then x else best) a
    r ∈ a :: xs ∧ ∀ y ∈ a :: xs, Preferred asked r y := by
  induction xs generalizing a with
  | nil => exact ⟨List.mem_singleton_self a, fun y hy => List.mem_singleton.mp hy ▸ Preferred.refl asked a⟩
  | cons x xs ih =>
    obtain ⟨hhead, htail⟩ := List.pairwise_cons.mp h
    obtain ⟨hpa, hpx⟩ := preferred_choice (asked := asked) (hhead x List.mem_cons_self)
    have hchoice : (if rateGap x asked ≤ rateGap a asked then x else a) = x ∨
        (if rateGap x asked ≤ rateGap a asked then x else a) = a := ite_eq_or_eq ..
    rw [List.foldl_cons]
    generalize (if rateGap x asked ≤ rateGap a asked then x else a) = best at hpa hpx hchoice ⊢
    have hrising : (best :: xs).Pairwise (· ≤ ·) := by
      rcases hchoice with rfl | rfl
      · exact htail
      · exact h.sublist ((List.sublist_cons_self x xs).cons_cons best)
    obtain ⟨hmem, hall⟩ := ih hrising
    have hbest := hall best List.mem_cons_self
    refine ⟨?_, fun y hy => ?_⟩
    · rcases List.mem_cons.mp hmem with hr | hr
      · rw [hr]
        rcases hchoice with rfl | rfl <;> simp
      · exact List.mem_cons_of_mem a (List.mem_cons_of_mem x hr)
    · rcases List.mem_cons.mp hy with rfl | hy
      · exact hbest.trans hpa
      rcases List.mem_cons.mp hy with rfl | hy
      · exact hbest.trans hpx
      · exact hall y (List.mem_cons_of_mem best hy)

end

/-- The nearest rate is a legal one, and preferred to each (R197, R198). -/
theorem nearestRate_spec (asked : Nat) :
    nearestRate asked ∈ ([9600, 19200, 38400, 57600, 115200] : List Nat) ∧
      ∀ r ∈ ([9600, 19200, 38400, 57600, 115200] : List Nat), Preferred asked (nearestRate asked) r := by
  obtain ⟨hmem, hall⟩ := preferred_foldl (asked := asked) (a := 9600) (xs := rates) (by decide)
  refine ⟨?_, fun r hr => hall r (List.mem_cons_of_mem _ hr)⟩
  rcases List.mem_cons.mp hmem with hr | hr
  · exact hr ▸ List.mem_cons_self
  · exact hr

/-! ### Roles, bindings and rates -/

section
variable {s : State} {q : Sender} {p : Port} {port n : Nat} (role : Role)

theorem serveSetPortRole_bad (h : port = 0 ∨ 6 ≤ port ∨ 4 ≤ n) :
    serveSetPortRole port n role s = (s, .only .badArgument) := by
  unfold serveSetPortRole
  split
  · next x r hport hrole =>
    rcases h with rfl | hge | hge
    · exact if_pos (Option.some.inj hport).symm
    · cases (portOf_of_ge hge).symm.trans hport
    · cases (roleOf_of_ge hge).symm.trans hrole
  · rfl

theorem serveSetPortRole_legal {r : Role} (hport : portOf port = some p) (hp : p ≠ 0) (hrole : roleOf n = some r) :
    serveSetPortRole port n role s =
      if (s.portCfg p).role = r then (s, .ok)
      else (((s.modPortCfg p fun x => { x with role := r, binding := none }).modPort p fun w =>
        { w with floor := defaultFloor r, latch := wholeLatch, queue := if r = .none then [] else w.queue
                 quiet := if r = .none then none else w.quiet }).flag .supervision, .ok) := by
  simp only [serveSetPortRole, hport, hrole, if_neg hp]

theorem serveBindKiosk_bad (h : port = 0 ∨ 6 ≤ port ∨ (4 ≤ n ∧ n ≠ 4294967295)) :
    serveBindKiosk port n role s = (s, .only .badArgument) := by
  unfold serveBindKiosk
  split
  · next x b hport hbinding =>
    rcases h with rfl | hge | ⟨hge, hall⟩
    · exact if_pos (Option.some.inj hport).symm
    · cases (portOf_of_ge hge).symm.trans hport
    · cases (bindingOf_of_ge hge hall).symm.trans hbinding
  · rfl

theorem serveBindKiosk_legal {b : Option Lane} (hport : portOf port = some p) (hp : p ≠ 0) (hbinding : bindingOf n = some b) :
    serveBindKiosk port n role s =
      if (s.portCfg p).role ≠ .kiosk then (s, .only .wrongState)
      else ((s.modPortCfg p fun x => { x with binding := b }).flag .supervision, .ok) := by
  simp only [serveBindKiosk, hport, hbinding, if_neg hp]

theorem serveSetPortRate_bad (h : 6 ≤ port) : serveSetPortRate q port n role s = (s, .only .badArgument) := by
  simp only [serveSetPortRate, portOf_of_ge h]

/-- A port that sends takes its new rate at the end of its frame, the sender's own port at the end of this answer. -/
theorem serveSetPortRate_legal (hport : portOf port = some p) :
    serveSetPortRate q port n role s =
      ((((s.modPortCfg p fun x => { x with rate := nearestRate n }).modPort p fun w =>
          if p = q.port then { w with rateWait := .answerEnd }
          else if (s.port p).sending = none then { w with rate := nearestRate n, rateWait := .none, receiver := .hunting }
          else { w with rateWait := .frameEnd }).flag .supervision),
        if nearestRate n = n then .ok else { code := .clamped, payload := u32 (nearestRate n) }) := by
  simp only [serveSetPortRate, hport, bne, Reply.clamped_not, beq_iff_eq]
  refine Prod.ext (congrArg (fun t : State => t.flag .supervision) (State.modPort_congr _ p ?_)) rfl
  simp only [State.port_modPortCfg, Option.isNone_iff_eq_none]
  rfl

end

end Sys2Proof.Machine

open Sys2Proof Sys2Proof.Machine

/-- Settles O58, request by request: the operands that are refused, then the new settings and the bytes answered. -/
theorem portRequests : Obligations.PortRequests := by
  refine ⟨fun s q role port => ⟨?_, ?_, ?_⟩, fun s q role n => ⟨?_, ?_, ?_, ?_⟩⟩
  · intro n c h
    refine ⟨fun hbad => ?_, fun p r hport hp hrole => ?_⟩
    · exact request_refused s c q _ role _ h (serveSetPortRole_bad role hbad)
    · have hserve := serveSetPortRole_legal (s := s.handed c q) role hport hp hrole
      rw [State.portCfg_handed, defaultFloor_eq] at hserve
      exact ⟨fun hsame => request_answered s c q _ role id _ h (hserve.trans (if_pos hsame)),
        fun hnew => request_answered s c q _ role _ _ h (hserve.trans (if_neg hnew))⟩
  · intro n c h
    refine ⟨fun hbad => ?_, fun p hport hp b hb => ?_⟩
    · exact request_refused s c q _ role _ h (serveBindKiosk_bad role hbad)
    · have hbinding : bindingOf n = some b := by
        rcases hb with ⟨rfl, rfl⟩ | ⟨l, rfl, rfl⟩
        · rfl
        · exact bindingOf_lane l
      have hserve := serveBindKiosk_legal (s := s.handed c q) role hport hp hbinding
      rw [State.portCfg_handed] at hserve
      refine (exec_bindKiosk ..).trans (request_ite (fun hrole => ?_) fun hrole => ?_)
      · exact request_refused s c q _ role _ h (hserve.trans (if_pos hrole))
      · exact request_answered s c q _ role _ _ h (hserve.trans (if_neg hrole))
  · intro rate c h
    refine ⟨fun hbad => ?_, fun p hport => ?_⟩
    · exact request_refused s c q _ role _ h (serveSetPortRate_bad role hbad)
    · obtain ⟨hmem, hall⟩ := nearestRate_spec rate
      refine ⟨nearestRate rate, hmem, fun r hr => preferred_iff.mp (hall r hr), ?_⟩
      refine (exec_setPortRate ..).trans (request_answered s c q _ role _ _ h ?_)
      rw [serveSetPortRate_legal role hport, State.sending_handed]
  · intro c h
    refine (exec_setNoticeFloor ..).trans (request_answered s c q _ role _ _ h ?_)
    rw [serveSetNoticeFloor, Reply.clamped_most, clampNat_zero, min_def]
  · intro c h
    refine (exec_quiet ..).trans (request_answered s c q _ role _ _ h ?_)
    rw [serveQuiet, Reply.clamped_most]
    refine Prod.ext (State.modPort_congr _ q.port ?_) rfl
    rw [quiet_clamped]
  · intro c h
    refine (exec_readStatus ..).trans (request_answered s c q _ role _ _ h ?_)
    obtain ⟨hand, hport⟩ := s.port_handed_eq c q q.port
    rw [serveReadStatus, hport, State.portCfg_handed]
    simp only [if_true, List.append_nil]
    rfl
  · intro c h
    refine (exec_readPorts ..).trans (request_answered s c q _ role id _ h ?_)
    have hline : (s.handed c q).portLine = s.portLine := funext fun p => s.portLine_handed c q p
    rw [serveReadPorts, hline]
    rfl
end

section
/-! SUPPORT. Reception and judging: what a character, the gap timer and a full frame do to a port (R199, R200). -/

namespace Sys2Proof.Machine

/-! ### Frames that are collected (R199) -/

section
variable {w : PortWork} {bs : List Byte} {gap : Nat} (c : Byte) (error : Bool)

/-- A receiver that hunts waits for a marker. -/
theorem PortWork.take_hunting (h : w.receiver = .hunting) : w.take c error =
    if error = false ∧ c = 0xA5#8 then { w with receiver := .collecting [] 0 } else w := by
  simp only [PortWork.take, h, Bool.and_eq_true, Bool.not_eq_true', beq_iff_eq]
  rfl

/-- A character joins its frame; one in error and a count outside 2 to 240 discard it. -/
theorem PortWork.take_collecting (h : w.receiver = .collecting bs gap) : w.take c error =
    if error = true ∨ (bs = [] ∧ (c.toNat < 2 ∨ 240 < c.toNat)) then w.discard
    else { w with receiver := .collecting (bs ++ [c]) 0 } := by
  simp only [PortWork.take, h]
  cases error with
  | true => simp
  | false =>
    simp only [Bool.false_eq_true, if_false, false_or, Bool.and_eq_true, List.isEmpty_iff, Bool.or_eq_true, decide_eq_true_eq]
    rfl

end

section
variable {s : State} {p : Port}

theorem State.gapExpiry_hunting (h : (s.port p).receiver = .hunting) : s.modPort p PortWork.gapExpiry = s := by
  refine (s.modPort_congr p ?_).trans (s.modPort_id p)
  simp only [PortWork.gapExpiry, h]

theorem State.gapExpiry_collecting {bs : List Byte} {gap : Nat} (h : (s.port p).receiver = .collecting bs gap) :
    s.modPort p PortWork.gapExpiry = if 20 ≤ gap ∧ frameFull bs = false then s.modPort p PortWork.discard else s := by
  have hgap : (s.port p).gapExpiry = if 20 ≤ gap ∧ frameFull bs = false then (s.port p).discard else s.port p := by
    simp only [PortWork.gapExpiry, h, Bool.and_eq_true, Bool.not_eq_true', decide_eq_true_eq]
    rfl
  split
  · next hdue => exact s.modPort_congr p (hgap.trans (if_pos hdue))
  · next hnot => exact (s.modPort_congr p (hgap.trans (if_neg hnot))).trans (s.modPort_id p)

end

/-! ### Whole frames (R199, R213) -/

section
variable {n : Byte} {body check : List Byte} (hcheck : check.length = 2)
include hcheck

theorem frameFull_whole (hbody : body.length = n.toNat) : frameFull (n :: body ++ check) = true := by
  simp [frameFull, hbody, hcheck]

theorem checkOk_whole : checkOk (n :: body ++ check) = true ↔ check = u16 (crc16 (n :: body)).toNat := by
  have hlength : (n :: body ++ check).length - 2 = (n :: body).length := by
    rw [List.length_append, hcheck, Nat.add_sub_cancel]
  rw [checkOk, hlength]
  simp only [List.take_left, List.drop_left, beq_iff_eq]
  exact eq_comm

theorem body_whole : ((n :: body ++ check).drop 1).take ((n :: body ++ check).length - 3) = body := by
  have hlength : (n :: body ++ check).length - 3 = body.length := by
    rw [List.length_append, hcheck, List.length_cons]
    omega
  rw [hlength]
  exact List.take_left

end

section
variable {s : State} {p : Port}

theorem State.frameComplete_hunting (h : (s.port p).receiver = .hunting) : s.frameComplete p = s := by
  simp only [State.frameComplete, h]

theorem State.frameComplete_partial {bs : List Byte} {gap : Nat} (h : (s.port p).receiver = .collecting bs gap)
    (hfull : frameFull bs = false) : s.frameComplete p = s := by
  simp only [State.frameComplete, h, hfull, Bool.not_false, if_true]

section
variable {n : Byte} {body check : List Byte} {gap : Nat} (h : (s.port p).receiver = .collecting (n :: body ++ check) gap)
  (hbody : body.length = n.toNat) (hcheck : check.length = 2)
include h hbody hcheck

theorem State.frameComplete_wrong (hwrong : check ≠ u16 (crc16 (n :: body)).toNat) :
    s.frameComplete p = s.modPort p PortWork.discard := by
  have hbad : checkOk (n :: body ++ check) = false := by
    rwa [← Bool.not_eq_true, checkOk_whole hcheck]
  simp only [State.frameComplete, h, frameFull_whole hcheck hbody, hbad, Bool.not_true, Bool.not_false, if_true,
    Bool.false_eq_true, if_false]

theorem State.frameComplete_right (hright : check = u16 (crc16 (n :: body)).toNat) :
    s.frameComplete p = (s.modPort p fun w => { w with receiver := .hunting }).judgeFrame p body := by
  simp only [State.frameComplete, h, frameFull_whole hcheck hbody, (checkOk_whole hcheck).mpr hright, body_whole hcheck,
    Bool.not_true, Bool.false_eq_true, if_false]

end

/-! ### The judging of a frame (R200) -/

theorem Bank.mod_mod {n : Nat} {α : Type} (v : Bank n α) (i : Fin n) (f g : α → α) :
    Bank.mod (Bank.mod v i f) i g = Bank.mod v i fun x => g (f x) := by
  have hget := Bank.get_mod_self v i f
  unfold Bank.mod at hget ⊢
  rw [hget, Vector.set_set]

theorem State.modPort_modPort (s : State) (p : Port) (f g : PortWork → PortWork) :
    (s.modPort p f).modPort p g = s.modPort p fun w => g (f w) := by
  unfold State.modPort
  rw [Bank.mod_mod]

section
variable {kind tag : Byte} {payload : List Byte}

/-- The tests of a frame in their order. -/
theorem State.judgeFrame_eq (s : State) (p : Port) : s.judgeFrame p (kind :: tag :: payload) =
    let early := fun (code : AnswerCode) => s.modPort p fun w => w.early tag kind code
    if (s.port p).hand ≠ none then early .portBusy
    else if kind.toNat = 0 ∨ 69 < kind.toNat then early .unknownRequest
    else if permitted (s.portCfg p).role p kind.toNat = false then early .notPermitted
    else (decodeRequest { port := p, tag := tag } kind.toNat payload).elim (early .badArgument) fun i =>
      (s.modPort p fun w => { w with hand := some { tag := tag, role := (s.portCfg p).role } }).raise [i] := by
  simp only [State.judgeFrame, Option.isSome_iff_ne_none, Bool.not_eq_true']
  cases decodeRequest { port := p, tag := tag } kind.toNat payload <;> rfl

/-- A whole frame with a right check leaves the receiver hunting, and is judged. -/
theorem State.frameComplete_judged {s : State} {p : Port} {n : Byte} {check : List Byte} {gap : Nat}
    (h : (s.port p).receiver = .collecting (n :: kind :: tag :: payload ++ check) gap)
    (hbody : payload.length + 2 = n.toNat) (hcheck : check.length = 2)
    (hright : check = u16 (crc16 (n :: kind :: tag :: payload)).toNat) : s.frameComplete p =
    let early := fun (code : AnswerCode) =>
      s.modPort p fun w => PortWork.early { w with receiver := .hunting } tag kind code
    if (s.port p).hand ≠ none then early .portBusy
    else if kind.toNat = 0 ∨ 69 < kind.toNat then early .unknownRequest
    else if permitted (s.portCfg p).role p kind.toNat = false then early .notPermitted
    else (decodeRequest { port := p, tag := tag } kind.toNat payload).elim (early .badArgument) fun i =>
      (s.modPort p fun w =>
        { w with receiver := .hunting, hand := some { tag := tag, role := (s.portCfg p).role } }).raise [i] := by
  rw [State.frameComplete_right h hbody hcheck hright, State.judgeFrame_eq]
  simp only [State.modPort_modPort, State.port_modPort_self, State.portCfg_modPort]

end

end

end Sys2Proof.Machine

open Sys2Proof Sys2Proof.Machine

/-- Settles O56: the receiver by its two states, then the tests of R200 one after the other. -/
theorem framesAreReceivedAndJudged : Obligations.FramesAreReceivedAndJudged := by
  refine ⟨?_, ?_⟩
  · intro s p hrun discard
    refine ⟨?_, ?_, ?_⟩
    · intro ch error c
      refine (exec_characterReceived ..).trans (event_after s c _ _ hrun ?_)
      refine congrArg ((s.consume c).frameComplete p |>.modPort p) (funext fun w => ?_)
      cases hw : w.receiver with
      | hunting => exact w.take_hunting ch error hw
      | collecting bs gap => exact w.take_collecting ch error hw
    · intro c
      refine (exec_gapTimerExpiry ..).trans (event_after s c _ _ hrun ?_)
      cases hw : (s.port p).receiver with
      | hunting => exact State.gapExpiry_hunting (s := s.consume c) hw
      | collecting bs gap => exact State.gapExpiry_collecting (s := s.consume c) hw
    · intro c
      refine ⟨fun hnot => ?_, fun n body check gap h hbody hcheck hwrong => ?_⟩
      · refine (exec_frameComplete ..).trans (event_after s c _ _ hrun ?_)
        rcases hnot with h | ⟨gap, h⟩ | ⟨n, rest, gap, h, hlength⟩
        · exact State.frameComplete_hunting (s := s.consume c) h
        · exact State.frameComplete_partial (s := s.consume c) h rfl
        · exact State.frameComplete_partial (s := s.consume c) h (beq_eq_false_iff_ne.mpr hlength)
      · exact (exec_frameComplete ..).trans
          (event_after s c _ _ hrun (State.frameComplete_wrong (s := s.consume c) h hbody hcheck hwrong))
  · intro s p n kind tag payload check gap hrun h hbody hcheck hright c early
    have hjudged := State.frameComplete_judged (s := s.consume c) h hbody hcheck hright
    have hexec : ∀ u : State → State, (s.consume c).frameComplete p = u (s.consume c) → exec c s = .next (s.after c u) :=
      fun u hu => (exec_frameComplete ..).trans (event_after s c _ u hrun hu)
    refine ⟨fun hbusy => ?_, fun hfree hkind => ?_, fun hfree hlow hhigh => ?_⟩
    · exact hexec _ (hjudged.trans (if_pos hbusy))
    · exact hexec _ (hjudged.trans ((if_neg (not_not.mpr hfree)).trans (if_pos hkind)))
    · have hkind : ¬ (kind.toNat = 0 ∨ 69 < kind.toNat) := by omega
      have hknown := hjudged.trans ((if_neg (not_not.mpr hfree)).trans (if_neg hkind))
      refine ⟨fun hrole => hexec _ (hknown.trans (if_pos hrole)), fun hrole => ?_⟩
      have hpermitted := hknown.trans (if_neg (by simpa using hrole))
      refine ⟨fun hbad => hexec _ (hpermitted.trans ?_), fun i hgood => hexec _ (hpermitted.trans ?_)⟩
      · rw [hbad]
        rfl
      · rw [hgood]
        rfl
end

section
/-! SUPPORT. The queue of waiting commands under every operation: only the taking of a command by a step touches it, and a
start keeps it (logs 6, 19). -/

namespace Sys2Proof.Machine

section
variable (s : State)

/-! ### Shared operations -/

@[simp] theorem State.pending_ite (c : Prop) [Decidable c] (t : State) :
    (if c then s else t).pending = if c then s.pending else t.pending := apply_ite State.pending c s t
@[simp] theorem State.pending_foldl {α : Type} (f : State → α → State) (h : ∀ t a, (f t a).pending = t.pending) (xs : List α) :
    (xs.foldl f s).pending = s.pending := State.foldl_keeps State.pending h xs s
@[simp] theorem State.pending_flagIf (b : Bool) (f : Flag) : (s.flagIf b f).pending = s.pending := by simp [State.flagIf]
@[simp] theorem State.pending_judgeLamps (l : Lane) : (s.judgeLamps l).pending = s.pending := rfl
@[simp] theorem State.pending_settle (old : State) : (State.settle old s).pending = s.pending :=
  (congrArg State.pending (State.inner_settle old s) :)
@[simp] theorem State.pending_reply (q : Sender) (kind : Nat) (x : Reply) : (s.reply q kind x).pending = s.pending := rfl

/-! ### Barriers -/

@[simp] theorem State.pending_changeBar (b : Barrier) (reason : BarrierReason) (f : BarrierWork → BarrierWork) :
    (s.changeBar b reason f).pending = s.pending := (State.Steady.changeBar s b reason f).pending
@[simp] theorem State.pending_faultBar (b : Barrier) (cause : FaultCause) : (s.faultBar b cause).pending = s.pending := by
  simp [State.faultBar]
@[simp] theorem State.pending_judgeLowering (b : Barrier) : (s.judgeLowering b).pending = s.pending :=
  (State.Steady.judgeLowering s b).pending
@[simp] theorem State.pending_judgeKeepalive (b : Barrier) : (s.judgeKeepalive b).pending = s.pending := rfl
@[simp] theorem State.pending_failAction (b : Barrier) : (s.failAction b).pending = s.pending := by simp [State.failAction]
@[simp] theorem State.pending_place (b : Barrier) : (s.place b).pending = s.pending := (State.Steady.place s b).pending
@[simp] theorem State.pending_markClosing (b : Barrier) (old : BarrierState) : (s.markClosing b old).pending = s.pending := by
  simp [State.markClosing]
@[simp] theorem State.pending_endCommandHold (b : Barrier) : (s.endCommandHold b).pending = s.pending := by
  simp [State.endCommandHold]
@[simp] theorem State.pending_firstLimits (x : Lines) (b : Barrier) : (s.firstLimits x b).pending = s.pending := by
  simp [State.firstLimits]

/-! ### Arbiters -/

@[simp] theorem State.pending_changeArb (d : Deck) (f : Arbiter → Arbiter) : (s.changeArb d f).pending = s.pending := by
  simp [State.changeArb]
@[simp] theorem State.pending_makeChoice (d : Deck) : (s.makeChoice d).pending = s.pending := by
  simp only [State.makeChoice]; (repeat' split) <;> simp
@[simp] theorem State.pending_withdrawal (d : Deck) (l : Lane) : (s.withdrawal d l).pending = s.pending := by
  unfold State.withdrawal; split <;> simp
@[simp] theorem State.pending_withdrawGrant (d : Deck) (cause : WithdrawCause) : (s.withdrawGrant d cause).pending = s.pending := by
  unfold State.withdrawGrant; split <;> simp
@[simp] theorem State.pending_entryPassage (d : Deck) (g : Grant) : (s.entryPassage d g).pending = s.pending := by
  simp [State.entryPassage]
@[simp] theorem State.pending_intrusion (d : Deck) : (s.intrusion d).pending = s.pending := by simp [State.intrusion]
@[simp] theorem State.pending_deckEmpty (d : Deck) : (s.deckEmpty d).pending = s.pending := by simp [State.deckEmpty]

/-! ### The frequency capture unit -/

@[simp] theorem State.pending_modChans (cs : List Channel) (f : ChannelWork → ChannelWork) :
    (s.modChans cs f).pending = s.pending := s.pending_foldl (fun t c => t.modChan c f) (fun _ _ => rfl) cs
@[simp] theorem State.pending_openWindow (d : Deck) (boundary : Nat) : (s.openWindow d boundary).pending = s.pending :=
  (State.Steady.openWindow s d boundary).pending
@[simp] theorem State.pending_maybeOpen (d : Deck) : (s.maybeOpen d).pending = s.pending := by simp [State.maybeOpen]
@[simp] theorem State.pending_dropCounts (d : Deck) : (s.dropCounts d).pending = s.pending := by simp [State.dropCounts]
@[simp] theorem State.pending_judgeChannel (d : Deck) (window : Nat) (c : Channel) :
    (s.judgeChannel d window c).pending = s.pending := by
  simp only [State.judgeChannel]; split <;> simp
@[simp] theorem State.pending_windowClose (d : Deck) : (s.windowClose d).pending = s.pending := by
  unfold State.windowClose; split <;> simp
@[simp] theorem State.pending_closeDue (d : Deck) (n : Nat) : (s.closeDue d n).pending = s.pending := by
  induction n generalizing s with
  | zero => rfl
  | succ n ih => rw [State.closeDue, ih, State.pending_windowClose]
@[simp] theorem State.pending_shortRecord (d : Deck) : (s.shortRecord d).pending = s.pending := by
  unfold State.shortRecord; split <;> simp
@[simp] theorem State.pending_shortClose (d : Deck) : (s.shortClose d).pending = s.pending := by simp [State.shortClose]

/-! ### Engines, captures and calibration -/

@[simp] theorem State.pending_dropCapture (d : Deck) (reason : FailReason) : (s.dropCapture d reason).pending = s.pending := by
  unfold State.dropCapture; split <;> simp
@[simp] theorem State.pending_failCollection (d : Deck) (reason : CalFailReason) :
    (s.failCollection d reason).pending = s.pending := by
  unfold State.failCollection; split <;> simp
@[simp] theorem State.pending_refreshEngine (d : Deck) (window : Option Nat) : (s.refreshEngine d window).pending = s.pending := by
  simp [State.refreshEngine]
@[simp] theorem State.pending_refreshActive (d : Deck) (window : Option Nat) : (s.refreshActive d window).pending = s.pending := by
  simp [State.refreshActive]
@[simp] theorem State.pending_failCapture (d : Deck) (reason : FailReason) (window : Option Nat) :
    (s.failCapture d reason window).pending = s.pending := by
  simp [State.failCapture]
@[simp] theorem State.pending_changeZd (d : Deck) (delta : Int) : (s.changeZd d delta).pending = s.pending := rfl
@[simp] theorem State.pending_latchZeroLimit (d : Deck) (positive : Bool) (window : Option Nat) :
    (s.latchZeroLimit d positive window).pending = s.pending := by
  simp [State.latchZeroLimit]
@[simp] theorem State.pending_advanceCounter : s.advanceCounter.pending = s.pending := rfl
@[simp] theorem State.pending_touchDeck (old : State) (window : Option Nat) (d : Deck) :
    (State.touchDeck old s window d).pending = s.pending := by
  simp [State.touchDeck]
@[simp] theorem State.pending_metroChange (old : State) (ds : List Deck) (window : Option Nat) :
    (State.metroChange old s ds window).pending = s.pending := by
  simp [State.metroChange]
@[simp] theorem State.pending_setChange (old : State) (r : CalRequest) (ds : List Deck) (ch : Option Channel) :
    (State.setChange old s r ds ch).pending = s.pending := by
  simp [State.setChange]
@[simp] theorem State.pending_storeMetrology (d : Deck) (m : Metrology) : (s.storeMetrology d m).pending = s.pending := by
  simp [State.storeMetrology]
@[simp] theorem State.pending_writePair (r : CalRequest) (c : Channel) (f : ChannelCfg → ChannelCfg) :
    (s.writePair r c f).1.pending = s.pending := by
  simp [State.writePair, apply_ite Prod.fst]
@[simp] theorem State.pending_startCollection (d : Deck) (k : CollectionKind) (origin : Port) :
    (s.startCollection d k origin).1.pending = s.pending := by
  unfold State.startCollection; split <;> simp
@[simp] theorem State.pending_giveRelease (d : Deck) (n : Option Nat) : (s.giveRelease d n).pending = s.pending := by
  simp [State.giveRelease]
@[simp] theorem State.pending_startCapture (d : Deck) (origin : Option Port) : (s.startCapture d origin).pending = s.pending := by
  unfold State.startCapture; split <;> simp
@[simp] theorem State.pending_returnToService (d : Deck) : (s.returnToService d).pending = s.pending := by
  simp [State.returnToService]
@[simp] theorem State.pending_mapChannel (c : Channel) (m : Option Deck) (p : Edge) :
    (s.mapChannel c m p).pending = s.pending := by
  simp [State.mapChannel]

/-! ### Windows at the engines -/

@[simp] theorem State.pending_takeWindow (w : WindowRecord) : (s.takeWindow w).1.pending = s.pending := by
  simp only [State.takeWindow]; split <;> simp [apply_ite Prod.fst]
@[simp] theorem State.pending_completeCapture (d : Deck) (c : Capture) (weight : Int) (e : Nat) (cls : WeighClass) (window : Nat) :
    (s.completeCapture d c weight e cls window).pending = s.pending := by
  simp [State.completeCapture]
@[simp] theorem State.pending_testStability (d : Deck) (c : Capture) (r : Reading) :
    (s.testStability d c r).pending = s.pending := by
  simp only [State.testStability]; (repeat' split) <;> simp
@[simp] theorem State.pending_modCapture (d : Deck) (f : Capture → Capture) : (s.modCapture d f).pending = s.pending := rfl
@[simp] theorem State.pending_offerCapture (d : Deck) (r : Reading) (marked : Bool) :
    (s.offerCapture d r marked).pending = s.pending := by
  unfold State.offerCapture; split <;> simp
@[simp] theorem State.pending_trackZero (d : Deck) (r : Reading) : (s.trackZero d r).pending = s.pending := by
  unfold State.trackZero; split <;> simp
@[simp] theorem State.pending_zeroCompletion (d : Deck) (k : Collection) (window : Nat) :
    (s.zeroCompletion d k window).pending = s.pending := by
  simp only [State.zeroCompletion, State.pending_post, State.pending_metroChange, State.pending_modEng, State.pending_modDeckCfg]
  refine s.pending_foldl _ ?_ _
  exact fun _ _ => rfl
@[simp] theorem State.pending_spanCompletion (d : Deck) (k : Collection) (load : Int) (window : Nat) :
    (s.spanCompletion d k load window).pending = s.pending := by
  simp only [State.spanCompletion, State.pending_ite, State.pending_failCollection, State.pending_post, State.pending_metroChange,
    State.pending_modEng, ite_eq_left_iff]
  refine fun _ => s.pending_foldl _ ?_ _
  exact fun _ _ => rfl
@[simp] theorem State.pending_putCollection (d : Deck) (k : Collection) : (s.putCollection d k).pending = s.pending := rfl
@[simp] theorem State.pending_offerCollection (d : Deck) (w : WindowRecord) (r : Reading) :
    (s.offerCollection d w r).pending = s.pending := by
  simp only [State.offerCollection]; (repeat' split) <;> simp

/-! ### Lanes -/

@[simp] theorem State.pending_changeLane (l : Lane) (f : LaneWork → LaneWork) : (s.changeLane l f).pending = s.pending := by
  simp [State.changeLane]
@[simp] theorem State.pending_realign (l : Lane) (r : LaneFiling) (f : Feed) : (s.realign l r f).pending = s.pending := by
  simp [State.realign]
@[simp] theorem State.pending_modLamp (l : Lane) (k : Lamp) (f : LampWork → LampWork) :
    (s.modLamp l k f).pending = s.pending := rfl

/-! ### The yard records -/

@[simp] theorem State.pending_modEntry (n : Nat) (f : Entry → Entry) : (s.modEntry n f).pending = s.pending := rfl
@[simp] theorem State.pending_dropEntry (n : Nat) : (s.dropEntry n).pending = s.pending := rfl
@[simp] theorem State.pending_applyTare (w : TareWrite) : (s.applyTare w).pending = s.pending := by
  unfold State.applyTare; split <;> simp
@[simp] theorem State.pending_issue (t : Ticket) : (s.issue t).pending = s.pending := by simp [State.issue]
@[simp] theorem State.pending_attemptClosure (e : Entry) : (s.attemptClosure e).pending = s.pending := by
  simp only [State.attemptClosure]; (repeat' split) <;> simp
@[simp] theorem State.pending_retry : s.retry.pending = s.pending := by simp [State.retry]
@[simp] theorem State.pending_cancelOnDeck (e : Entry) : (s.cancelOnDeck e).pending = s.pending := by
  simp only [State.cancelOnDeck]; split <;> simp
@[simp] theorem State.pending_tareCompletion (e : Entry) (c : CaptureResult) : (s.tareCompletion e c).pending = s.pending := by
  simp only [State.tareCompletion]; (repeat' split) <;> simp
@[simp] theorem State.pending_afterWeighing (e : Entry) (c : CaptureResult) (p : Purpose) :
    (s.afterWeighing e c p).pending = s.pending := by
  simp only [State.afterWeighing]; split <;> simp
theorem pending_onEntry (r : Role) (n : Nat) (f : Entry → State → State × Reply) (hf : ∀ e, (f e s).1.pending = s.pending) :
    (onEntry n f r s).1.pending = s.pending := by
  simp only [onEntry]; (repeat' split) <;> simp [hf]

/-! ### The supervisor and the yard tick -/

@[simp] theorem State.pending_changeMode (m : YardMode) (drain : Bool) : (s.changeMode m drain).pending = s.pending := by
  simp [State.changeMode]
@[simp] theorem State.pending_judgeDrain : s.judgeDrain.pending = s.pending := by simp [State.judgeDrain]
@[simp] theorem State.pending_modeAtCapture (d : Deck) (m : YardMode) : (s.modeAtCapture d m).pending = s.pending := by
  simp [State.modeAtCapture]
@[simp] theorem State.pending_tick (m : TickMark) (x : Lines) : (s.tick m x).pending = s.pending := by
  have hopen : (s.counted m x).openBoth.pending = s.pending := by simp [State.openBoth, State.counted]
  simp [State.tick_eq, hopen]

/-! ### Frames -/

@[simp] theorem State.pending_judgeFrame (p : Port) (body : List Byte) : (s.judgeFrame p body).pending = s.pending := by
  unfold State.judgeFrame; (repeat' split) <;> simp
@[simp] theorem State.pending_frameComplete (p : Port) : (s.frameComplete p).pending = s.pending := by
  unfold State.frameComplete; split <;> simp

end

/-! ### The taking of commands -/

/-- An outcome is a next state with the queue of `s`. -/
def State.Completes (s : State) (o : Outcome) : Prop := ∃ t, o = .next t ∧ t.pending = s.pending

section
variable {s : State}

/-- An event or request leaves the queue, whether the main domain runs or is stopped. -/
theorem State.completes_taken {u : State} (hu : u.pending = s.pending) :
    s.Completes (.next (if s.running then State.settle s u else s)) := ⟨_, rfl, by simp [hu]⟩

theorem completes_event {c : Instr} {f : State → State} {o : Outcome} (ho : o = event c f s)
    (hf : ∀ u : State, (f u).pending = u.pending) : s.Completes o := ho ▸ State.completes_taken (hf _)

/-- A request that its port turns away leaves the queue too. -/
theorem completes_request {c : Instr} {q : Sender} {f : Serve} {o : Outcome} (ho : o = request c q f s)
    (hf : ∀ (r : Role) (u : State), (f r u).1.pending = u.pending) : s.Completes o := by
  refine ho ▸ State.completes_taken ?_
  unfold State.takeRequest State.serveHand
  simp [hf]

end

/-- A request is answered, by its block or by its port, and leaves the queue. -/
theorem completes_exec_request (c : Instr) (hc : c.spelling.isSome = true) (s : State) : s.Completes (exec c s) := by
  cases c with
  | listYard | listTares | readClock | readInputs | readBarriers | yardReset | readSupervisor | readPorts
  | setNoticeFloor | quiet | readStatus => exact completes_request rfl fun _ _ => rfl
  | hold | releaseHold | quarantine | close =>
    refine completes_request rfl fun r u => pending_onEntry u r _ _ fun _ => ?_
    (repeat' split) <;> simp
  | amend | cancelTransaction | forceExit =>
    refine completes_request rfl fun r u => pending_onEntry u r _ _ fun _ => ?_
    dsimp only
    (repeat' split) <;> simp
  | identify =>
    refine completes_request rfl fun _ u => ?_
    simp only [serveIdentify, State.admission, State.recallEntry]
    (repeat' split) <;> simp
  | readTransaction | findPlate | storeTare | deleteTare | readTare | setTareValidity | setClock | setTicketBase
  | voidTicket | collectNext | readTicket | confirmCollected =>
    refine completes_request rfl fun _ u => ?_
    simp only [serveReadTransaction, serveFindPlate, serveStoreTare, serveDeleteTare, serveReadTare,
      serveSetTareValidity, serveSetClock, serveSetTicketBase, serveVoidTicket, serveCollectNext, serveReadTicket,
      serveConfirmCollected]
    (repeat' split) <;> simp
  | setChannelMap | setChannelLimits | clearFaults | readChannels | setOccupancy | readDeck =>
    refine completes_request rfl fun _ u => ?_
    simp only [serveSetChannelMap, serveSetChannelLimits, serveClearFaults, serveReadChannels, serveSetOccupancy,
      serveReadDeck]
    (repeat' split) <;> simp
  | setCaptureOptions | capture | abortCapture | zeroDeck | readCapture =>
    refine completes_request rfl fun _ u => ?_
    simp only [serveSetCaptureOptions, serveCapture, serveAbortCapture, serveZeroDeck, serveReadCapture]
    (repeat' split) <;> simp
  | setMetrology | setChannelFactor | setChannelZero | calZeroDeck | calSpanDeck | abortCalibration | readCalibration =>
    refine completes_request rfl fun _ u => ?_
    simp only [serveSetMetrology, serveSetChannelFactor, serveSetChannelZero, serveCalZeroDeck, serveCalSpanDeck,
      serveAbortCalibration, serveReadCalibration]
    (repeat' split) <;> simp
  | setProceedTime | clearTailgate | setDeckService | readDeckState =>
    refine completes_request rfl fun _ u => ?_
    simp only [serveSetProceedTime, serveClearTailgate, serveSetDeckService, serveReadDeckState]
    (repeat' split) <;> simp
  | setConditioner | setLaneTimers | setLaneFeed | setLaneMode | setLamp | setSignalHead | setLampInvert | readLane =>
    refine completes_request rfl fun _ u => ?_
    simp only [serveSetConditioner, serveSetLaneTimers, serveSetLaneFeed, serveSetLaneMode, serveSetLamp,
      serveSetSignalHead, serveSetLampInvert, serveReadLane]
    (repeat' split) <;> simp
  | setBarrier | barrierReset | barrierCommand =>
    refine completes_request rfl fun _ u => ?_
    simp only [serveSetBarrier, serveBarrierReset, serveBarrierCommand]
    (repeat' split) <;> simp
  | setYardMode | setAlarmMask | setPortRole | bindKiosk | setPortRate =>
    refine completes_request rfl fun _ u => ?_
    simp only [serveSetYardMode, serveSetAlarmMask, serveSetPortRole, serveBindKiosk, serveSetPortRate]
    (repeat' split) <;> simp
  | _ => cases hc

/-- An event has its effect and leaves the queue; so do the ticks, the stop and the starts. -/
theorem completes_exec_event (c : Instr) (hc : c.spelling.isSome = false) (s : State) : s.Completes (exec c s) := by
  cases c with
  | withdrawalReport =>
    exact completes_event (exec_withdrawalReport ..) fun u => by simp only [State.withdrawalReport]; (repeat' split) <;> simp
  | entryPassageReport =>
    exact completes_event (exec_entryPassageReport ..) fun u => by simp only [State.entryPassageReport]; split <;> simp
  | recordsCaptureCompletion =>
    exact completes_event (exec_recordsCaptureCompletion ..) fun u => by
      simp only [State.captureCompletion]; (repeat' split) <;> simp
  | recordsCaptureFailure => exact completes_event (exec_recordsCaptureFailure ..) fun _ => rfl
  | exitPassageReport =>
    exact completes_event (exec_exitPassageReport ..) fun u => by unfold State.exitPassageReport; split <;> simp
  | windowClose => exact completes_event (exec_windowClose ..) (by simp)
  | engineWindow => exact completes_event (exec_engineWindow ..) (by simp [State.engineWindow])
  | captureStart => exact completes_event (exec_captureStart ..) (by simp)
  | recordsAbort => exact completes_event (exec_recordsAbort ..) (by simp [State.recordsAbort])
  | captureExternalEnd => exact completes_event (exec_captureExternalEnd ..) (by simp)
  | attemptTimerExpiry =>
    exact completes_event (exec_attemptTimerExpiry ..) fun u => by simp only [State.attemptExpiry]; (repeat' split) <;> simp
  | leaveDeckTimerExpiry => exact completes_event (exec_leaveDeckTimerExpiry ..) (by simp [State.leaveDeckExpiry])
  | positioningEdge =>
    exact completes_event (exec_positioningEdge ..) fun u => by simp only [State.positioningEdge]; (repeat' split) <;> simp
  | filing => exact completes_event (exec_filing ..) fun _ => rfl
  | withdrawal => exact completes_event (exec_withdrawal ..) (by simp)
  | choice => exact completes_event (exec_choice ..) (by simp)
  | acceptance => exact completes_event (exec_acceptance ..) (by simp [State.acceptance])
  | decline => exact completes_event (exec_decline ..) (by simp [State.decline])
  | proceedTimeout => exact completes_event (exec_proceedTimeout ..) (by simp [State.proceedTimeout])
  | exitReleaseAtArbiter => exact completes_event (exec_exitReleaseAtArbiter ..) fun _ => rfl
  | captureCompletionAtArbiter => exact completes_event (exec_captureCompletionAtArbiter ..) fun _ => rfl
  | captureFailureAtArbiter => exact completes_event (exec_captureFailureAtArbiter ..) fun _ => rfl
  | forceExitNoticeAtArbiter => exact completes_event (exec_forceExitNoticeAtArbiter ..) fun _ => rfl
  | barrierStateTaken =>
    exact completes_event (exec_barrierStateTaken ..) fun u => by simp only [State.barrierStateTaken]; split <;> simp
  | deckEmpty => exact completes_event (exec_deckEmpty ..) (by simp)
  | conditionerEdge => exact completes_event (exec_conditionerEdge ..) (by simp [State.conditionerEdge])
  | stopLoopEdge => exact completes_event (exec_stopLoopEdge ..) fun u => by unfold State.stopLoopEdge; split <;> simp
  | stuckTimerExpiry => exact completes_event (exec_stuckTimerExpiry ..) (by simp [State.stuckExpiry])
  | filingOrder => exact completes_event (exec_filingOrder ..) fun u => by simp only [State.filingOrder]; split <;> simp
  | absenceTimerExpiry =>
    exact completes_event (exec_absenceTimerExpiry ..) fun u => by unfold State.absenceExpiry; split <;> simp
  | cancelOrder =>
    exact completes_event (exec_cancelOrder ..) fun u => by simp only [State.cancelOrder]; (repeat' split) <;> simp
  | offerAtLane => exact completes_event (exec_offerAtLane ..) (by simp [State.offerAtLane])
  | grantWithdrawnAtLane => exact completes_event (exec_grantWithdrawnAtLane ..) (by simp [State.grantWithdrawn])
  | entryPassageAtLane => exact completes_event (exec_entryPassageAtLane ..) (by simp [State.entryPassageAtLane])
  | stretchTimerExpiry => exact completes_event (exec_stretchTimerExpiry ..) fun _ => rfl
  | limitEvent => exact completes_event (exec_limitEvent ..) fun u => by unfold State.limitEvent; split <;> simp
  | permissiveRise => exact completes_event (exec_permissiveRise ..) (by simp [State.permissiveRise])
  | permissiveFall => exact completes_event (exec_permissiveFall ..) (by simp [State.permissiveFall])
  | barrierLoopEdge =>
    exact completes_event (exec_barrierLoopEdge ..) fun u => by unfold State.barrierLoopEdge; split <;> simp
  | closeDelayExpiry => exact completes_event (exec_closeDelayExpiry ..) (by simp [State.closeDelayExpiry])
  | motionTimeout => exact completes_event (exec_motionTimeout ..) (by simp [State.motionTimeout])
  | keepaliveToggle => exact completes_event (exec_keepaliveToggle ..) (by simp [State.keepaliveToggle])
  | yardModeTaken => exact completes_event (exec_yardModeTaken ..) fun u => by unfold State.modeTaken; split <;> simp
  | drain => exact completes_event (exec_drain ..) (by simp)
  | watchExpiry => exact completes_event (exec_watchExpiry ..) (by simp [State.watchExpiry])
  | qualification => exact completes_event (exec_qualification ..) (by simp [State.qualify])
  | startTimerExpiry => exact completes_event (exec_startTimerExpiry ..) (by simp [State.startExpiry])
  | supplyLow => exact completes_event (exec_supplyLow ..) (by simp [State.enterSupplyLow])
  | supplyRestored => exact completes_event (exec_supplyRestored ..) (by simp [State.restoreSupply])
  | supplyStateTaken =>
    exact completes_event (exec_supplyStateTaken ..) fun u => by simp only [State.supplyTaken]; split <;> simp
  | calSwitch => exact completes_event (exec_calSwitch ..) (by simp [State.takeCalSwitch])
  | frameComplete => exact completes_event (exec_frameComplete ..) (by simp)
  | gapTimerExpiry => exact completes_event (exec_gapTimerExpiry ..) fun _ => rfl
  | frameSent => exact completes_event (exec_frameSent ..) fun u => by unfold State.frameSent; split <;> simp
  | noticeAdmission => exact completes_event (exec_noticeAdmission ..) fun _ => rfl
  | quietTimerExpiry => exact completes_event (exec_quietTimerExpiry ..) fun _ => rfl
  | converterEdge => exact completes_event (exec_converterEdge ..) fun u => by unfold State.converterEdge; split <;> simp
  | characterReceived => exact completes_event (exec_characterReceived ..) (by simp [State.character])
  | entryLoopEdgeAtArbiter d e =>
    cases e with
    | rising =>
      exact completes_event (exec_entryLoopEdgeAtArbiter d .rising s) fun u => by
        simp only [State.entryRise]; (repeat' split) <;> simp
    | falling =>
      exact completes_event (exec_entryLoopEdgeAtArbiter d .falling s) fun u => by
        simp only [State.entryFall]; (repeat' split) <;> simp
  | exitLoopEdgeAtArbiter d e =>
    cases e with
    | rising => exact completes_event (exec_exitLoopEdgeAtArbiter d .rising s) fun _ => rfl
    | falling =>
      exact completes_event (exec_exitLoopEdgeAtArbiter d .falling s) fun u => by
        simp only [State.exitFall]; (repeat' split) <;> simp
  | yardTick =>
    refine ⟨_, rfl, ?_⟩
    split <;> simp
  | yardClockSecond => exact ⟨_, rfl, rfl⟩
  | mainDomainStop => exact ⟨_, rfl, rfl⟩
  | mainReset => exact ⟨_, rfl, s.pending_restart ..⟩
  | yardResetEffect =>
    refine ⟨_, rfl, ?_⟩
    split
    · exact s.pending_restart ..
    · rfl
  | _ => cases hc

end Sys2Proof.Machine

open Sys2Proof.Machine

/-- Settles O2: the requests and the events, command by command; every operation of theirs leaves the queue. -/
theorem everyCommandCompletes : Obligations.EveryCommandCompletes := by
  intro c s
  cases hc : c.spelling.isSome with
  | true => exact completes_exec_request c hc s
  | false => exact completes_exec_event c hc s
end
